-- ==== Sys2Proof/Word.lean ====
section
/-!
DEFINITION. The words of the HK8160 model: a byte, and the little lists of bytes that cross the host interface.
-/
namespace Sys2Proof

/-- One byte of a descriptor, a frame or a memory. -/
abbrev Byte := BitVec 8

/-- A 32-bit register or Ledger word. -/
abbrev Word32 := BitVec 32

/-- A 64-byte command as the transports carry it (07 R193): byte `k` of the command is bits `8k+7 .. 8k`. -/
abbrev Descriptor := BitVec 512

end Sys2Proof
end

