-- ==== Sys2Proof/Machine/Parts.lean ====
section
/-!
DEFINITION. What a channel holds (09, 10, 11) as plain data. These types stand before the commands, since a move carries a
whole channel from member to member (15 R473).
-/
namespace Sys2Proof

/-- A leg of a channel (09, before R259). -/
inductive Leg where
  | a
  | b
deriving DecidableEq, Repr

namespace Machine

/-- Jitter buffer mode and delays (11 R347). -/
structure JitterCfg where
  fixed : Bool := false
  nominalMs : Nat := 40
  minMs : Nat := 20
  maxMs : Nat := 160
deriving DecidableEq, Repr

/-- Detector settings of one leg (09 R288, Table 9-10). -/
structure DetectCfg where
  enable : BitVec 3 := 3
  dtmfMinMs : Nat := 40
  dtmfMinDbm0 : Int := -36
  userF1 : Nat := 0
  userF2 : Nat := 0
  userTol : Nat := 0
  userMinDbm0 : Int := 0
  userMinMs : Nat := 0
deriving DecidableEq, Repr

/-- Stage 1 filter, alignment target and limits of one leg (10 Table 10-3). -/
structure PhaseCfg where
  minimumPhase : Bool := false
  delay : Nat := 0
  slewPpm : Nat := 400
  glideLimitPpm : Nat := 500
deriving DecidableEq, Repr

/-- Level meter settings of one leg (10 Table 10-4). -/
structure LevelCfg where
  enable : Bool := false
  point : Nat := 0
  hysteresisDb : Nat := 0
  threshold : Int := 0
  attackMs : Nat := 0
  releaseMs : Nat := 0
  reportFrames : Nat := 0
deriving DecidableEq, Repr

/-- An SRTP context (09 R276): `top` and `window` are the highest index and the replay window of SRTP, `rtcpTop` and
`rtcpWindow` those of SRTCP. -/
structure SrtpContext where
  suite : Nat
  key : BitVec 256
  salt : BitVec 112
  roc : Word32
  srtcpClear : Bool
  packets : Nat := 0
  rtcpPackets : Nat := 0
  top : Nat := 0
  window : BitVec 128 := 0
  rtcpTop : Nat := 0
  rtcpWindow : BitVec 128 := 0
deriving DecidableEq, Repr

/-- A generated tone (09 R286). -/
structure ToneGenerator where
  isDigit : Bool
  digit : Nat
  mix : Bool
  f1 : Nat
  f2 : Nat
  level1 : Int
  level2 : Int
  plays : Nat
  cadence : List (Nat × Nat)
  startFrame : Nat
deriving DecidableEq, Repr

/-- A DTMF digit that is sent toward a leg (09 R270 to R272): carried from the other leg, or `generated` there. It goes as audio
where `inband`, and as RFC 4733 events where `events`, with the RTP timestamp of its start; `frames` are the frame tasks that have
sent it, and `ends` the end packets sent once it has `ended`. -/
structure DigitOut where
  digit : Nat
  volume : Nat
  inband : Bool
  events : Bool
  generated : Bool
  timestamp : Word32
  frames : Nat := 0
  ended : Bool := false
  ends : Nat := 0
deriving DecidableEq, Repr

/-- A tone that a detector holds open (09 R266). -/
structure OpenTone where
  kind : Byte
  level : Byte
  since : Nat
deriving DecidableEq, Repr

/-- An RFC 4733 event that a leg receives (09 R271): its timestamp, the units of the segments before, and the duration that its
latest packet gave. -/
structure OpenEvent where
  code : Byte
  volume : Byte
  timestamp : Nat
  before : Nat
  duration : Nat
deriving DecidableEq, Repr

/-- What a leg's decoder gives for a frame (09 R261, R269): the frame of a packet, comfort noise, or what conceals a lost frame:
G.711 Appendix I at a rate in kHz, the codec's own scheme, or silence. -/
inductive DecoderOutput where
  | decoded
  | comfortNoise
  | appendixI (kHz : Nat)
  | codecOwn
  | silence
deriving DecidableEq, Repr

/-- A level meter at work (10 R308 to R311): the smoothed power, none where it stands at the floor. -/
structure Meter where
  cfg : LevelCfg := {}
  high : Bool := false
  power : Option Nat := none
  frames : Nat := 0
  edgeTimes : List Nat := []
  lastLevel : Int := -1440
  next : Option LevelCfg := none
deriving DecidableEq, Repr

/-- A leg's FCU paths (10 R297 to R307): the receive path's alignment in units of 125 µs / 65,536 with what is left of its slew, ρ
in 1/16 ppm, the accumulator in 1/65,536 sample, what is left over of its advance and of the playout point's moves, and the filter
histories of both receive stages and of the transmit stage. -/
structure FcuPath where
  cfg : PhaseCfg := {}
  next : Option (PhaseCfg × Bool) := none
  current : Nat := 0
  slewRest : Nat := 0
  rho : Int := 0
  clamped : Bool := false
  accumulator : Int := 0
  glideRest : Int := 0
  playoutRest : Int := 0
  rxStage1 : List Int := []
  rxStage2 : List Int := []
  txStage1 : List Int := []
deriving DecidableEq, Repr

/-- A packet held in a jitter buffer (11 R336); `cn` that it is of the leg's comfort noise payload type (09 R261). -/
structure HeldPacket where
  seq : Nat
  bytes : Nat
  playoutFrame : Nat
  inPool : Bool
  cn : Bool := false
deriving DecidableEq, Repr

/-- A leg's jitter buffer (11 R336 to R341); `lastTs` is the latest RTP timestamp, extended beyond its 32 bits. -/
structure JitterBuffer where
  cfg : JitterCfg := {}
  next : Option JitterCfg := none
  reserved : Nat := 0
  packets : List HeldPacket := []
  playedSeqs : List Nat := []
  anchor : Option (Int × Nat) := none
  lateEarlyRun : Nat := 0
  ssrc : Option Word32 := none
  lastTs : Option Int := none
  delayUs : Int := 0
  targetMs : Nat := 40
  latenessMs : List (Nat × Nat) := []
  secondMinimum : Option Int := none
  minima : List Int := []
deriving DecidableEq, Repr

/-- What RFC 3550 keeps of a source: the base and highest extended sequence numbers, the packets received, those expected and
received at the last report, the last transit time in timestamp units, and the jitter in sixteenths. -/
structure RtpStats where
  base : Nat := 0
  top : Nat := 0
  received : Nat := 0
  expectedPrior : Nat := 0
  receivedPrior : Nat := 0
  transit : Int := 0
  jitter16 : Nat := 0
deriving DecidableEq, Repr

/-- What the home of a session has told another device of its entry (01 R27; 11 R330, R334): all that the device needs that runs a
leg of it. -/
structure SessionCopy where
  handle : Word32
  flags : Byte
  epoch : Byte
  outerTag : BitVec 16
  innerTag : BitVec 16
  localIp : BitVec 128
  localPort : BitVec 16
  remote : Option (BitVec 128 × BitVec 16)
  nextHopMac : BitVec 48
  egressPort : Nat
  egressNode : Nat
  dscp : Nat
  hopLimit : Nat
  launchQueue : Nat
deriving DecidableEq, Repr

/-- The state of one leg of a channel. `latched` is the address that a bound session's leg accepts (11 R331, R332); `copy` is
the entry of a session whose home is elsewhere. -/
structure LegState where
  session : Word32 := 0
  copy : Option SessionCopy := none
  localSsrc : Word32 := 0
  remoteSsrc : Word32 := 0
  stats : Option RtpStats := none
  rttUs : Nat := 0xFFFFFFFF
  lastSr : Option (Nat × Nat) := none
  sentSinceReport : Bool := false
  sentPackets : Nat := 0
  sentOctets : Nat := 0
  reportDue : Nat := 0
  rxSrtp : Option SrtpContext := none
  rxPending : Option SrtpContext := none
  txSrtp : Option SrtpContext := none
  tone : Option ToneGenerator := none
  toneStopFrame : Option Nat := none
  digitsOut : List DigitOut := []
  detect : DetectCfg := {}
  detectNext : Option DetectCfg := none
  openDtmf : Option OpenTone := none
  openUser : Option OpenTone := none
  faxRaised : List Byte := []
  openTel : Option OpenEvent := none
  lastTel : Option Nat := none
  cmr : Option Nat := none
  output : DecoderOutput := .decoded
  udptlSeq : BitVec 16 := 0
  udptlFrame : Option Nat := none
  udptlSent : List (List Byte) := []
  meter : Meter := {}
  fcu : FcuPath := {}
  jb : JitterBuffer := {}
  latched : Option (BitVec 128 × BitVec 16) := none
  epoch : Byte := 0
  flags : Byte := 0
  lastAcceptedAt : Nat := 0
  notedPeriod : Nat := 0
deriving DecidableEq, Repr

/-- STATE of CHANNEL_QUERY (09 Table 9-6). -/
inductive ChannelState where
  | running
  | suspended
  | moving
deriving DecidableEq, Repr

/-- A channel's latest move (16 R495, R509), until CHANNEL_MOVED is posted; `restore` that its first frame is still to run as a
restore (08 R241; 16 R494). -/
structure MoveRecord where
  oldNode : Nat
  oldEngine : Nat
  cause : Nat
  framesLost : Nat
  restore : Bool
deriving DecidableEq, Repr

/-- A move between devices that the source is carrying out (15 R473). `admitted` that the destination has admitted the
channel; `lastFrame` is then frame n. -/
structure OutMove where
  entry : Option Nat
  target : Nat
  admitted : Bool
  engine : Nat
  slot : Nat
  lastFrame : Nat
  copied : Bool
  cause : Nat
  lost : Nat
deriving DecidableEq, Repr

/-- A channel that runs on this device (09 R280 to R283). `program` is bytes 24-43 of its last CHANNEL_OPEN or
CHANNEL_MODIFY that is in force, `next` and `nextB` the program and leg B's session that wait for the frame boundary; `closing`
holds the CHANNEL_CLOSE and the frame in which it began. -/
structure Channel where
  id : Nat
  engine : Nat
  slot : Nat
  level : Nat
  coins : Nat
  state : ChannelState
  program : BitVec 160
  next : Option (BitVec 160)
  nextB : Option SessionCopy := none
  conference : Option (Nat × Nat)
  firstFrame : Nat
  closing : Option (Option Nat × Nat)
  ecConverged : Bool
  ecDisabled : Bool
  nlpActive : Bool
  ecErl : Int
  ecErle : Nat
  checkpointFrame : Nat
  move : Option MoveRecord
  outMove : Option OutMove
  legA : LegState
  legB : LegState
deriving DecidableEq, Repr

/-- What a leg's task adds to its conference's contribution for a frame, after its gain (09 R275): the mean level in 1/16 dBm0 and
the samples. -/
structure Contribution where
  level : Int
  samples : List Int
deriving DecidableEq, Repr

/-- A leg of a conference (09 R274, R275, R285): its contributions of the present and the previous frame and the mix that it hears
in the present one. It takes part from `firstFrame` on, and until the next frame boundary where it is `leaving`. -/
structure ConferenceLeg where
  index : Nat
  channel : Nat
  listenOnly : Bool
  gainDb : Int
  contribution : Option Contribution := none
  previous : Option Contribution := none
  heard : List Int := []
  firstFrame : Nat := 0
  leaving : Bool := false
deriving DecidableEq, Repr

/-- A conference on this node (09 R274, R285); `ending` that it is deleted at the next frame boundary. -/
structure Conference where
  id : Nat
  maxLegs : Nat
  loudest : Nat
  wideband : Bool
  legs : List ConferenceLeg
  ending : Bool := false
deriving DecidableEq, Repr

/-- The place in a conference that a leg of a conference that moves whole brings with it (15 R474). -/
structure ConferencePlace where
  id : Nat
  maxLegs : Nat
  loudest : Nat
  wideband : Bool
  leg : ConferenceLeg
deriving DecidableEq, Repr

end Machine
end Sys2Proof
end

