-- ==== Sys2Proof/Syntax.lean ====
section
/-!
DEFINITION. The commands of the block: one constructor of `Instr` for each row of spec/opcode_table.json. A host
command carries its source and its header and parameters (07 R193); every other row carries what its stimulus brings
from outside: the word written, the frame received, the reading sampled, the outcome of a hardware unit.
-/
namespace Sys2Proof

/-- What another member's Steward sends with a command that it forwards (01 R27): its own number for the command, the data that it
has read from its host, and the session entries that the command needs here (DESIGN CHOICE, log 13). -/
structure PeerAsk where
  entry : Nat
  data : List Byte
  sessions : List Machine.SessionCopy
deriving DecidableEq, Repr

/-- Where a command came from: a command queue entry (06 R172), the direct mailbox (06 R166), the management mailbox
(07 R219), or another member's Steward over Tylane (01 R27). -/
inductive Source where
  | cq (q : Fin 4) (index : Fin 4096)
  | dmb
  | mgmt
  | peer (node : Fin 16) (ask : PeerAsk)
deriving DecidableEq, Repr

/-- A command less its OPCODE, which the row gives (07 R193, Table 7-1). Parameter byte `o` (16 to 63) is bits
`8(o-16)+7 .. 8(o-16)` of `params`. -/
structure Cmd where
  tag : BitVec 16
  flags : Byte
  format : Byte
  reserved : BitVec 16
  retryId : BitVec 64
  params : BitVec 384
deriving DecidableEq, Repr

/-- The read of host memory that a completion or failure answers (06 R173, R182): a CQ prefetch, or the data of the
open command with that take number. -/
inductive DmaTarget where
  | fetch (q : Fin 4)
  | command (entry : Nat)
deriving DecidableEq, Repr

/-- DMA_ERR_INFO.KIND (06 Table 6-10). -/
inductive DmaErrorKind where
  | unsupportedRequest
  | completerAbort
  | poisoned
  | completionTimeout
deriving DecidableEq, Repr

/-- One write transaction on the management target (18 R554, R555): command code, byte count, data bytes and whether
the PEC byte, when one follows, is right. -/
structure SmbusWrite where
  code : Byte
  count : Nat
  data : List Byte
  pecOk : Bool
deriving DecidableEq, Repr

/-- The levels of the strap pins (04 R115, Table 4-5). -/
structure Straps where
  bootSrc : BitVec 2
  clkMode : BitVec 2
  nodeId : BitVec 4
  mgmtAddr : BitVec 2
deriving DecidableEq, Repr

/-- The rails whose fall is a POR (04 R100). -/
inductive PorRail where
  | vddAon
  | vddIo
  | vddSram
deriving DecidableEq, Repr

/-- What the reset controller reads of the rails while internal reset is asserted (04 R100): VDD_CORE in mV, and which of the
rails whose fall is a POR are below their thresholds. -/
structure StretchRails where
  vddCoreMv : Nat
  low : List PorRail
deriving DecidableEq, Repr

/-- The clocked islands whose PLL lock is awaited (04 R111). -/
inductive Island where
  | refclk
  | pcie
  | timeBase
deriving DecidableEq, Repr

/-- How a calibration slice ends (03 R82, 08 R250, 16 R491): a plain slice, the last slice of an engine self-test
iteration, or of a T-lane re-test. -/
inductive SliceResult where
  | calibration
  | engineTest (passed : Bool) (failingTest : Nat)
  | laneTest (lane : Fin 32) (passed : Bool)
deriving DecidableEq, Repr

/-- A tone as a detector measures it (09 Table 9-3): the digit or 0x40, the offsets of its two frequencies from nominal in 0.01 %,
the levels of the low-group or first tone and of the other in dBm0, and how long it has lasted. -/
structure ToneReading where
  kind : Byte
  offset1 : Int
  offset2 : Int
  level1 : Int
  level2 : Int
  ms : Nat
deriving DecidableEq, Repr

/-- A fax or modem signal as the detector measures it (09 Table 9-4): its frequency in 0.1 Hz and how long it has lasted, a phase
reversal in degrees and the ms after which it came, an amplitude modulation in 0.1 Hz and its depth in percent, consecutive HDLC
flags in V.21 channel 2, and the level in dBm0. -/
structure FaxReading where
  tenthHz : Nat
  ms : Nat
  reversal : Option (Nat × Nat)
  modulation : Option (Nat × Nat)
  hdlcFlags : Nat
  level : Int
deriving DecidableEq, Repr

/-- What a frame task's signal processing measured (09 R263 to R268, R275, 10 R308): signal content is an input of the
model. `powers` are the mean squares of a meter's milliseconds; `quiet` gives the highest levels in dBm0 that both received signals
reached in the last `ms`. -/
inductive Signal where
  | tone (leg : Leg) (reading : ToneReading)
  | toneAbsent (leg : Leg) (user : Bool) (absentMs durationMs : Nat)
  | fax (leg : Leg) (reading : FaxReading)
  | faxAbsent (leg : Leg) (kind : Byte) (ms : Nat)
  | powers (leg : Leg) (meanSquares : List Nat)
  | echo (converged : Bool) (nlpActive : Bool) (erl : Int) (erle : Nat)
  | quiet (levelA levelB : Int) (ms : Nat)
  | contribution (level : Int) (samples : List Int)
deriving DecidableEq, Repr

/-- The packets that a frame task hands to the egress builder (09 R259 step 7, R261, R273, 13 R398): coded voice, comfort noise or
the codec's own DTX, or a UDPTL datagram with its primary IFP. -/
inductive PacketKind where
  | voice
  | quiet (bytes : Nat)
  | udptl (indicator : Bool) (ifp : List Byte)
deriving DecidableEq, Repr

/-- A packet of a leg; `poolEmpty` that it finds no cell in the egress pool (11 R342). -/
structure BuiltPacket where
  leg : Leg
  kind : PacketKind
  poolEmpty : Bool
deriving DecidableEq, Repr

/-- The samples of a leg in a frame: as its decoder gives them, and as they go toward its encoder (09 R259; 10 R297). -/
structure LegSamples where
  leg : Leg
  decoded : List Int
  toward : List Int
deriving DecidableEq, Repr

/-- What a frame task reports at its end (08 R244). -/
structure TaskReport where
  accepted : Bool
  signals : List Signal
  samples : List LegSamples
  packets : List BuiltPacket
deriving DecidableEq, Repr

/-- A frame as the MAC receives it, DA to FCS (12 R364), with what the lanes, FEC, packing FIFO and SRTP unit find:
an error or control block inside, FIFO space, ingress pool cells, an uncorrectable codeword or poisoned word, how many words
the crossing corrected, authentication under the current and under the pending receive context (09 R277), and the payload that
decryption gives: of RTP what follows its header, of RTCP the compound packet. -/
structure RxFrame where
  bytes : List Byte
  codeError : Bool
  fifoFull : Bool
  poolEmpty : Bool
  poisoned : Bool
  corrected : Nat
  authCurrent : Bool
  authPending : Bool
  plain : List Byte
deriving DecidableEq, Repr

/-- The errors that a port's PCS and RS-FEC find in a period (12 Table 12-4): blocks, codewords corrected and uncorrectable, symbols. -/
structure PortErrors where
  blocks : Nat := 0
  fecCorrected : Nat := 0
  fecUncorrected : Nat := 0
  fecSymbols : Nat := 0
deriving DecidableEq, Repr

/-- What the hardware finds in a period (DESIGN CHOICE, log 88): the pace monitors' counts (02 R38), the words that the crossings and
the Steward's SRAM corrected (R55), each port's errors, and each T-lane's code and disparity errors (14 R432). -/
structure PeriodFindings where
  gate : List (BitVec 16) := []
  crossingCe : Nat := 0
  stewardCe : Nat := 0
  ports : List PortErrors := []
  lanes : List (Nat × Nat) := []
deriving DecidableEq, Repr

/-- The key of a station entry (11 R333): outer VID and MAC. -/
structure StationKey where
  vid : BitVec 12
  mac : BitVec 48
deriving DecidableEq, Repr

/-- A station entry's value, or its deletion, as the home Teller sends it to the members (11 R333). -/
structure StationUpdate where
  key : StationKey
  present : Bool
  node : Fin 16
  port : Fin 8
  isStatic : Bool
  lastSeen : Nat
deriving DecidableEq, Repr

/-- A write request to a Teller (01 R17, 11 R330, R332, R335); `seenAt` is the instant of a sighting in ns. `bind` and `release`
are a channel's (11 R330), and `accepted` brings LAST_RX_PERIOD (11 Table 11-1). -/
inductive TellerRequest where
  | bind (handle channel : Word32) (leg : Leg) (node : Fin 16)
  | release (handle channel : Word32)
  | accepted (handle : Word32) (period : Nat)
  | latch (handle : Word32) (epoch : Byte) (ipv6 : Bool) (ip : BitVec 128) (port : BitVec 16)
  | sighting (key : StationKey) (node : Fin 16) (port : Fin 8) (seenAt : Nat)
  | unlatch (handle : Word32) (epoch : Byte)
  | deleteSession (handle : Word32)
deriving DecidableEq, Repr

/-- The header fields of a received Tylane frame that the link layer acts on (15 Table 15-1), its CRC check, and the receive
buffer in octets that the partner advertises with its acknowledgement (15 R461). -/
structure TyHeader where
  dest : Fin 16
  source : Fin 16
  nak : Bool
  hops : Nat
  seq : BitVec 16
  ack : BitVec 16
  octets : Nat
  residence : Nat
  crcOk : Bool
  buffer : Nat
deriving DecidableEq, Repr

/-- What a TYPE 1 frame carries (01 R19, R21); `forwarded` that the device which ran the leg before sends it on (R31). -/
inductive TyMedia where
  | toHome (frame : RxFrame)
  | toRunning (handle : Word32) (forwarded : Bool) (frame : RxFrame)
  | toEgress (port : Fin 8) (queue : Fin 8) (channel : Word32) (launch frameBytes : Nat) (tagged : Bool) (payload : List Byte)
deriving DecidableEq, Repr

/-- What a TYPE 2 frame carries between Stewards (01 R27, 11 R330, R333, 15 R467, R468, R473, R475, R488): the spec names these
messages and gives none its form (DESIGN CHOICE, logs 13 and 32). -/
inductive StewardMessage where
  /-- R467, with the free coins that R472 and R274 compare (DESIGN CHOICE, log 96). -/
  | heartbeat (node : Fin 16) (size : Nat) (mode : Nat) (sameVersion : Bool) (epoch : Nat) (freeCoins : Int)
  | view (king : Fin 16) (epoch : Nat) (members : BitVec 16) (homeMap : List Nat)
  /-- A command carried on, and its answer (01 R27). -/
  | request (opcode : BitVec 16) (c : Cmd) (ask : PeerAsk)
  | reply (entry : Nat) (status : Byte) (result : BitVec 160) (data : List Byte)
  /-- Whether a session can be bound, asked of its home, and its entry (09 R280, R281). -/
  | sessionAsk (entry : Nat) (handle : Word32)
  | sessionIs (entry : Nat) (copy : Machine.SessionCopy)
  | teller (req : TellerRequest)
  /-- A request whose commit a command waits for (11 R330). -/
  | commitAsk (entry : Nat) (req : TellerRequest)
  | station (update : StationUpdate)
  | bootRequest (node : Fin 16)
  /-- The steps of a move between devices (15 R473), with its cause, the frames that it has lost, and the place in a conference. -/
  | moveAsk (channel : Machine.Channel) (cause lost : Nat) (place : Option Machine.ConferencePlace)
  | admitted (channel : Word32) (engine : Fin 64) (slot : Fin 128)
  | refused (channel : Word32)
  | moveCopy (channel : Machine.Channel)
  | copyAck (channel : Word32)
  | moveCommit (channel : Word32) (oldEngine lost : Nat)
  /-- The first frame on the new engine has ended or is concealed (16 R495). -/
  | moved (channel : Word32) (engine slot : Nat) (record : Machine.MoveRecord)
  | moveOff (channel : Word32)
  | narrow (link : Fin 4) (lane : Fin 32)
deriving DecidableEq, Repr

/-- A PTP copy crossing Tylane (13 R396, R397): its time-base index and domain, whether it is an event message, the transport as
PTP_PORT_SET names it, and the frame less its FCS with the offset at which the PTP message lies. `residence` is what was gathered
before the node that holds the copy, whose step-free shadow read `stamp` when the copy came. -/
structure PtpCopy where
  tb : Fin 4
  domain : Byte
  isEvent : Bool
  transport : Fin 3
  offset : Nat
  frame : List Byte
  residence : Nat := 0
  stamp : Nat := 0
deriving DecidableEq, Repr

/-- The payload of a Tylane frame by its TYPE (15 Table 15-1; 13 R397; 15 R475, R476). -/
inductive TyPayload where
  | media (m : TyMedia)
  | steward (m : StewardMessage)
  | ptp (copy : PtpCopy)
  | reset (cold : Bool)
  | image (offset : Nat) (data : List Byte)
deriving DecidableEq, Repr

/-- One 100 µs sample (18 R558): nine sensors in 0.125 °C as the factory calibration gives them (none: the sensor
failed its self-check, R582), the rails VDD_CORE, VDD_SRAM, VDD_AON, VDDIO in mV, the GPIO levels, and whether REFCLK
and TBREF are present. -/
structure TelemetrySample where
  temps : List (Option Int)
  rails : List Nat
  gpio : BitVec 16
  refclk : Bool
  tbref : Bool
deriving DecidableEq, Repr

/-- The commands of Table 7-9 (07 R223). -/
inductive Op where
  | nop
  | identify
  | modeSet
  | versionGet
  | bootSlot
  | commandAbort
  | eqSteerSet
  | deviceReset
  | resetPolicySet
  | governorSet
  | settingsSave
  | settingsStatus
  | settingsRevert
  | settingsFactory
  | allowanceSet
  | allowanceReport
  | paceReport
  | paceOffsetSet
  | sessionAdd
  | sessionModify
  | sessionDelete
  | sessionQuery
  | relatch
  | channelOpen
  | channelModify
  | channelClose
  | channelQuery
  | jitterSet
  | srtpKeySet
  | fcuPhaseSet
  | fcuLevelSet
  | confCreate
  | confAddLeg
  | confRemoveLeg
  | confDestroy
  | toneGenerate
  | toneStop
  | toneDetectSet
  | tbConfigSet
  | tbAdjust
  | tbTimeGet
  | ppsSet
  | ptpPortSet
  | launchQueueSet
  | launchCancel
  | portSet
  | portStatus
  | stationAdd
  | stationDelete
  | stationQuery
  | laneSet
  | laneEqTableSet
  | eyeScan
  | laneLoopback
  | prbsSet
  | prbsCheck
  | errorInject
  | clusterJoin
  | clusterLeave
  | clusterStatus
  | channelMigrate
  | ledgerStatus
  | calOffsetSet
  | imageDownload
  | imageVerify
  | imageActivate
  | imageConfirm
  | imageStatus
  | counterRead
  | telemetryRead
  | diagWindowMap
  | engineTest
  | engineConfigSet
  | engineStatus
  | faultLogRead
  | retire
  | reinstate
  | retirementMapGet
deriving DecidableEq, Repr

/-- The rows of spec/opcode_table.json, in the table's order. -/
inductive Instr where
  /-- NOP (R222). -/
  | nop (src : Source) (c : Cmd)
  /-- IDENTIFY (R216). -/
  | identify (src : Source) (c : Cmd)
  /-- MODE_SET (R151). -/
  | modeSet (src : Source) (c : Cmd)
  /-- VERSION_GET (R217). -/
  | versionGet (src : Source) (c : Cmd)
  /-- BOOT_SLOT (R153). -/
  | bootSlot (src : Source) (c : Cmd)
  /-- COMMAND_ABORT (R205). -/
  | commandAbort (src : Source) (c : Cmd)
  /-- EQ_STEER_SET (R184). -/
  | eqSteerSet (src : Source) (c : Cmd)
  /-- DEVICE_RESET (R127). -/
  | deviceReset (src : Source) (c : Cmd)
  /-- RESET_POLICY_SET (R128). -/
  | resetPolicySet (src : Source) (c : Cmd)
  /-- GOVERNOR_SET (R58). -/
  | governorSet (src : Source) (c : Cmd)
  /-- SETTINGS_SAVE (R213). -/
  | settingsSave (src : Source) (c : Cmd)
  /-- SETTINGS_STATUS (R214). -/
  | settingsStatus (src : Source) (c : Cmd)
  /-- SETTINGS_REVERT (R215). -/
  | settingsRevert (src : Source) (c : Cmd)
  /-- SETTINGS_FACTORY (R215). -/
  | settingsFactory (src : Source) (c : Cmd)
  /-- ALLOWANCE_SET (R86). -/
  | allowanceSet (src : Source) (c : Cmd)
  /-- ALLOWANCE_REPORT (R88). -/
  | allowanceReport (src : Source) (c : Cmd)
  /-- PACE_REPORT (R59). -/
  | paceReport (src : Source) (c : Cmd)
  /-- PACE_OFFSET_SET (R60). -/
  | paceOffsetSet (src : Source) (c : Cmd)
  /-- SESSION_ADD (R343). -/
  | sessionAdd (src : Source) (c : Cmd)
  /-- SESSION_MODIFY (R344). -/
  | sessionModify (src : Source) (c : Cmd)
  /-- SESSION_DELETE (R345). -/
  | sessionDelete (src : Source) (c : Cmd)
  /-- SESSION_QUERY (R345). -/
  | sessionQuery (src : Source) (c : Cmd)
  /-- RELATCH (R346). -/
  | relatch (src : Source) (c : Cmd)
  /-- CHANNEL_OPEN (R280). -/
  | channelOpen (src : Source) (c : Cmd)
  /-- CHANNEL_MODIFY (R281). -/
  | channelModify (src : Source) (c : Cmd)
  /-- CHANNEL_CLOSE (R282). -/
  | channelClose (src : Source) (c : Cmd)
  /-- CHANNEL_QUERY (R283). -/
  | channelQuery (src : Source) (c : Cmd)
  /-- JITTER_SET (R347). -/
  | jitterSet (src : Source) (c : Cmd)
  /-- SRTP_KEY_SET (R284). -/
  | srtpKeySet (src : Source) (c : Cmd)
  /-- FCU_PHASE_SET (R313). -/
  | fcuPhaseSet (src : Source) (c : Cmd)
  /-- FCU_LEVEL_SET (R314). -/
  | fcuLevelSet (src : Source) (c : Cmd)
  /-- CONF_CREATE (R285). -/
  | confCreate (src : Source) (c : Cmd)
  /-- CONF_ADD_LEG (R285). -/
  | confAddLeg (src : Source) (c : Cmd)
  /-- CONF_REMOVE_LEG (R285). -/
  | confRemoveLeg (src : Source) (c : Cmd)
  /-- CONF_DESTROY (R285). -/
  | confDestroy (src : Source) (c : Cmd)
  /-- TONE_GENERATE (R286). -/
  | toneGenerate (src : Source) (c : Cmd)
  /-- TONE_STOP (R287). -/
  | toneStop (src : Source) (c : Cmd)
  /-- TONE_DETECT_SET (R288). -/
  | toneDetectSet (src : Source) (c : Cmd)
  /-- TB_CONFIG_SET (R405). -/
  | tbConfigSet (src : Source) (c : Cmd)
  /-- TB_ADJUST (R406). -/
  | tbAdjust (src : Source) (c : Cmd)
  /-- TB_TIME_GET (R407). -/
  | tbTimeGet (src : Source) (c : Cmd)
  /-- PPS_SET (R408). -/
  | ppsSet (src : Source) (c : Cmd)
  /-- PTP_PORT_SET (R409). -/
  | ptpPortSet (src : Source) (c : Cmd)
  /-- LAUNCH_QUEUE_SET (R410). -/
  | launchQueueSet (src : Source) (c : Cmd)
  /-- LAUNCH_CANCEL (R411). -/
  | launchCancel (src : Source) (c : Cmd)
  /-- PORT_SET (R374). -/
  | portSet (src : Source) (c : Cmd)
  /-- PORT_STATUS (R375). -/
  | portStatus (src : Source) (c : Cmd)
  /-- STATION_ADD (R348). -/
  | stationAdd (src : Source) (c : Cmd)
  /-- STATION_DELETE (R348). -/
  | stationDelete (src : Source) (c : Cmd)
  /-- STATION_QUERY (R348). -/
  | stationQuery (src : Source) (c : Cmd)
  /-- LANE_SET (R439). -/
  | laneSet (src : Source) (c : Cmd)
  /-- LANE_EQ_TABLE_SET (R440). -/
  | laneEqTableSet (src : Source) (c : Cmd)
  /-- EYE_SCAN (R441). -/
  | eyeScan (src : Source) (c : Cmd)
  /-- LANE_LOOPBACK (R442). -/
  | laneLoopback (src : Source) (c : Cmd)
  /-- PRBS_SET (R443). -/
  | prbsSet (src : Source) (c : Cmd)
  /-- PRBS_CHECK (R444). -/
  | prbsCheck (src : Source) (c : Cmd)
  /-- ERROR_INJECT (R445). -/
  | errorInject (src : Source) (c : Cmd)
  /-- CLUSTER_JOIN (R477). -/
  | clusterJoin (src : Source) (c : Cmd)
  /-- CLUSTER_LEAVE (R478). -/
  | clusterLeave (src : Source) (c : Cmd)
  /-- CLUSTER_STATUS (R479). -/
  | clusterStatus (src : Source) (c : Cmd)
  /-- CHANNEL_MIGRATE (R480). -/
  | channelMigrate (src : Source) (c : Cmd)
  /-- LEDGER_STATUS (R538). -/
  | ledgerStatus (src : Source) (c : Cmd)
  /-- CAL_OFFSET_SET (R539). -/
  | calOffsetSet (src : Source) (c : Cmd)
  /-- IMAGE_DOWNLOAD (R527). -/
  | imageDownload (src : Source) (c : Cmd)
  /-- IMAGE_VERIFY (R528). -/
  | imageVerify (src : Source) (c : Cmd)
  /-- IMAGE_ACTIVATE (R529). -/
  | imageActivate (src : Source) (c : Cmd)
  /-- IMAGE_CONFIRM (R531). -/
  | imageConfirm (src : Source) (c : Cmd)
  /-- IMAGE_STATUS (R544). -/
  | imageStatus (src : Source) (c : Cmd)
  /-- COUNTER_READ (R376). -/
  | counterRead (src : Source) (c : Cmd)
  /-- TELEMETRY_READ (R559). -/
  | telemetryRead (src : Source) (c : Cmd)
  /-- DIAG_WINDOW_MAP (R221). -/
  | diagWindowMap (src : Source) (c : Cmd)
  /-- ENGINE_TEST (R250). -/
  | engineTest (src : Source) (c : Cmd)
  /-- ENGINE_CONFIG_SET (R248). -/
  | engineConfigSet (src : Source) (c : Cmd)
  /-- ENGINE_STATUS (R249). -/
  | engineStatus (src : Source) (c : Cmd)
  /-- FAULT_LOG_READ (R505). -/
  | faultLogRead (src : Source) (c : Cmd)
  /-- RETIRE (R506). -/
  | retire (src : Source) (c : Cmd)
  /-- REINSTATE (R506). -/
  | reinstate (src : Source) (c : Cmd)
  /-- RETIREMENT_MAP_GET (R507). -/
  | retirementMapGet (src : Source) (c : Cmd)
  /-- COMMAND_BEGIN (R202). -/
  | commandBegin
  /-- CQ_ENTRY_TAKE (R173). -/
  | cqEntryTake
  /-- DMB_TAKE (R167). -/
  | dmbTake
  /-- MGMT_MB_TAKE (R557). -/
  | mgmtMbTake
  /-- RETRY_ENTRY_LAPSE (R207). -/
  | retryEntryLapse (id : BitVec 64)
  /-- RESET_CTRL_COLD (R120). -/
  | resetCtrlCold (w : Word32)
  /-- RESET_CTRL_WARM (R120). -/
  | resetCtrlWarm (w : Word32)
  /-- RESET_CTRL_BLOCK (R120). -/
  | resetCtrlBlock (w : Word32)
  /-- RESET_CAUSE_WRITE (R121). -/
  | resetCauseWrite (w : Word32)
  /-- REGISTER_WRITE (R162). -/
  | registerWrite (offset : Nat) (data : List Byte)
  /-- LEDGER_USER_WRITE (R519). -/
  | ledgerUserWrite (word : Fin 1024) (value : Word32)
  /-- LEDGER_WRITE_COMPLETE (R516). -/
  | ledgerWriteComplete (verified : Bool)
  /-- RMEM_WRITE (R124). -/
  | rmemWrite (offset : Nat) (data : List Byte)
  /-- DIAG_WINDOW_READ (R221). -/
  | diagWindowRead (offset : Nat) (length : Nat) (uncorrectable : Bool)
  /-- QUEUE_ENABLE (R170). -/
  | queueEnable (q : Fin 9) (cfg : Word32)
  /-- QUEUE_DISABLE (R170). -/
  | queueDisable (q : Fin 9) (cfg : Word32)
  /-- CQ_TAIL_DOORBELL (R172). -/
  | cqTailDoorbell (q : Fin 4) (w : Word32)
  /-- CC_HEAD_DOORBELL (R172). -/
  | ccHeadDoorbell (q : Fin 4) (w : Word32)
  /-- EQ_HEAD_DOORBELL (R172). -/
  | eqHeadDoorbell (w : Word32)
  /-- CMD_CANCEL (R178). -/
  | cmdCancel (w : Word32)
  /-- INT_STATUS_CLEAR (R181). -/
  | intStatusClear (w : Word32)
  /-- INT_TEST (R181). -/
  | intTest (w : Word32)
  /-- DMB_CMD_WRITE (R166). -/
  | dmbCmdWrite (offset : Fin 64) (data : List Byte)
  /-- DMB_GO (R166). -/
  | dmbGo
  /-- DMB_DONE_CLEAR (R166). -/
  | dmbDoneClear
  /-- COALESCE_TIMEOUT (R180). -/
  | coalesceTimeout (vector : Fin 64)
  /-- HOST_DMA_READ_FAIL (R182). -/
  | hostDmaReadFail (target : DmaTarget) (kind : DmaErrorKind)
  /-- FUNCTION_LEVEL_RESET (R161). -/
  | functionLevelReset
  /-- PCIE_PM_STATE_CHANGE (R161). -/
  | pciePmStateChange (d3hot : Bool)
  /-- PCIE_LINK_DOWN (R185). -/
  | pcieLinkDown
  /-- PCIE_LINK_UP (R185). -/
  | pcieLinkUp
  /-- MB_CMD_WRITE (R557). -/
  | mbCmdWrite (t : SmbusWrite)
  /-- MB_CTRL_GO (R557). -/
  | mbCtrlGo (t : SmbusWrite)
  /-- MB_CMPL_READ (R557). -/
  | mbCmplRead (bytes : Nat)
  /-- MGMT_BUS_TIMEOUT (R555). -/
  | mgmtBusTimeout
  /-- ENTDAA (R556). -/
  | entdaa (address : BitVec 7)
  /-- SETDASA (R556). -/
  | setdasa (address : BitVec 7)
  /-- RSTDAA (R556). -/
  | rstdaa
  /-- GETPID (R556). -/
  | getpid
  /-- GETBCR (R556). -/
  | getbcr
  /-- GETDCR (R556). -/
  | getdcr
  /-- GETSTATUS (R556). -/
  | getstatus
  /-- POR (R100). -/
  | por (rail : PorRail)
  /-- RESET_N_ASSERT (R110). -/
  | resetNAssert (lowNs : Nat)
  /-- PERST_N_ASSERT (R105). -/
  | perstNAssert
  /-- WATCHDOG_EXPIRY (R108). -/
  | watchdogExpiry
  /-- RESET_STRETCH_END (R111), with what the controller reads of the rails. -/
  | resetStretchEnd (rails : StretchRails)
  /-- OPTION_LOADING_DONE (R114). -/
  | optionLoadingDone (straps : Straps) (fuseError : Bool)
  /-- ISLAND_PLL_LOCK (R111). -/
  | islandPllLock (island : Island)
  /-- RESET_WAVE_COMPLETE (R112). -/
  | resetWaveComplete
  /-- RESET_OUT_RELEASE (R113). -/
  | resetOutRelease
  /-- BOOT_COMPLETE (R141). -/
  | bootComplete
  /-- TYLANE_BOOT_TIMEOUT (R475). -/
  | tylaneBootTimeout
  /-- STEWARD_LOCKSTEP_MISMATCH (R141). -/
  | stewardLockstepMismatch
  /-- STEWARD_SRAM_UE (R141). -/
  | stewardSramUe
  /-- RHOPER_FATAL_ASSERTION (R503). -/
  | rhoperFatalAssertion
  /-- WDOG_RUN_CLEAR (R108). -/
  | wdogRunClear
  /-- POWER_WARN_ASSERT (R102). -/
  | powerWarnAssert (lowNs : Nat)
  /-- POWER_WARN_RELEASE (R104). -/
  | powerWarnRelease
  /-- REMOTE_RESET_REQUEST (R106). -/
  | remoteResetRequest (node : Fin 16) (cold : Bool)
  /-- BLOCK_IDLE (R118). -/
  | blockIdle (block : Fin 84)
  /-- BLOCK_RESET_TIMEOUT (R118). -/
  | blockResetTimeout (block : Fin 84) (discarded : Nat)
  /-- BLOCK_RESET_RELEASE (R118). -/
  | blockResetRelease (block : Fin 84)
  /-- PERIOD_BOUNDARY (R77), with what the hardware has counted in the period. -/
  | periodBoundary (found : PeriodFindings)
  /-- GOVERNOR_STEP_DOWN (R43). -/
  | governorStepDown
  /-- AVS_CHECK (R45). -/
  | avsCheck (acknowledged : Bool) (railMv : Nat)
  /-- VDD_CORE_LOW (R36). -/
  | vddCoreLow (railMv : Nat)
  /-- ALLOWANCE_REQUEST (R18). -/
  | allowanceRequest (cls : Fin 8) (res : Fin 4) (size : Nat)
  /-- ALLOWANCE_GRANT (R78). -/
  | allowanceGrant (res : Fin 4) (corrected : Bool)
  /-- FLASH_OPERATION_COMPLETE (R76). -/
  | flashOperationComplete (verified : Bool)
  /-- SCRUB_OVERDUE (R90). -/
  | scrubOverdue (vault : Bool)
  /-- CAL_FORCED_TAKE (R83). -/
  | calForcedTake
  /-- CAL_SLICE_END (R82). -/
  | calSliceEnd (engine : Fin 64) (result : SliceResult)
  /-- TASK_END (R244). -/
  | taskEnd (engine : Fin 64) (report : TaskReport)
  /-- TASK_PREEMPT (R242). -/
  | taskPreempt (engine : Fin 64)
  /-- HANDSHAKE_STALL (R489). -/
  | handshakeStall (engine : Fin 64)
  /-- WORKING_MEMORY_UE (R489). -/
  | workingMemoryUe (engine : Fin 64)
  /-- SUSPENDED_PLACEMENT_RETRY (R497). -/
  | suspendedPlacementRetry
  /-- TILL_UNCORRECTABLE_ERROR (R489). -/
  | tillUncorrectableError (row : Fin 32768) (address : Nat)
  /-- VAULT_UNCORRECTABLE_ERROR (R489). -/
  | vaultUncorrectableError (row : Nat) (address : Nat) (repairLeft : Bool)
  /-- FAULT_LOG_FLUSH (R502). -/
  | faultLogFlush
  /-- PORT_FRAME_RECEIVED (R364). -/
  | portFrameReceived (port : Fin 8) (frame : RxFrame)
  /-- STATION_SIGHTING_REPORT (R335). -/
  | stationSightingReport (key : StationKey)
  /-- STATION_AGE_OUT (R335). -/
  | stationAgeOut (key : StationKey)
  /-- TELLER_WRITE_REQUEST (R17). -/
  | tellerWriteRequest (req : TellerRequest)
  /-- TELLER_COMMIT (R17). -/
  | tellerCommit
  /-- STATION_ENTRY_APPLY (R333). -/
  | stationEntryApply (update : StationUpdate)
  /-- LATCH_SILENCE_TIMEOUT (R331). -/
  | latchSilenceTimeout (handle : Word32)
  /-- JB_TARGET_UPDATE (R339). -/
  | jbTargetUpdate (channel : Word32) (leg : Leg)
  /-- RTCP_REPORT_TIMER (R278). -/
  | rtcpReportTimer (channel : Word32) (leg : Leg)
  /-- BLOCK_LOCK_LOSS (R363). -/
  | blockLockLoss (port : Fin 8) (midFrame : Bool)
  /-- PORT_LINK_UP_HOLD (R363). -/
  | portLinkUpHold (port : Fin 8)
  /-- PORT_LINK_DOWN_HOLD (R363). -/
  | portLinkDownHold (port : Fin 8)
  /-- LAUNCH_GRANT (R400). -/
  | launchGrant (port : Fin 8)
  /-- PPS_OUT_EDGE (R389). -/
  | ppsOutEdge (pin : Fin 4)
  /-- PPS_IN_EDGE (R390). -/
  | ppsInEdge (pin : Fin 2) (falling : Bool) (widthNs : Nat)
  /-- PPS_TIMEOUT (R387). -/
  | ppsTimeout (tb : Fin 4)
  /-- PTP_SOURCE_TIMEOUT (R387). -/
  | ptpSourceTimeout (tb : Fin 4)
  /-- PTP_FWD_TIMEOUT (R396). -/
  | ptpFwdTimeout (port : Fin 8)
  /-- TBREF_STARTUP_TIMEOUT (R386). -/
  | tbrefStartupTimeout
  /-- TBREF_LOSS (R386). -/
  | tbrefLoss
  /-- TBREF_RESTORE (R386). -/
  | tbrefRestore
  /-- LANE_SIGNAL_DETECT (R429). -/
  | laneSignalDetect (lane : Fin 40)
  /-- M_LANE_BLOCK_LOCK (R429). -/
  | mLaneBlockLock (port : Fin 8)
  /-- M_LANE_POLARITY_CHECK (R429). -/
  | mLanePolarityCheck (port : Fin 8) (inverted : Bool)
  /-- T_LANE_COMMA_ALIGN (R432). -/
  | tLaneCommaAlign (lane : Fin 32) (inverted : Bool) (laneId : Nat)
  /-- T_LANE_ALIGN_LOSS (R432). -/
  | tLaneAlignLoss (lane : Fin 32) (codeErrors : Nat) (disparityErrors : Nat)
  /-- LANE_CDR_LOSS (R432). -/
  | laneCdrLoss (lane : Fin 40)
  /-- LANE_FAULT_RETRY (R427). -/
  | laneFaultRetry (link : Fin 4)
  /-- LANE_ERROR_WINDOW (R433). -/
  | laneErrorWindow (lane : Fin 32)
  /-- EYE_SCAN_POINT_DONE (R434). -/
  | eyeScanPointDone (lane : Fin 40) (errors : Nat)
  /-- PRBS_LOCK_LOSS (R435). -/
  | prbsLockLoss (lane : Fin 40) (bits : Nat) (errors : Nat)
  /-- TYLANE_LINK_BRINGUP (R464). -/
  | tylaneLinkBringup (link : Fin 4) (nodeLink : Byte)
  /-- LINK_HALF_TIMEOUT (R464). -/
  | linkHalfTimeout (link : Fin 4) (nodeLink : Byte)
  /-- WIRING_RETRY (R464). -/
  | wiringRetry (link : Fin 4)
  /-- TYLANE_MEDIA_FRAME (R19). -/
  | tylaneMediaFrame (link : Fin 4) (h : TyHeader) (m : TyMedia)
  /-- TYLANE_STEWARD_MESSAGE (R467). -/
  | tylaneStewardMessage (link : Fin 4) (h : TyHeader) (m : StewardMessage)
  /-- TYLANE_PTP_COPY (R397). -/
  | tylanePtpCopy (link : Fin 4) (h : TyHeader) (copy : PtpCopy)
  /-- TYLANE_ACK (R459). -/
  | tylaneAck (link : Fin 4) (h : TyHeader)
  /-- TYLANE_DELAY_PROBE (R465). -/
  | tylaneDelayProbe (link : Fin 4) (t1 t2 t3 t4 : Nat)
  /-- TYLANE_BOOT_IMAGE (R475). -/
  | tylaneBootImage (link : Fin 4) (h : TyHeader) (offset : Nat) (data : List Byte)
  /-- TYLANE_REPLAY_TIMEOUT (R460). -/
  | tylaneReplayTimeout (link : Fin 4)
  /-- HEARTBEAT_SEND (R467). -/
  | heartbeatSend
  /-- NODE_UNHEARD (R469). -/
  | nodeUnheard (node : Fin 16)
  /-- VIEW_PUBLISH (R468). -/
  | viewPublish
  /-- MIGRATION_COPY_ACK (R473). -/
  | migrationCopyAck (channel : Word32)
  /-- DRAIN_MOVE_START (R474). -/
  | drainMoveStart
  /-- AUTO_STANDBY_ENTRY (R141). -/
  | autoStandbyEntry
  /-- TRIAL_WATCHDOG_EXPIRY (R530). -/
  | trialWatchdogExpiry
  /-- THERMAL_SAMPLE (R558). -/
  | thermalSample (sample : TelemetrySample)
  /-- THERMAL_WARN_CLEAR (R560). -/
  | thermalWarnClear
  /-- UART_RX_BYTE (R565). -/
  | uartRxByte (b : Byte)
  /-- EXTEST (R564). -/
  | extest
  /-- IDCODE (R562). -/
  | idcode
  /-- SAMPLE_PRELOAD (R564). -/
  | samplePreload
  /-- CLAMP (R564). -/
  | clamp
  /-- HIGHZ (R564). -/
  | highz
  /-- EXTEST_PULSE (R563). -/
  | extestPulse
  /-- EXTEST_TRAIN (R563). -/
  | extestTrain
  /-- BYPASS (R562). -/
  | bypass
  /-- TRST_N_ASSERT (R583). -/
  | trstNAssert
  /-- PERST_N_DEASSERT (R111). -/
  | perstNDeassert
  /-- RHOPER_START (R108). -/
  | rhoperStart
  /-- MODE_TRANSITION_COMPLETE (R145). -/
  | modeTransitionComplete
  /-- HOST_DMA_READ_COMPLETE (R173). -/
  | hostDmaReadComplete (target : DmaTarget) (data : List Byte)
  /-- LOCAL_FAULT (R361). -/
  | localFault (port : Fin 8) (on : Bool)
  /-- REMOTE_FAULT (R361). -/
  | remoteFault (port : Fin 8) (on : Bool)
  /-- HI_BER (R362). -/
  | hiBer (port : Fin 8) (on : Bool)
  /-- PRBS_CHECKER_LOCK (R435). -/
  | prbsCheckerLock (lane : Fin 40)
  /-- ERROR_INJECT_INTERVAL (R436). -/
  | errorInjectInterval (lane : Fin 40)
  /-- TB_ADJUST_TIMEOUT (R406). -/
  | tbAdjustTimeout (tb : Fin 4)
  /-- CLUSTER_LEAVE_RESET_WAIT (R478). -/
  | clusterLeaveResetWait
  /-- PTP_MESSAGE_SEND (R394). -/
  | ptpMessageSend (tb : Fin 4) (event : Bool)
  /-- VAULT_ROW_REPAIR_COMPLETE (R499). -/
  | vaultRowRepairComplete (row : Nat)
deriving DecidableEq, Repr

end Sys2Proof
end

