-- ==== Sys2Proof/Decode.lean ====
section
/-!
DEFINITION. Commands spelled by table bits. No row of spec/opcode_table.json gives bits: the commands are register
writes, descriptors and events, so no word spells one here. A 64-byte descriptor is read by the rows that take it.
-/
namespace Sys2Proof

/-- The command that a word spells by the table's bits: the table gives no row any bits, so there is none. -/
def decodeTableWord (_nbits _w : Nat) : Option Instr :=
  none

end Sys2Proof
end

