-- ==== Sys2Proof/Machine/State.lean ====
section
/-!
DEFINITION. The state of the HK8160 block as plain data: every register, table, queue, counter, mode and pin that the
spec names, the queue of waiting commands, and the model's own clock. Each field's default is its value in
`State.reset`; INVENTORY.md lists the rule and the reset value of each.
-/
namespace Sys2Proof.Machine

/-- A memory that lists only the cells that differ from its default, in rising order of key. -/
abbrev Sparse (α : Type) := List (Nat × α)

/-- The eight modes (05 Table 5-1). -/
inductive Mode where
  | strap
  | loader
  | recovery
  | standby
  | service
  | drain
  | diagnostic
  | halt
deriving DecidableEq, Repr

/-- What the Steward runs (05 Table 5-1). -/
inductive Steward where
  | stopped
  | rom
  | rhoper
deriving DecidableEq, Repr

/-- The reset sources (04 Table 4-2). -/
inductive ResetSource where
  | por
  | resetN
  | perstN
  | watchdog
  | resetCtrl
  | deviceReset
  | management
  | thermal
  | remote
deriving DecidableEq, Repr

/-- Why a block reset was asked for: ORIGIN of BLOCK_RESET_DONE (04 R118). -/
inductive BlockOrigin where
  | command
  | resetCtrl
  | perstN
  | flr
  | management
deriving DecidableEq, Repr

/-- A block reset under way (04 R118): waiting for idle, or with the reset applied. -/
structure BlockReset where
  block : Nat
  origin : BlockOrigin
  applied : Bool
  timedOut : Bool
  discarded : Nat
  startedAt : Nat
  appliedAt : Nat
  timeoutNs : Nat
  entries : List Nat
deriving DecidableEq, Repr

/-- The reset controller and the supply watch (04). `wdogFull` says that WDOG_RUN read 3 when the stretch began (R108);
`releaseDue` is the instant before which the stretch cannot end (R110), `releasedAt` that of the latest internal release
(R113), `romSince` that of the ROM's latest start. `warnSince` is when POWER_WARN_N took effect and `warnDue` when it has
been high for 100 µs (R104). `pcieLocked` says that the PCIe island's PLL has locked (R111). `railsLow` are the rails that read
below their thresholds (R100), `remoteEn` and `perstBlock` the shadow of RESET_POLICY (R114, R128), `vaultUp` that Rhoper has
released the HBM PHY (R111), and `pinsConfigured` that Rhoper has configured the UART (R116). -/
structure Power where
  asserted : Bool := true
  optionLoading : Bool := false
  sources : List ResetSource := [.por]
  cold : Bool := true
  releaseDue : Nat := 800000
  railsLow : List PorRail := []
  remoteEn : Bool := false
  perstBlock : Bool := false
  vaultUp : Bool := false
  pinsConfigured : Bool := false
  refclkLocked : Bool := false
  pcieLocked : Bool := false
  pcieReleased : Bool := false
  timeBaseReleased : Bool := false
  perstLow : Bool := false
  thermalHold : Bool := false
  resetOutLow : Bool := true
  releasedAt : Nat := 0
  romSince : Nat := 0
  remoteNode : Nat := 0
  warnActive : Bool := false
  warnSince : Nat := 0
  warnDue : Nat := 0
  warnRefused : Nat := 0
  wdogArmed : Bool := false
  runNs : Nat := 0
  runSince : Nat := 0
  wdogFull : Bool := false
  blocks : List BlockReset := []
deriving DecidableEq, Repr

/-- RESET_CAUSE (04 Table 4-10). -/
structure ResetCause where
  remoteNode : BitVec 4 := 0
  wdogRun : BitVec 2 := 0
  history : BitVec 9 := 0
  lastWarm : Bool := false
  last : BitVec 4 := 0
deriving DecidableEq, Repr

/-- BOOT_STATUS (04 Table 4-8). -/
structure BootStatus where
  rmemUeCount : BitVec 8 := 0
  stage : BitVec 4 := 0
  fuseErr : Bool := false
  warm : Bool := false
  trial : Bool := false
  slot : Bool := false
  strapAnomaly : Bool := false
  straps : Straps := { bootSrc := 0, clkMode := 0, nodeId := 0, mgmtAddr := 0 }
deriving DecidableEq, Repr

/-- A mode transition under way: the entry of the MODE_SET that asked for it, and MODE_CHANGED's cause. -/
structure Transition where
  target : Mode
  entry : Option Nat
  cause : Nat
deriving DecidableEq, Repr

/-- MODE (05 Table 5-3) and what runs on the Steward. -/
structure ModeReg where
  seq : BitVec 8 := 0
  transition : Option Transition := none
  haltCause : BitVec 4 := 0
  autoStandby : Bool := false
  previous : Mode := .strap
  current : Mode := .strap
  steward : Steward := .stopped
deriving DecidableEq, Repr

/-- A transaction that the queue engine carries out toward the host: a write, a message, or the update of the direct
mailbox's completion (06 R166, R175, R197). -/
inductive Tlp where
  | write (address : Nat) (data : List Byte)
  | message (vector : Nat)
  | mailbox (cmpl : List Byte)
deriving DecidableEq, Repr

/-- One MSI-X table entry (06 Table 6-2, PCIe base specification) (PRESUMED, log 18). -/
structure MsixEntry where
  address : BitVec 64 := 0
  data : Word32 := 0
  masked : Bool := true
deriving DecidableEq, Repr

/-- CQn registers and staging (06 Tables 6-5, 6-6, R173, R178). `staging` holds the prefetched entries from HEAD on. -/
structure CommandQueue where
  baseLo : Word32 := 0
  baseHi : Word32 := 0
  weight : Nat := 1
  ccSel : Nat := 0
  log2 : Nat := 4
  enable : Bool := false
  err : Bool := false
  fetchHold : Bool := false
  head : Nat := 0
  tail : Nat := 0
  staging : List Descriptor := []
  fetchFailed : Bool := false
  cancelled : List Nat := []
deriving DecidableEq, Repr

/-- CCn registers (06 Table 6-7), and the entries not yet signalled (R180). -/
structure CompletionQueue where
  baseLo : Word32 := 0
  baseHi : Word32 := 0
  coalUs : Nat := 0
  coalCount : Nat := 0
  log2 : Nat := 4
  enable : Bool := false
  head : Nat := 0
  tail : Nat := 0
  phase : Bool := true
  unsignalled : Nat := 0
  firstUnsignalledAt : Nat := 0
deriving DecidableEq, Repr

/-- Event entries not yet signalled on one vector (06 R180). -/
structure VectorBacklog where
  vector : Nat
  count : Nat
  firstAt : Nat
deriving DecidableEq, Repr

/-- EQ registers (06 Table 6-8), the drop count (R176) and the numbering of events (07 R199). -/
structure EventQueue where
  baseLo : Word32 := 0
  baseHi : Word32 := 0
  coalUs : Nat := 0
  coalCount : Nat := 0
  log2 : Nat := 6
  enable : Bool := false
  head : Nat := 0
  tail : Nat := 0
  phase : Bool := true
  lostPending : Bool := false
  dropped : Nat := 0
  unsignalled : List VectorBacklog := []
  seq : Word32 := 0
  heldWhileDown : Nat := 0
deriving DecidableEq, Repr

/-- The direct mailbox (06 Table 6-4). -/
structure Dmb where
  cmd : List Byte := List.replicate 64 0
  cmpl : List Byte := List.replicate 32 0
  seq : BitVec 8 := 0
  done : Bool := false
  busy : Bool := false
  taken : Bool := false
deriving DecidableEq, Repr

/-- Interrupt registers (06 Table 6-10). -/
structure Interrupts where
  fatal : Bool := false
  dbErr : Bool := false
  dmaErr : Bool := false
  eqOverflow : Bool := false
  mask : BitVec 3 := 0
  pinEn : BitVec 4 := 1
  dmaErrAddr : BitVec 64 := 0
  dmaErrKind : BitVec 4 := 0
  dmaErrSource : BitVec 4 := 0
deriving DecidableEq, Repr

/-- CANCEL_STATUS (06 Table 6-9). -/
structure CancelStatus where
  seq : BitVec 8 := 0
  result : Byte := 0
  queue : BitVec 2 := 0
  index : BitVec 12 := 0
deriving DecidableEq, Repr

/-- What the host sets in PCIe configuration space, at its reset values (06 R160, R161, R186; PCIe base specification)
(PRESUMED, log 18). -/
structure PcieConfig where
  memorySpace : Bool := false
  busMaster : Bool := false
  bar0 : BitVec 64 := 0
  bar2 : BitVec 64 := 0
  maxPayload : Nat := 128
  maxReadRequest : Nat := 512
  tenBitTags : Bool := false
  aspmL1 : Bool := false
  msixEnable : Bool := false
  functionMask : Bool := false
deriving DecidableEq, Repr

/-- Everything that a reset of block 83 clears (06 R186). -/
structure Endpoint where
  cq : List CommandQueue := [{ ccSel := 0 }, { ccSel := 1 }, { ccSel := 2 }, { ccSel := 3 }]
  cc : List CompletionQueue := List.replicate 4 {}
  dmb : Dmb := {}
  cancel : CancelStatus := {}
  msix : List MsixEntry := List.replicate 64 {}
  pending : BitVec 64 := 0
  steer : List Nat := List.replicate 11 4
  config : PcieConfig := {}
  roundQueue : Nat := 0
  roundTaken : Nat := 0
deriving DecidableEq, Repr

/-- The link, what is held for it, and what the device has sent to the host. `staged` are the transfers that wait for
allowance, each with the Till accesses that it still needs, and `readCredit` and `vaultCredit` the accesses already granted
to a read whose others wait (03 R18, R76). `windowData` is what the latest read of BAR2's diagnostic window returned (07
R221). -/
structure Link where
  up : Bool := false
  d3hot : Bool := false
  held : List Tlp := []
  staged : List (Nat × Tlp) := []
  readCredit : Nat := 0
  vaultCredit : Nat := 0
  windowData : List Byte := []
  hostMem : Sparse Byte := []
  messages : List Nat := []
deriving DecidableEq, Repr

/-- Where an open command stands (07 R202): waiting for an object, executing, or waiting for another member's Steward. -/
inductive Phase where
  | waiting
  | executing
  | remote
deriving DecidableEq, Repr

/-- A command that has joined an open one by RETRY_ID (07 R208). -/
structure Joined where
  source : Source
  tag : BitVec 16
  cc : Nat
  noAccepted : Bool
  discard : Bool
deriving DecidableEq, Repr

/-- The things that commands act on (07 R202). -/
inductive Obj where
  | session (handle : Nat)
  | sessionKey (key : Nat)
  | channel (id : Nat)
  | conference (id : Nat)
  | port (p : Nat)
  | lane (l : Nat)
  | settings
  | timeBase (t : Nat)
  | pps (pin : Nat)
  | ptpPort (p : Nat)
  | launchQueue (port queue : Nat)
  | station (key : Nat)
  | stationParams
  | engine (e : Nat)
  | engineConfig
  | slot (n : Nat)
  | defaults (kind : Nat)
  | governor
  | allowances
  | steering
  | policy
  | paceOffset (w : Nat)
  | calOffset (t : Nat)
  | cluster
  | window
  | mode
  | faultLog
deriving DecidableEq, Repr

/-- A taken command that has not posted its final completion. `cc` is the completion queue that its queue selected when
it was taken (06 R170); `accepted` that it has come to its ACCEPTED (07 R203); `discard` says that block 83 was reset since (06 R186). `aux` holds a multi-step command's own progress,
`reply` the data of the answer to another member, and `copies` the session entries of other homes (01 R27). -/
structure Entry where
  id : Nat
  op : Op
  source : Source
  cc : Nat
  cmd : Cmd
  phase : Phase
  objects : List Obj
  accepted : Bool
  discard : Bool
  joined : List Joined
  abortTarget : Option Nat
  aux : List Nat
  reply : List Byte := []
  copies : List SessionCopy := []
deriving DecidableEq, Repr

/-- A retry-table entry (07 R207). -/
structure RetryRecord where
  id : BitVec 64
  op : Op
  params : BitVec 384
  entry : Nat
  result : Option (Byte × BitVec 160)
  finishedAt : Nat
deriving DecidableEq, Repr

/-- The open commands and the retry table, held in Steward SRAM. -/
structure Commands where
  entries : List Entry := []
  nextId : Nat := 0
  retry : List RetryRecord := []
deriving DecidableEq, Repr

/-- Governor configuration (02 R41, R42). -/
structure GovernorCfg where
  mode : Nat := 1
  point : Nat := 1
  floorMv : Nat := 700
  margin : Nat := 32
deriving DecidableEq, Repr

/-- An allowance and its floor in 1/256 units (03 R77). -/
structure AllowanceCfg where
  allow : Nat
  floor : Nat
deriving DecidableEq, Repr

/-- TB_CONFIG_SET's configuration (13 Table 13-3). -/
structure TimeBaseCfg where
  enable : Bool := false
  slaveOnly : Bool := false
  masterOnly : Bool := false
  source : Nat := 0
  role : Nat := 0
  profile : Nat := 0
  domain : Nat := 0
  priority1 : Nat := 0
  priority2 : Nat := 0
  localPriority : Nat := 0
deriving DecidableEq, Repr

/-- PPS_SET's configuration of one pin (13 Table 13-5). -/
structure PpsCfg where
  enable : Bool := false
  falling : Bool := false
  tb : Nat := 0
  offsetNs : Int := 0
  widthNs : Nat := 0
deriving DecidableEq, Repr

/-- PTP_PORT_SET's configuration of one port (13 Table 13-6). -/
structure PtpPortCfg where
  enable : Bool := false
  nonForward : Bool := false
  tb : Nat := 0
  transport : Nat := 0
  outerTag : BitVec 16 := 0
  innerTag : BitVec 16 := 0
  localIp : BitVec 128 := 0
  dscp : Nat := 0
  hopLimit : Nat := 0
  nextHopMac : BitVec 48 := 0
  peerIp : BitVec 128 := 0
deriving DecidableEq, Repr

/-- LAUNCH_QUEUE_SET's configuration of one queue (13 Table 13-7). -/
structure LaunchCfg where
  timed : Bool := false
  dropLate : Bool := false
  tb : Nat := 0
  offsetNs : Nat := 0
  staggerNs : Nat := 0
  cellLimit : Nat := 2048
  lateTolNs : Nat := 0
deriving DecidableEq, Repr

/-- PORT_SET's configuration (12 R374). -/
structure PortCfg where
  enable : Bool := false
  fec : Bool := false
  outer88a8 : Bool := false
  speed : Nat := 1
  mac : BitVec 48 := 0
  maxFrame : Nat := 9216
deriving DecidableEq, Repr

/-- LANE_SET's configuration (14 R439). -/
structure LaneCfg where
  txInvert : Bool := false
  rxPolarityFixed : Bool := false
  rxInvert : Bool := false
  adaptFreeze : Bool := false
  txOff : Bool := false
  txMain : Nat := 54
  txPre : Nat := 3
  txPost : Nat := 6
deriving DecidableEq, Repr

/-- A static station entry (11 R335: a setting). -/
structure StaticStation where
  key : StationKey
  node : Nat
  port : Nat
deriving DecidableEq, Repr

/-- The default allowances (03 Table 3-4), entry 4 × class + resource, in 1/256 units. -/
def defaultAllowances : List AllowanceCfg :=
  [ ⟨480000 * 256, 0⟩, ⟨1200000 * 256, 0⟩, ⟨1536 * 256, 0⟩, ⟨0, 0⟩,
    ⟨160000 * 256, 0⟩, ⟨200000 * 256, 0⟩, ⟨0, 0⟩, ⟨16 * 256, 0⟩,
    ⟨64000 * 256, 0⟩, ⟨64000 * 256, 0⟩, ⟨0, 0⟩, ⟨32 * 256, 0⟩,
    ⟨160000 * 256, 0⟩, ⟨200000 * 256, 0⟩, ⟨128 * 256, 0⟩, ⟨0, 0⟩ ] ++
  [ ⟨16 * 256, 64⟩, ⟨64 * 256, 2⟩, ⟨0, 0⟩, ⟨0, 0⟩,
    ⟨256 * 256, 0⟩, ⟨1024 * 256, 16 * 256⟩, ⟨4 * 256, 0⟩, ⟨0, 0⟩,
    ⟨256 * 256, 16 * 256⟩, ⟨64 * 256, 0⟩, ⟨0, 0⟩, ⟨8 * 256, 2 * 256⟩,
    ⟨1024 * 256, 64 * 256⟩, ⟨1024 * 256, 64 * 256⟩, ⟨0, 0⟩, ⟨16 * 256, 4 * 256⟩ ]

/-- The running settings (07 R210): the configuration that a settings generation saves and a boot restores. -/
structure Settings where
  governor : GovernorCfg := {}
  allowances : List AllowanceCfg := defaultAllowances
  timeBases : List TimeBaseCfg := List.replicate 4 {}
  pps : List PpsCfg := List.replicate 6 {}
  ptpPorts : List PtpPortCfg := List.replicate 8 {}
  launch : List LaunchCfg := List.replicate 64 {}
  ports : List PortCfg := List.replicate 8 {}
  lanes : List LaneCfg := List.replicate 8 ({} : LaneCfg) ++ List.replicate 32 { txMain := 0, txPre := 0, txPost := 0 }
  statics : List StaticStation := []
  moveHoldMs : Nat := 500
  ageS : Nat := 300
  clusterSize : Nat := 1
  jitter : List JitterCfg := List.replicate 2 {}
  detect : List DetectCfg := List.replicate 2 {}
  phase : List PhaseCfg := List.replicate 2 {}
  level : List LevelCfg := List.replicate 2 {}
deriving DecidableEq, Repr

/-- A settings area of the flash (07 R211, R214; 17 R533): erased, or with a generation, whose header is written last, and the CRC-32C
that it carries. -/
structure Area where
  erased : Bool := true
  headerDone : Bool := false
  crc : Nat := 0
  archived : Bool := false
  gen : Nat := 0
  schema : Nat := 0
  writerMajor : Nat := 0
  writerMinor : Nat := 0
  writerPatch : Nat := 0
  length : Nat := 0
  content : Settings := {}
deriving DecidableEq, Repr

/-- A settings generation being written (07 R213): flash operations done of those it needs, and whether a settings change has
completed meanwhile (R229). -/
structure SaveJob where
  entry : Option Nat
  copy : Settings
  gen : Nat
  area : Nat
  done : Nat
  total : Nat
  dirtied : Bool := false
deriving DecidableEq, Repr

/-- Settings bookkeeping (07 R209 to R215). -/
structure SettingsState where
  areas : List Area := List.replicate 4 {}
  loadedGen : Nat := 0
  loadedArea : Option Nat := none
  loaded : Option Settings := none
  dirty : Bool := false
  save : Option SaveJob := none
  unreadable : Bool := false
deriving DecidableEq, Repr

/-- The pace governor at run time and the pace monitors (02). `checks` are the AVSBus writes whose comparison is due: the
instant and the target written (R45). `offsets` are the pace offset words of the present period (R67). -/
structure Governor where
  started : Bool := false
  targetMv : Nat := 0
  ackedMv : Nat := 0
  failures : Nat := 0
  fault : Bool := false
  checks : List (Nat × Nat) := []
  setEntry : Option Nat := none
  raiseWaiters : List Nat := []
  spareSince : Option Nat := none
  lastStepDown : Nat := 0
  loadChangedIn : Nat := 0
  gate : List (BitVec 16) := List.replicate 72 0
  offsets : List Word32 := List.replicate 18 0
  paceLowAt : List (Option Nat) := List.replicate 72 none
  railLowAt : Option Nat := none
  railLowCount : Nat := 0
  railLowMin : Nat := 0
  railLowTarget : Nat := 0
deriving DecidableEq, Repr

/-- What a waiting request is for: a scrub write-back (03 R84), the flash work that a FLASH request carries out, accesses of
staged host transfers (03 R76), or a slice of an engine self-test (08 R250). -/
inductive RequestJob where
  | other
  | writeBack
  | settings
  | faultLog
  | image (entry : Nat)
  | host
  | engineTest (engine : Nat)
deriving DecidableEq, Repr

/-- A waiting request. One for the host stands for `size` requests of one access each. -/
structure Request where
  size : Nat
  job : RequestJob
deriving DecidableEq, Repr

/-- One class and resource of the Allowance controller (03 R77); B, C and S in 1/256 units. -/
structure Balance where
  b : Int := 0
  c : Int := 0
  s : Int := 0
  waiting : List Request := []
  waitPeriods : List Nat := []
  lastSpend : Nat := 0
  lastFloorOpen : Bool := false
  lastDry : Bool := false
  raisedAt : Option Nat := none
deriving DecidableEq, Repr

/-- The Allowance controller, the period and the scrubber (03). `lastForce` and `lastOnTb0` are the allowances in force and
the reference in the last completed period (R88); `mediaCredit` the Vault accesses granted to a refill whose others wait. -/
structure Allowance where
  running : Bool := false
  period : Nat := 0
  onTb0 : Bool := false
  lastOnTb0 : Bool := false
  lastBoundary : Nat := 0
  freeRunPhase : Nat := 0
  sinceFrame : Nat := 0
  frame : Nat := 0
  frameAt : Nat := 0
  realign : Bool := false
  force : List AllowanceCfg := defaultAllowances
  lastForce : List AllowanceCfg := defaultAllowances
  mediaCredit : Nat := 0
  balances : List Balance := List.replicate 32 {}
  setEntries : List Nat := []
  flashBusy : Option Request := none
  tillPos : Nat := 0
  vaultPos : Nat := 0
  tillPasses : Nat := 0
  vaultPasses : Nat := 0
  tillPassStart : Nat := 0
  vaultPassStart : Nat := 0
  tillLastPassS : Nat := 0
  vaultLastPassS : Nat := 0
  tillOverdue : Bool := false
  vaultOverdue : Bool := false
  calIdleRun : Nat := 0
  calCount : Nat := 0
  calForcedDue : Bool := false
deriving DecidableEq, Repr

/-- A task of the Dispatcher (08 R238, R241). -/
inductive TaskKind where
  | frame
  | retry
  | restore
deriving DecidableEq, Repr

structure Task where
  channel : Nat
  level : Nat
  kind : TaskKind
  frame : Nat
  upsets : Nat
  readyAt : Nat
deriving DecidableEq, Repr

/-- One engine (08). `calSlice` that it runs a calibration slice, `testSlice` that this is one of an engine self-test. `busyPrev` and `busyNow`: it held a granted task in the previous and in the present period. -/
structure Engine where
  preempt : Bool := true
  retired : Bool := false
  ready : List Task := []
  running : Option Task := none
  parked : Option Task := none
  calSlice : Bool := false
  testSlice : Bool := false
  lastCal : Nat := 0
  busyPrev : Bool := false
  busyNow : Bool := false
  faults : List Nat := []
  rejoinPeriod : Nat := 0
deriving DecidableEq, Repr

/-- An ENGINE_TEST in progress: iterations passed, whether the present one holds its descriptor, and its slices done
(08 R243, R250). -/
structure TestJob where
  entry : Nat
  engine : Nat
  iterations : Nat
  passed : Nat
  holds : Bool
  slices : Nat
deriving DecidableEq, Repr

/-- The board of engines and the Dispatcher (08). `askers` are the engines that wait for the allowance of their next task's
grant, in the order in which they asked (R239; 03 R78). -/
structure Board where
  engines : List Engine := List.replicate 64 {}
  reserveCoins : Nat := 0
  transientFree : Nat := 8192
  transientLow : Nat := 8192
  tests : List TestJob := []
  askers : List Nat := []
  retriesPlaced : List (Nat × Nat) := []
deriving DecidableEq, Repr

/-- Channels and conferences (09), and the FCU defaults that legs bound since the latest frame boundary take (10). -/
structure Voice where
  channels : List Channel := []
  conferences : List Conference := []
  nextChannel : Nat := 1
  nextConference : Nat := 1
  phaseInForce : List PhaseCfg := List.replicate 2 {}
  levelInForce : List LevelCfg := List.replicate 2 {}
deriving DecidableEq, Repr

/-- A session entry of the home table (11 Table 11-1). -/
structure Session where
  index : Nat
  generation : Nat
  aliasIndex : Option Nat
  state : Nat
  flags : Byte
  runNode : Option Nat
  leg : Option Leg
  channel : Nat
  outerTag : BitVec 16
  innerTag : BitVec 16
  localIp : BitVec 128
  localPort : BitVec 16
  remotePort : BitVec 16
  remoteIp : BitVec 128
  nextHopMac : BitVec 48
  egressPort : Nat
  egressNode : Nat
  dscp : Nat
  hopLimit : Nat
  launchQueue : Nat
  epoch : Byte
  lastRxPeriod : Nat
  everLatched : Bool
  relatched : Bool
deriving DecidableEq, Repr

/-- A station entry (11 R333 to R335). -/
structure Station where
  key : StationKey
  node : Nat
  port : Nat
  isStatic : Bool
  lastSeenPeriod : Nat
  lastSeenAt : Nat
deriving DecidableEq, Repr

/-- A member's report bookkeeping for one key (11 R335). -/
structure Sighting where
  key : StationKey
  port : Nat
  at_ : Nat
  lastReport : Option Nat
  lastRequest : Option Nat
deriving DecidableEq, Repr

/-- The tables that the Teller writes, and its queue (11). -/
structure Tables where
  sessions : List Session := []
  generations : Sparse Nat := []
  cache : Sparse (List Nat) := []
  stations : List Station := []
  sightings : List Sighting := []
  teller : List TellerRequest := []
deriving DecidableEq, Repr

/-- The states of a port (12 Table 12-1). -/
inductive PortStateCode where
  | disabled
  | down
  | up
  | reset
deriving DecidableEq, Repr

/-- A port at run time (12 R362, R363). `linkSince` is when its link became good, or ceased to be. -/
structure Port where
  state : PortStateCode := .disabled
  blockLock : Bool := false
  fecLock : Bool := false
  hiBer : Bool := false
  localFault : Bool := false
  remoteFault : Bool := false
  changedPeriod : Nat := 0
  linkSince : Nat := 0
  sendingUntil : Nat := 0
  lastPtp : List Byte := []
deriving DecidableEq, Repr

/-- The states of a time base (13 Table 13-1). -/
inductive TbState where
  | off
  | free
  | acquiring
  | locked
  | holdover
deriving DecidableEq, Repr

/-- A time base at run time (13 R385 to R388): its value in 1/65,536 ns at instant `at_`, its rate in 1/1,024 ppb, and
the step-free shadow. -/
structure TimeBase where
  state : TbState := .off
  value : Nat := 0
  shadow : Nat := 0
  at_ : Nat := 0
  rate : Int := 0
  goodEdges : Nat := 0
  offsetNs : Int := 0
  lastEdge : Option Nat := none
  setEntry : Option Nat := none
  setTime : Nat := 0
  rates : List (Nat × Int) := []
deriving DecidableEq, Repr

/-- A message of the time-base unit waiting to be sent (13 R396, R400): its frame less the FCS, and where the PTP message lies in it. -/
structure PtpWaiting where
  port : Nat
  tb : Nat
  isEvent : Bool
  transport : Nat
  offset : Nat
  frame : List Byte
  ingressAt : Nat
  ingressShadow : Nat
  residence : Nat
  own : Bool
deriving DecidableEq, Repr

/-- The time-base unit (13). -/
structure TimeUnit where
  bases : List TimeBase := List.replicate 4 {}
  onTbref : Bool := false
  tbrefBackSince : Option Nat := none
  pinLastEdge : List (Option Nat) := List.replicate 2 none
  waiting : List PtpWaiting := []
  ppsPulses : List Nat := List.replicate 4 0
  ppsUntil : List Nat := List.replicate 4 0
  frameValues : List Nat := List.replicate 4 0
deriving DecidableEq, Repr

/-- A packet in a launch queue (13 R398). `launch` is its launch time in 1/65,536 ns of its queue's time base; `tagged` that it
carries a VLAN tag; `payload` the bytes of an RTCP packet, an RFC 4733 event or a UDPTL datagram before protection. -/
structure LaunchPacket where
  launch : Nat
  channel : Nat
  frameBytes : Nat
  order : Nat
  late : Bool
  rtp : Option Leg
  tagged : Bool
  payload : List Byte := []
deriving DecidableEq, Repr

/-- A launch queue. `committed` is the packet that was granted last: launch time, channel and the end of its
transmission (13 R404). -/
structure LaunchQueue where
  packets : List LaunchPacket := []
  lastGranted : Option Nat := none
  committed : Option (Nat × Nat × Nat) := none
  lateCount : Nat := 0
  lateRaisedAt : Option Nat := none
deriving DecidableEq, Repr

structure Launch where
  queues : List LaunchQueue := List.replicate 64 {}
  nextOrder : Nat := 0
deriving DecidableEq, Repr

/-- The states of a lane (14 Table 14-3). -/
inductive LaneStateCode where
  | off
  | training
  | ready
  | test
  | fault
deriving DecidableEq, Repr

/-- A lane at run time (14). -/
structure Lane where
  state : LaneStateCode := .off
  cdrLocked : Bool := false
  aligned : Bool := false
  blockLockAt : Option Nat := none
  polarityDone : Bool := false
  polarityInverted : Bool := false
  mapReversed : Bool := false
  laneId : Nat := 0
  txMain : Nat := 0
  txPre : Nat := 0
  txPost : Nat := 0
  ctle : Nat := 0
  dfe : List Int := List.replicate 12 0
  cdrBw : Nat := 1
  vrefOfs : Int := 0
  eqSource : Nat := 0
  loop : Nat := 0
  prbsGen : Nat := 0
  prbsGenInvert : Bool := false
  checker : Nat := 0
  checkerInvert : Bool := false
  checkerRunning : Bool := false
  checkerStarted : Bool := false
  checkerLocked : Bool := false
  checkerBits : Nat := 0
  checkerErrs : Nat := 0
  injectInterval : Nat := 0
  errorSeconds : List Nat := []
  errorMark : Nat := 0
  windowAt : Nat := 0
  termTrim : Int := 0
  swingTrim : Int := 0
  retired : Bool := false
deriving DecidableEq, Repr

/-- An eye scan in progress (14 R434, R441). -/
structure EyeScan where
  entry : Nat
  lane : Nat
  phaseStep : Nat
  voltStep : Nat
  bitsLog2 : Nat
  buffer : Nat
  points : Nat
  done : Nat
  broken : Bool := false
deriving DecidableEq, Repr

/-- LINKS.STATE of CLUSTER_STATUS (15 Table 15-2). -/
inductive TyLinkCode where
  | disabled
  | down
  | training
  | up
  | wiring
deriving DecidableEq, Repr

/-- A frame handed to a link (15 R459 to R461): its destination, payload and payload bytes, and once it is sent its SEQ and the
instant. -/
structure ReplayFrame where
  seq : BitVec 16
  dest : Nat
  payload : TyPayload
  octets : Nat
  sentAt : Nat
  source : Nat := 0
  hops : Nat := 0
  residence : Nat := 0
deriving DecidableEq, Repr

/-- A Tylane link (15 R458 to R466): `replay` are the frames sent and not acknowledged, `waiting` those that find no receive
buffer of the partner's or no room in the replay buffer, and `buffer` is the receive buffer that it has last advertised. -/
structure TyLink where
  state : TyLinkCode := .disabled
  width : Nat := 0
  half : Nat := 0xFF
  delayPs : Nat := 0
  probes : Nat := 0
  probeMin : Nat := 0
  txSeq : BitVec 16 := 0
  rxSeq : BitVec 16 := 0
  replay : List ReplayFrame := []
  waiting : List ReplayFrame := []
  buffer : Nat := 0
  replayCount : Nat := 0
  ackOwed : Bool := false
  nakOwed : Bool := false
  trainingSince : Nat := 0
deriving DecidableEq, Repr

structure Lanes where
  lanes : List Lane := List.replicate 40 {}
  scans : List EyeScan := []
  links : List TyLink := List.replicate 4 {}
deriving DecidableEq, Repr

/-- A view (15 R468). -/
structure ClusterView where
  epoch : Nat
  king : Nat
  members : BitVec 16
  homeMap : List Nat
deriving DecidableEq, Repr

/-- What this node knows of another (15 R467). -/
structure Peer where
  heardAt : Option Nat := none
  mode : Nat := 0
  size : Nat := 0
  freeCoins : Int := 0
  epoch : Nat := 0
deriving DecidableEq, Repr

/-- A move to this device that waits for the rail (02 R64; 15 R473 step 1). -/
structure Arrival where
  node : Nat
  channel : Channel
  cause : Nat
  lost : Nat
  place : Option ConferencePlace
deriving DecidableEq, Repr

/-- Membership and cluster work (15). `epochSeen` is the highest epoch this node has published or adopted; `movedLegs` are
the handles of legs that have moved away, with the node that they moved to (01 R31); `arrivals` are the moves that wait for a raise
of the rail. -/
structure Cluster where
  view : Option ClusterView := none
  hadView : Bool := false
  previousLowest : Nat := 0
  epochSeen : Nat := 0
  peers : List Peer := List.replicate 16 {}
  drainStarts : List Nat := []
  drainRetry : List (Nat × Nat) := []
  bootRequested : Bool := false
  leaveWait : Option (Nat × Nat × Nat) := none
  movedLegs : List (Nat × Nat) := []
  arrivals : List Arrival := []
deriving DecidableEq, Repr

/-- A fault record (16 Table 16-3). -/
structure FaultRecord where
  seq : Word32
  kind : Nat
  unitType : Nat
  unitIndex : Nat
  period : Nat
  cause : Nat
  node : Nat
  mode : Nat
  count : Nat
  channel : Nat
  address : Nat
deriving DecidableEq, Repr

/-- Upset histories, the shadow of the retirement map for memory rows (16 R501) and the fault log (16). -/
structure Faults where
  tillRows : List Nat := []
  vaultRows : List Nat := []
  tillSpares : List Nat := []
  vaultRepairs : Nat := 0
  vaultBusy : List Nat := []
  staged : List FaultRecord := []
  log : List FaultRecord := []
  nextSeq : Word32 := 0
  transientSecond : Nat := 0
  transientCount : Nat := 0
deriving DecidableEq, Repr

/-- Who asked for a Ledger write (17 R516). -/
inductive Writer where
  | host
  | rhoper (entry : Option Nat)
  | rom
deriving DecidableEq, Repr

structure LedgerWrite where
  word : Nat
  value : Word32
  writer : Writer
deriving DecidableEq, Repr

/-- The Ledger (17 R516 to R520). The head of `queue` is the write under way when `started`. `remaps` lists the words
that spares stand in for, spare 0 first. -/
structure Ledger where
  words : Sparse Word32 := []
  counts : Sparse Nat := []
  remaps : List Nat := []
  failed : List Nat := []
  queue : List LedgerWrite := []
  started : Bool := false
deriving DecidableEq, Repr

/-- An image slot of the flash (17 R522, R523): its header sector, empty while erased, and the bytes programmed from slot
offset 4,096 on. -/
structure Slot where
  header : List Byte := []
  body : List Byte := []
deriving DecidableEq, Repr

/-- The flash work of an image command under way (17 R527, R528): the bytes that it programs from `offset` of the slot
on, and the sizes of the operations left, 0 for an erase. -/
structure ImageJob where
  entry : Nat
  slot : Nat
  offset : Nat
  data : List Byte
  left : List Nat
deriving DecidableEq, Repr

/-- Firmware images, downloads and trials (17). `staging` is the body of the image in Till staging; `headerStaged` the
header bytes that have arrived, wherever the header is staged; `started` that an image is verified and ready to start;
`resumable` that the download in progress was begun before the latest reset; `image` the running image when it came from
Till staging; `romWrite` the slot that the ROM boots, and in trial or not, once its BOOT_CTRL write is done, with the BOOT_CTRL that it
read; `burned` the
fuse security version that Rhoper has raised, `burnDue` the one that a confirm under way raises it to, 0 for none; `revertReset` that the trial watchdog has expired and a WARM reset follows
its BOOT_CTRL write. -/
structure Firmware where
  slots : List Slot := List.replicate 2 {}
  staging : List Byte := []
  headerStaged : List (Option Byte) := []
  expected : Nat := 4096
  downloading : Option Nat := none
  resumable : Bool := false
  jobs : List ImageJob := []
  started : Bool := false
  image : Option Slot := none
  trialSince : Option Nat := none
  revertReset : Bool := false
  bootedOther : Bool := false
  bootCtrlFailed : Bool := false
  romWrite : Option (Nat × Bool × Nat) := none
  burned : Nat := 0
  burnDue : Nat := 0
deriving DecidableEq, Repr

/-- The management target and its mailbox (18 R554 to R557). -/
structure Mgmt where
  address : BitVec 7 := 0x58
  dynamic : Option (BitVec 7) := none
  cmd : List Byte := List.replicate 64 0
  cmpl : List Byte := List.replicate 32 0
  busy : Bool := false
  taken : Bool := false
  done : Bool := false
  seq : BitVec 8 := 0
  readback : List Byte := []
deriving DecidableEq, Repr

/-- Telemetry, thermal state and pins (18 R558 to R561). -/
structure Telemetry where
  temps : List (Option Int) := List.replicate 9 (some 0)
  tripping : List Nat := List.replicate 9 0
  rails : List Nat := List.replicate 4 0
  gpio : BitVec 16 := 0xFFFF
  refclk : Bool := false
  tbref : Bool := false
  warn : Bool := false
  coolSince : Option Nat := none
deriving DecidableEq, Repr

/-- The TAP and the debug UART (18 R562 to R565) (DESIGN CHOICE, log 76). -/
structure Debug where
  ir : BitVec 8 := 1
  pinsTaken : Bool := false
  uartRx : List Byte := []
deriving DecidableEq, Repr

/-- The state of the block. `pending` is the queue of the commands that are waiting, first in, first out; `now` is the
model's own clock in ns; `freeCount` numbers the free values drawn. -/
structure State where
  pending : List Instr := []
  now : Nat := 0
  freeCount : Nat := 0
  power : Power := {}
  cause : ResetCause := {}
  boot : BootStatus := {}
  mode : ModeReg := {}
  bkp : List Word32 := List.replicate 16 0
  rmem : Sparse Byte := []
  rmemBad : List Nat := []
  ep : Endpoint := {}
  eq : EventQueue := {}
  irq : Interrupts := {}
  link : Link := {}
  cmds : Commands := {}
  cfg : Settings := {}
  sets : SettingsState := {}
  gov : Governor := {}
  alw : Allowance := {}
  board : Board := {}
  voice : Voice := {}
  tables : Tables := {}
  ports : List Port := List.replicate 8 {}
  time : TimeUnit := {}
  launch : Launch := {}
  lanes : Lanes := {}
  cluster : Cluster := {}
  faults : Faults := {}
  ledger : Ledger := {}
  fw : Firmware := {}
  mgmt : Mgmt := {}
  tele : Telemetry := {}
  testPort : Debug := {}
  window : Option (Bool × Nat) := none
  tally : Sparse Nat := []
deriving DecidableEq, Repr

/-- Why a step stops for good. No rule of the spec stops this block without describing what follows, so the one
constructor is raised by nothing in the table's rows but those that NOTES.md lists under Stops. -/
inductive Fault where
  /-- The spec calls the behaviour undefined from here to the next POR and gives no effect (04 R99, 02 R36). Raised
  by VDD_CORE_LOW below 0.60 V. Safe: the model stops where the device is not described. -/
  | undefinedSupply
deriving DecidableEq, Repr

/-- Why a command has no meaning. -/
inductive Refusal where
  /-- The row has no meaning in the model yet. Raised by the dispatch arms only. Safe: the model stops. -/
  | notModelled (mnemonic : String)
deriving DecidableEq, Repr

/-- The block as a power-on reset leaves it at the instant the internal reset is asserted (04 R100, R109): every field
at its default above (DESIGN CHOICE, logs 5, 7 and 8). -/
def State.reset : State := {}

end Sys2Proof.Machine
end

