-- ==== Sys2Proof/Machine/Bits.lean ====
section
/-!
DEFINITION. Little-endian fields (00 R6), the sparse memories, positions in lists, and the two cyclic redundancy checks
that the spec names (07 R211 CRC-32C, 12 R364 the frame check sequence).
-/
namespace Sys2Proof.Machine

/-- The low `n` bytes of `x`, least significant first (00 R6). -/
def natBytes (n x : Nat) : List Byte :=
  (List.range n).map fun k => BitVec.ofNat 8 (x >>> (8 * k))

/-- `n` bytes of a value in network order. -/
def netBytes (n v : Nat) : List Byte :=
  (natBytes n v).reverse

/-- The number that bytes spell, least significant first (00 R6). -/
def bytesNat : List Byte → Nat
  | [] => 0
  | b :: rest => b.toNat + 256 * bytesNat rest

/-- The number that bytes spell, most significant first, as network headers do. -/
def bytesNatBE (bs : List Byte) : Nat :=
  bytesNat bs.reverse

/-- A field of a descriptor: byte offset, size in bytes, value. -/
structure Fld where
  off : Nat
  size : Nat
  val : Nat

/-- A descriptor as one number, from the fields it carries; every other byte is zero. -/
def layout (base : Nat) (fs : List Fld) : Nat :=
  fs.foldl (fun acc f => acc ||| ((f.val % 2 ^ (8 * f.size)) <<< (8 * (f.off - base)))) 0

/-- An integer as an unsigned field of `n` bytes, two's complement. -/
def twos (n : Nat) (x : Int) : Nat :=
  (x % (2 ^ (8 * n) : Nat)).toNat

/-- The integer that an unsigned field of `bits` bits holds in two's complement. -/
def signed (bits x : Nat) : Int :=
  if x % 2 ^ bits < 2 ^ (bits - 1) then (x % 2 ^ bits : Nat) else ((x % 2 ^ bits : Nat) : Int) - (2 ^ bits : Nat)

/-- A Bool as a bit. -/
def bit (b : Bool) : Nat :=
  if b then 1 else 0

/-- Bits `lo+len-1 .. lo` of a number (00 R5). -/
def bitsOf (x lo len : Nat) : Nat :=
  (x >>> lo) % 2 ^ len

/-- The value that a key holds, `d` where it is not listed. -/
def sget {α : Type} (d : α) : Sparse α → Nat → α
  | [], _ => d
  | (k, v) :: rest, key => if k = key then v else sget d rest key

/-- The list without the key. -/
def serase {α : Type} : Sparse α → Nat → Sparse α
  | [], _ => []
  | (k, v) :: rest, key => if k = key then rest else (k, v) :: serase rest key

/-- The list with the key at a value that is not the default. -/
def sinsert {α : Type} : Sparse α → Nat → α → Sparse α
  | [], key, x => [(key, x)]
  | (k, v) :: rest, key, x =>
    if key < k then (key, x) :: (k, v) :: rest
    else if k = key then (key, x) :: rest
    else (k, v) :: sinsert rest key x

/-- The map with the key set; the default value is not listed. -/
def sset {α : Type} [DecidableEq α] (d : α) (m : Sparse α) (key : Nat) (x : α) : Sparse α :=
  if x = d then serase m key else sinsert m key x

/-- Keys strictly rising from above `lo`, no entry at the default. -/
def swfFrom {α : Type} [DecidableEq α] (d : α) : Nat → Sparse α → Bool
  | _, [] => true
  | lo, (k, v) :: rest => decide (lo ≤ k) && decide (v ≠ d) && swfFrom d (k + 1) rest

/-- The canonical form of a sparse memory. -/
def swf {α : Type} [DecidableEq α] (d : α) (m : Sparse α) : Bool :=
  swfFrom d 0 m

/-- The canonical form of the byte memories: the retention memory (04 R123) and the host memory that the block has written.
An unlisted address reads as 0 (DESIGN CHOICE, log 9). -/
def Memory.wf (m : Sparse Byte) : Bool :=
  swf 0 m

/-- Bytes stored from an address on (DESIGN CHOICE, log 9). -/
def swrite (m : Sparse Byte) (address : Nat) : List Byte → Sparse Byte
  | [] => m
  | b :: rest => swrite (sset 0 m address b) (address + 1) rest

/-- `n` bytes read from an address on (DESIGN CHOICE, log 9). -/
def sread (m : Sparse Byte) (address n : Nat) : List Byte :=
  (List.range n).map fun k => sget 0 m (address + k)

/-- The list with position `i` changed. -/
def upd {α : Type} (l : List α) (i : Nat) (f : α → α) : List α :=
  l.modify i f

/-- ceil(n / d). -/
def ceilDiv (n d : Nat) : Nat :=
  (n + d - 1) / d

/-- The reflected polynomial remainder step of a 32-bit CRC: one bit. -/
def crcBit (poly crc : Nat) : Nat :=
  if crc % 2 = 1 then (crc >>> 1) ^^^ poly else crc >>> 1

/-- One byte. -/
def crcByte (poly crc : Nat) (b : Byte) : Nat :=
  (List.range 8).foldl (fun c _ => crcBit poly c) (crc ^^^ b.toNat)

/-- A reflected 32-bit CRC over bytes, initial value and final exclusive-or all ones. -/
def crc32With (poly : Nat) (bs : List Byte) : Nat :=
  (bs.foldl (crcByte poly) 0xFFFFFFFF) ^^^ 0xFFFFFFFF

/-- CRC-32C (07 R211, 17 R522). -/
def crc32c (bs : List Byte) : Nat :=
  crc32With 0x82F63B78 bs

/-- The CRC-32 of the Ethernet frame check sequence (12 R364). -/
def crc32 (bs : List Byte) : Nat :=
  crc32With 0xEDB88320 bs

/-- The bits of a mask that are set, below `n`. -/
def setBits (n x : Nat) : List Nat :=
  (List.range n).filter fun k => x.testBit k

/-- A list with an element put before the first that it does not follow. -/
def insertBy {α : Type} (before : α → α → Bool) (x : α) : List α → List α
  | [] => [x]
  | y :: rest => if before x y then x :: y :: rest else y :: insertBy before x rest

/-- Insertion sort. -/
def sortBy {α : Type} (before : α → α → Bool) (l : List α) : List α :=
  l.foldr (insertBy before) []

/-- `n` bytes of a frame from offset `o`, in network order. -/
def be (b : List Byte) (o n : Nat) : Nat :=
  bytesNatBE ((b.drop o).take n)

/-- The sum of 16-bit words in network order; a last odd byte is padded with zero. -/
def sum16 : List Byte → Nat
  | [] => 0
  | [x] => 256 * x.toNat
  | x :: y :: rest => 256 * x.toNat + y.toNat + sum16 rest

/-- A sum folded to 16 bits in ones' complement. -/
def fold16 (n : Nat) : Nat :=
  let a := n % 65536 + n / 65536
  let b := a % 65536 + a / 65536
  b % 65536 + b / 65536

/-- The EtherTypes that open a tag (12 R366). -/
def isTpid (v : Nat) : Bool := v == 0x8100 || v == 0x88A8

end Sys2Proof.Machine
end

