-- ==== Sys2Proof/Machine/Names.lean ====
section
/-!
DEFINITION. The numbers that the spec gives to statuses (07 Table 7-4), events (07 Table 7-10), counters (12 Table 12-3
and the tables it names) and modes (05 Table 5-1), and to opcodes (07 Table 7-9).
-/
namespace Sys2Proof.Machine

def stDone : Byte := 0x00
def stAccepted : Byte := 0x01
def stCancelled : Byte := 0x02
def stTooLate : Byte := 0x03
def stBadOpcode : Byte := 0x10
def stBadArg : Byte := 0x11
def stBadMode : Byte := 0x12
def stNoResource : Byte := 0x13
def stNotFound : Byte := 0x14
def stExists : Byte := 0x15
def stDenied : Byte := 0x16
def stDupTag : Byte := 0x17
def stHwFault : Byte := 0x20
def stRetired : Byte := 0x21
def stTimeout : Byte := 0x22
def stSettingsUnreadable : Byte := 0x30
def stImageInvalid : Byte := 0x31
def stWorn : Byte := 0x32

def evModeChanged : Nat := 0x0002
def evEventsLost : Nat := 0x0004
def evBlockResetDone : Nat := 0x0012
def evPowerWarn : Nat := 0x0013
def evSettingsSaved : Nat := 0x0100
def evSettingsLoaded : Nat := 0x0101
def evSessionLatched : Nat := 0x0201
def evChannelMoved : Nat := 0x0210
def evChannelSuspended : Nat := 0x0211
def evFcuLevel : Nat := 0x0240
def evToneDetected : Nat := 0x0300
def evFaxDetected : Nat := 0x0301
def evTelephoneEvent : Nat := 0x0302
def evTbState : Nat := 0x0400
def evLaunchLate : Nat := 0x0401
def evPortLink : Nat := 0x0500
def evLaneState : Nat := 0x0510
def evMemberChanged : Nat := 0x0600
def evLinkNarrowed : Nat := 0x0601
def evKingChanged : Nat := 0x0602
def evLedgerWordRemapped : Nat := 0x0700
def evTrialReverted : Nat := 0x0731
def evTallyHalf : Nat := 0x0801
def evPaceLow : Nat := 0x0811
def evRailLow : Nat := 0x0812
def evThermalWarn : Nat := 0x0813
def evAllowanceShort : Nat := 0x0821
def evFloorMissed : Nat := 0x0822
def evScrubOverdue : Nat := 0x0823
def evEngineRetired : Nat := 0x0A00
def evUnitRetired : Nat := 0x0A01
def evUnitReinstated : Nat := 0x0A02
def evGovernorFault : Nat := 0x0A20

/-- A counter's name: group, instance, SUB and number (12 R370). -/
structure Ctr where
  group : Nat
  inst : Nat
  sub : Nat
  num : Nat
deriving DecidableEq, Repr

/-- The key of a counter in the Tally. -/
def ctrKey (c : Ctr) : Nat :=
  ((c.group * 4294967296 + c.inst) * 256 + c.sub) * 65536 + c.num

/-- The counter whose key is given. -/
def keyCtr (k : Nat) : Ctr :=
  { group := k / 72057594037927936, inst := k / 16777216 % 4294967296, sub := k / 65536 % 256, num := k % 65536 }

/-- The bits of a counter: 48 for byte counters, ALLOW_SPEND, PRBS_BITS and PRBS_ERR, else 32 (12 R370, R371; 13 R414;
14 R448; 15 R482). -/
def ctrBits (c : Ctr) : Nat :=
  match c.group with
  | 1 => if c.num = 0 ∨ c.num = 31 then 48 else 32
  | 4 => if c.num = 0 then 48 else 32
  | 5 => if c.num = 8 ∨ c.num = 9 then 48 else 32
  | 6 => if c.sub < 8 ∧ c.num = 6 then 48 else 32
  | 7 => if c.inst < 4 ∧ (c.num = 2 ∨ c.num = 3) then 48 else 32
  | _ => 32

/-- A device counter of group 0 (12 Table 12-3, 16 R510, 17 R547, 18 R567). -/
def devCtr (n : Nat) : Ctr := ⟨0, 0, 0, n⟩
def portCtr (p n : Nat) : Ctr := ⟨1, p, 0, n⟩
def engineCtr (e n : Nat) : Ctr := ⟨2, e, 0, n⟩
def legCtr (channel leg n : Nat) : Ctr := ⟨3, channel, leg, n⟩
def allowCtr (cls res n : Nat) : Ctr := ⟨4, 4 * cls + res, 0, n⟩
def laneCtr (l n : Nat) : Ctr := ⟨5, l, 0, n⟩
def launchCtr (port queue n : Nat) : Ctr := ⟨6, port, queue, n⟩
def ptpCtr (port n : Nat) : Ctr := ⟨6, port, 8, n⟩
def tbCtr (tb n : Nat) : Ctr := ⟨6, 8 + tb, 9, n⟩
def tylaneCtr (link n : Nat) : Ctr := ⟨7, link, 0, n⟩

/-- Mode codes (05 Table 5-1). -/
def Mode.code : Mode → Nat
  | .strap => 0
  | .loader => 1
  | .recovery => 2
  | .standby => 3
  | .service => 4
  | .drain => 5
  | .diagnostic => 6
  | .halt => 7

/-- The mode with a code (05 Table 5-1). -/
def modeOf : Nat → Mode
  | 0 => .strap
  | 1 => .loader
  | 2 => .recovery
  | 3 => .standby
  | 4 => .service
  | 5 => .drain
  | 6 => .diagnostic
  | _ => .halt

/-- The modes in which the families other than 0x02, 0x03 and 0x09 run (05 Table 5-4). -/
def runModes : List Mode := [.standby, .service, .drain, .diagnostic]

/-- Opcodes (07 Table 7-9). -/
def opcodes : List (Nat × Op) :=
  [ (0x0000, .nop), (0x0001, .identify), (0x0002, .modeSet), (0x0003, .versionGet), (0x0004, .bootSlot),
    (0x0005, .commandAbort), (0x0006, .eqSteerSet), (0x0010, .deviceReset), (0x0011, .resetPolicySet),
    (0x0020, .governorSet), (0x0100, .settingsSave), (0x0101, .settingsStatus), (0x0102, .settingsRevert),
    (0x0103, .settingsFactory), (0x0130, .allowanceSet) ] ++
  [ (0x0200, .sessionAdd), (0x0201, .sessionModify), (0x0202, .sessionDelete), (0x0203, .sessionQuery),
    (0x0204, .relatch), (0x0210, .channelOpen), (0x0211, .channelModify), (0x0212, .channelClose),
    (0x0213, .channelQuery), (0x0220, .jitterSet), (0x0230, .srtpKeySet), (0x0240, .fcuPhaseSet),
    (0x0241, .fcuLevelSet), (0x0300, .confCreate), (0x0301, .confAddLeg), (0x0302, .confRemoveLeg),
    (0x0303, .confDestroy), (0x0310, .toneGenerate), (0x0311, .toneStop), (0x0312, .toneDetectSet) ] ++
  [ (0x0400, .tbConfigSet), (0x0401, .tbAdjust), (0x0402, .tbTimeGet), (0x0403, .ppsSet), (0x0410, .ptpPortSet),
    (0x0420, .launchQueueSet), (0x0421, .launchCancel), (0x0500, .portSet), (0x0501, .portStatus),
    (0x0510, .stationAdd), (0x0511, .stationDelete), (0x0512, .stationQuery), (0x0520, .laneSet),
    (0x0521, .laneEqTableSet), (0x0522, .eyeScan), (0x0600, .clusterJoin), (0x0601, .clusterLeave),
    (0x0602, .clusterStatus), (0x0610, .channelMigrate) ] ++
  [ (0x0700, .ledgerStatus), (0x0710, .calOffsetSet), (0x0720, .paceOffsetSet), (0x0730, .imageDownload),
    (0x0731, .imageVerify), (0x0732, .imageActivate), (0x0733, .imageConfirm), (0x0734, .imageStatus),
    (0x0800, .counterRead), (0x0802, .telemetryRead), (0x0810, .paceReport), (0x0820, .allowanceReport),
    (0x0900, .diagWindowMap), (0x0910, .laneLoopback), (0x0911, .prbsSet), (0x0912, .prbsCheck),
    (0x0913, .errorInject), (0x0920, .engineTest), (0x0921, .engineConfigSet), (0x0922, .engineStatus),
    (0x0A00, .faultLogRead), (0x0A01, .retire), (0x0A02, .reinstate), (0x0A03, .retirementMapGet) ]

/-- The command with an opcode, if Table 7-9 lists one (07 R223). -/
def opOf (code : Nat) : Option Op :=
  (opcodes.find? fun p => p.1 == code).map Prod.snd

/-- The opcode of a command (07 Table 7-9). -/
def opcodeOf (op : Op) : Nat :=
  ((opcodes.find? fun p => p.2 == op).map Prod.fst).getD 0

end Sys2Proof.Machine
end

