-- ==== Sys2Proof/Machine/Packing.lean ====
section
/-!
DEFINITION. Packing (02 R52 to R54, R69): a stream that enters the core from a 64-bit island path becomes 64-byte core words,
each with the tag of Table 2-6, from which its consumer takes the bytes again.
-/
namespace Sys2Proof.Machine

/-- A core word with the tag that it carries (02 Table 2-6). -/
structure CoreWord where
  data : List Byte
  tag : BitVec 10
deriving DecidableEq, Repr

/-- The tag of a word of `n` valid bytes (02 Table 2-6). -/
def packTag (n : Nat) (sof eof err poison : Bool) : BitVec 10 :=
  BitVec.ofNat 10 (n % 64 + 64 * bit sof + 128 * bit eof + 256 * bit err + 512 * bit poison)

/-- The fields of the tag (02 Table 2-6). -/
def CoreWord.valid (w : CoreWord) : Nat :=
  let v := (w.tag.extractLsb' 0 6).toNat
  if v = 0 then 64 else v

def CoreWord.sof (w : CoreWord) : Bool := w.tag.getLsbD 6
def CoreWord.eof (w : CoreWord) : Bool := w.tag.getLsbD 7
def CoreWord.err (w : CoreWord) : Bool := w.tag.getLsbD 8
def CoreWord.poison (w : CoreWord) : Bool := w.tag.getLsbD 9

/-- Up to 64 bytes as a word: one that is not full is padded with zero bytes (02 R52). -/
def coreWord (part : List Byte) (sof eof err poison : Bool) : CoreWord :=
  { data := part ++ List.replicate (64 - part.length) 0, tag := packTag part.length sof eof err poison }

/-- The words of a frame (02 R52). A stream without frame boundaries that never idles for 16 narrow-side clocks closes its words in
the same way (DESIGN CHOICE, log 103). -/
def packFrame (err poison : Bool) (bytes : List Byte) : List CoreWord :=
  let n := ceilDiv bytes.length 64
  (List.range n).map fun k =>
    coreWord ((bytes.drop (64 * k)).take 64) (k == 0) (k + 1 == n) err poison

/-- The valid bytes of the words: padding goes nowhere (02 R52, R53). -/
def wordBytes (words : List CoreWord) : List Byte :=
  words.flatMap fun w => w.data.take w.valid

/-- The accesses that Till is charged for the write of a word of which the first `valid` bytes are enabled: enables that
cover only part of a 64-bit Till word make it a read-modify-write (02 R53; 03 R76). -/
def tillWriteCharge (valid : Nat) : Nat :=
  if valid % 8 = 0 then 1 else 2

/-- The accesses that the words' writes to Till are charged (02 R53). -/
def stagingCharge (words : List CoreWord) : Nat :=
  words.foldl (fun n w => n + tillWriteCharge w.valid) 0

end Sys2Proof.Machine
end

