-- ==== Sys2Proof/Config.lean ====
section
/-!
DEFINITION. What one part fixes and the spec does not state: constants without a body, which no proof can look into.
Each is named by an entry of the assumption log.
-/
namespace Sys2Proof.Config

/-- A free value: the spec gives the effect and not this value. `site` names the place, `n` counts the draws
(DESIGN CHOICE, log 6). -/
opaque free (site n : Nat) : Nat

/-- A byte of Till (false) or the Vault (true) at an address, as the `n`-th draw finds it: what these memories hold between
the structures that State has is not state of the model (DESIGN CHOICE, log 94). -/
opaque liveByte (vault : Bool) (address n : Nat) : BitVec 8

/-- The fuse serial number (07 R216) (DESIGN CHOICE, log 80). -/
opaque serial : BitVec 64

/-- The BUILD field of VERSION_GET (07 R217) (DEDUCED, log 47). -/
opaque build : BitVec 32

/-- A fuse point of a pace monitor, 0 to 2: its raw reading and its coin capacity (02 R39)
(DESIGN CHOICE, log 80). -/
opaque paceRaw (monitor point : Nat) : Nat
opaque paceCoins (monitor point : Nat) : Nat

/-- The factory calibration of a target, from its fuses (17 R521) (DESIGN CHOICE, log 80). -/
opaque factoryCal (target : Nat) : Int

/-- Whether a public key's SHA-384 hash is the fused root key hash (17 R523) (DESIGN CHOICE, log 44). -/
opaque rootKey (key : List Byte) : Bool

/-- Whether a signature over the bytes verifies under ECDSA P-384 with the key (17 R523)
(DESIGN CHOICE, log 44). -/
opaque signatureOk (key signature message : List Byte) : Bool

/-- The SHA-384 hash of bytes (17 R523) (DESIGN CHOICE, log 44). -/
opaque sha384 (bytes : List Byte) : List Byte

/-- The security version in the fuses at the first power-up (17 R524). -/
opaque fuseSecurityVersion : Nat

/-- The fixed pipeline delay from a TIMED grant to the ball in ns (13 R400) (DESIGN CHOICE, log 79). -/
opaque launchPipelineNs : Nat

/-- The numeric output of a stage 1 filter of the FCU, linear-phase or minimum-phase, between two rates in kHz, from its history and
input (10 R298, R299: the spec bounds the prototypes and gives no coefficients) (DESIGN CHOICE, log 100). -/
opaque stage1 (minimum : Bool) (source target : Nat) (history input : List Int) : List Int

/-- A filter history resampled from one rate in kHz to another (10 R320) (DESIGN CHOICE, log 100). -/
opaque resampled (source target : Nat) (history : List Int) : List Int

/-- The power of the −90 dBm0 floor, P + (p − P) × (1 − exp(−1 ms / tau)), and ten times the decimal logarithm in 1/16 dBm0, in the
meter's arithmetic (10 R308) (DESIGN CHOICE, log 100). -/
opaque floorPower : Nat
opaque smoothed (tauMs p power : Nat) : Nat
opaque decibels16 (power : Nat) : Int

/-- A sample after a gain of so many dB, when that is not 0 (09 R275, R285) (DESIGN CHOICE, log 100). -/
opaque gained (db sample : Int) : Int

/-- The codec lookahead in ms that R279 adds and no rule states (09 R279) (DESIGN CHOICE, log 98). -/
opaque lookaheadMs (codec mode : Nat) : Nat

/-- The NTP time in ns at the start of the model's clock, which times the sender reports (09 R278) (DESIGN CHOICE, log 98). -/
opaque ntpEpochNs : Nat

end Sys2Proof.Config
end

