-- ==== Sys2Proof/Machine/Ops.lean ====
section
/-!
DEFINITION. The operations that every family shares: the Tally, what the block writes toward the host, events,
completions, interrupts, time, free values, and a frame handed to a Tylane link.
-/
namespace Sys2Proof.Machine

/-- The model's clock reaches at least the instant at which a timed row falls due (DESIGN CHOICE, logs 2 and 3). -/
def advance (due : Nat) (s : State) : State :=
  { s with now := max s.now due }

/-- A free value: the spec states the effect and not this value (DESIGN CHOICE, log 6). -/
def State.freeAt (s : State) (site : Nat) : Nat :=
  Config.free site s.freeCount

/-- The next free value is another one (DESIGN CHOICE, log 6). -/
def drawn (s : State) : State :=
  { s with freeCount := s.freeCount + 1 }

/-- This device's node number: NODE_ID as sampled (00 Table 0-3). -/
def State.node (s : State) : Nat :=
  s.boot.straps.nodeId.toNat

/-- Rhoper runs on the Steward (05 Table 5-1). -/
def State.rhoper (s : State) : Bool :=
  s.mode.steward = .rhoper

/-- The four modes of 05 Table 5-4 in which Rhoper accepts commands. -/
def State.running (s : State) : Bool :=
  s.mode.current ∈ runModes

/-- The Tally counts: the self-timed core is neither in reset nor stopped (01 R33, 04 R109). -/
def State.tallyRuns (s : State) : Bool :=
  s.mode.current ≠ .strap && s.mode.current ≠ .halt

/-- The value of a counter (01 R16). -/
def State.counter (s : State) (c : Ctr) : Nat :=
  sget 0 s.tally (ctrKey c)

/-- A counter advanced, wrapping at its width (12 R370, R372), with no event. -/
def bump (c : Ctr) (n : Nat) (s : State) : State :=
  if s.tallyRuns then
    { s with tally := sset 0 s.tally (ctrKey c) ((s.counter c + n) % 2 ^ ctrBits c) }
  else s

/-- The most significant bit of a counter went from 0 to 1 (12 R372). -/
def halfPassed (c : Ctr) (before after : State) : Bool :=
  before.counter c < 2 ^ (ctrBits c - 1) && 2 ^ (ctrBits c - 1) ≤ after.counter c

/-- The endpoint block 83 is released: out of the device-level reset and of its own block reset (06 R165). -/
def State.endpointOn (s : State) : Bool :=
  s.power.pcieReleased && !(s.power.blocks.any fun b => b.block == 83 && b.applied)

/-- The queue engine holds its DMA and messages: link down or D3hot (06 R161, R185). -/
def State.linkHolds (s : State) : Bool :=
  !s.link.up || s.link.d3hot

/-- One transaction carried out at the host. -/
def deliver (l : Link) : Tlp → Link
  | .write a d => { l with hostMem := swrite l.hostMem a d }
  | .message v => { l with messages := l.messages ++ [v] }
  | .mailbox _ => l

/-- A block reset of the block is under way (04 R118). -/
def State.blockInReset (s : State) (block : Nat) : Bool :=
  s.power.blocks.any fun b => b.block == block

/-- A class of the background kind (03 Table 3-1). -/
def background (cls : Nat) : Bool :=
  decide (4 ≤ cls)

/-- Class and resource as one index (03 Table 3-6). -/
def balIndex (cls res : Nat) : Nat :=
  4 * cls + res

def State.balance (s : State) (cls res : Nat) : Balance :=
  s.alw.balances.getD (balIndex cls res) {}

/-- The allowance and floor in force. -/
def State.inForce (s : State) (cls res : Nat) : AllowanceCfg :=
  s.alw.force.getD (balIndex cls res) { allow := 0, floor := 0 }

def setBalance (cls res : Nat) (f : Balance → Balance) (s : State) : State :=
  { s with alw := { s.alw with balances := upd s.alw.balances (balIndex cls res) f } }

/-- The HOSTDMA requests that wait for the host's transfers are withdrawn with them (06 R186). -/
def dropHostRequests (s : State) : State :=
  setBalance 2 1 (fun b => { b with waiting := b.waiting.filter fun r => r.job != .host })
    { s with link := { s.link with staged := [], readCredit := 0, vaultCredit := 0 } }

/-- The tier in which a class's request is eligible (03 Table 3-3). -/
def tierOf (cls : Nat) (b : Balance) (allow : Nat) : Option Nat :=
  if background cls && decide (0 < b.c) then some 1
  else if decide (0 < b.b) && decide (b.s < allow) then some (if background cls then 3 else 2)
  else if 0 < b.b then some 4
  else none

def State.tier (s : State) (cls res : Nat) : Option Nat :=
  tierOf cls (s.balance cls res) (s.inForce cls res).allow

/-- A waiting request of the class `other` goes before one of `cls` in tier `t`: a lower tier, or the same tier and a lower
class number (03 R78). -/
def State.goesBefore (s : State) (res t cls other : Nat) : Bool :=
  other != cls && !(s.balance other res).waiting.isEmpty
    && (s.tier other res).any fun u => decide (u < t) || (u == t && decide (other < cls))

/-- The controller grants a request of the class next: it runs, the resource's block is not in reset, the Vault has been
brought up, a tier admits the request, and no waiting request of another class goes before it (03 R78, R81, R93; 04 R111). -/
def State.mayGrant (s : State) (cls res : Nat) : Bool :=
  s.alw.running && !(res = 0 && (s.blockInReset 81 || !s.power.vaultUp)) && !(res = 1 && s.blockInReset 80)
    && (s.tier cls res).any fun t => !(List.range 8).any (s.goesBefore res t cls)

/-- A grant of `size` units: B, C and S move, and ALLOW_SPEND counts (03 R77, R89). TALLY_HALF of that counter follows at
the end of the period (DESIGN CHOICE, log 17). -/
def chargeGrant (cls res size : Nat) (s : State) : State :=
  let u : Int := 256 * size
  bump (allowCtr cls res 0) size
    (setBalance cls res (fun b => { b with b := b.b - u, s := b.s + u,
                                            c := if background cls then b.c - u else b.c }) s)

/-- As many of `n` one-access requests of a foreground class as its present tier grants; how many are left
(03 R77, R78). -/
def payRound (cls res n : Nat) (s : State) : State × Nat :=
  if n = 0 || !s.mayGrant cls res then (s, n)
  else
    let b := s.balance cls res
    let allow : Int := (s.inForce cls res).allow
    let byB := ceilDiv b.b.toNat 256
    let k := min n (if b.s < allow then min byB (ceilDiv (allow - b.s).toNat 256) else byB)
    (chargeGrant cls res k s, n - k)

/-- Both foreground tiers one after the other (03 Table 3-3). -/
def payNow (cls res n : Nat) (s : State) : State × Nat :=
  let r := payRound cls res n s
  payRound cls res r.2 r.1

/-- The same behind the requests of its own class that wait already (03 R78). -/
def pay (cls res n : Nat) (s : State) : State × Nat :=
  if (s.balance cls res).waiting.isEmpty then payNow cls res n s else (s, n)

/-- The Till accesses that stage a transaction: one for each 64-byte block or part of one (03 R76). -/
def Tlp.accesses : Tlp → Nat
  | .write _ d => ceilDiv d.length 64
  | .message _ => 0
  | .mailbox d => ceilDiv d.length 64

/-- A transaction carried out toward the host: done in order, held while the link holds, lost while block 83 is in reset
(06 R175, R185, R186). The direct mailbox's completion needs no link: DMB_CMPL written, DONE set and BUSY cleared in one
update (06 R166). -/
def land (t : Tlp) (s : State) : State :=
  if !s.endpointOn then s
  else match t with
    | .mailbox d =>
      let m := s.ep.dmb
      { s with ep := { s.ep with dmb := { m with cmpl := d, seq := m.seq + 1, done := true, busy := false,
                                                 taken := false } } }
    | t =>
      if s.linkHolds then { s with link := { s.link with held := s.link.held ++ [t] } }
      else { s with link := deliver s.link t }

/-- A transaction issued toward the host: carried out once its HOSTDMA accesses are granted, and behind those that wait
(03 R18, R76; 06 R175) (DESIGN CHOICE, log 17). -/
def issue (t : Tlp) (s : State) : State :=
  if !s.endpointOn then s
  else
    let r := pay 2 1 t.accesses s
    if r.2 = 0 && s.link.staged.isEmpty then land t r.1
    else
      let s1 := { r.1 with link := { r.1.link with staged := r.1.link.staged ++ [(r.2, t)] } }
      if r.2 = 0 then s1
      else setBalance 2 1 (fun b => { b with waiting := b.waiting ++ [{ size := r.2, job := .host }] }) s1

/-- The staged transactions whose accesses are all granted go out, in order. -/
def landStaged : List (Nat × Tlp) → State → State
  | [], s => { s with link := { s.link with staged := [] } }
  | (0, t) :: rest, s => landStaged rest (land t s)
  | l, s => { s with link := { s.link with staged := l } }

/-- The staged transactions after `n` more accesses are granted, the oldest first. -/
def creditStaged : Nat → List (Nat × Tlp) → List (Nat × Tlp)
  | _, [] => []
  | n, (k, t) :: rest => (k - n, t) :: creditStaged (n - k) rest

/-- `n` accesses of the staged transactions have been granted (03 R76). -/
def hostGranted (n : Nat) (s : State) : State :=
  landStaged (creditStaged n s.link.staged) s

/-- The HOSTDMA requests at the head of the class's queue that are the host's are granted as far as the allowance goes. -/
def serveHost : List Request → State → State
  | [], s => s
  | r :: rest, s =>
    if r.job != .host then s
    else
      let p := payNow 2 1 r.size s
      let left := if p.2 = 0 then rest else { r with size := p.2 } :: rest
      let s1 := hostGranted (r.size - p.2) (setBalance 2 1 (fun b => { b with waiting := left }) p.1)
      if p.2 = 0 then serveHost rest s1 else s1

/-- A transfer of `n` blocks is staged in Till, and of `v` of them in the Vault: true when every access is granted; what is
granted already stands to its credit while the others wait (03 R18, R76) (DESIGN CHOICE, log 17). -/
def payRead (n v : Nat) (s : State) : State × Bool :=
  let r := pay 2 1 (n - s.link.readCredit) s
  let q := pay 2 0 (v - s.link.vaultCredit) r.1
  let done := r.2 == 0 && q.2 == 0
  ({ q.1 with link := { q.1.link with readCredit := if done then 0 else n - r.2,
                                      vaultCredit := if done then 0 else v - q.2 } }, done)

/-- The host has restored configuration space, as it does before it rebuilds the queues or has the device read its memory (06
R186): the addresses and sizes that it chooses are free values (PRESUMED, log 18). -/
def hostConfigures (s : State) : State :=
  if s.endpointOn && !s.ep.config.memorySpace then
    let c : PcieConfig :=
      { memorySpace := true, busMaster := true, bar0 := BitVec.ofNat 64 (s.freeAt 120 * 65536),
        bar2 := BitVec.ofNat 64 (s.freeAt 121 * 1048576), maxPayload := 128 * 2 ^ (s.freeAt 122 % 3),
        maxReadRequest := 128 * 2 ^ (s.freeAt 123 % 6), tenBitTags := s.freeAt 124 % 2 == 1,
        aspmL1 := s.freeAt 125 % 2 == 1, msixEnable := true, functionMask := false }
    drawn { s with ep := { s.ep with config := c } }
  else s

/-- Bytes written to host memory on a command's behalf (06 R175) (DESIGN CHOICE, log 78). -/
def hostWrite (address : Nat) (bytes : List Byte) (s : State) : State :=
  issue (.write address bytes) s

/-- A message on an MSI-X vector: sent behind the writes before it, or kept in the pending bits while the vector is masked
(06 R175, R180 and the base specification) (PRESUMED, log 18). -/
def sendVector (v : Nat) (s : State) : State :=
  if !s.ep.config.msixEnable then s
  else if s.ep.config.functionMask || (s.ep.msix.getD v {}).masked then
    { s with ep := { s.ep with pending := s.ep.pending ||| (1 <<< v) } }
  else issue (.message v) s

/-- The same for a cause of INT_STATUS, which waits for no transfer's allowance (06 R181). -/
def sendCause (s : State) : State :=
  if !s.ep.config.msixEnable then s
  else if s.ep.config.functionMask || (s.ep.msix.getD 5 {}).masked then
    { s with ep := { s.ep with pending := s.ep.pending ||| (1 <<< 5) } }
  else land (.message 5) s

/-- The free entries of a ring of `size` (06 R168). -/
def ringFree (size head tail : Nat) : Nat :=
  size - 1 - (tail + size - head) % size

/-- The free entries of the EQ (06 R168). -/
def EventQueue.free (q : EventQueue) : Nat :=
  ringFree (2 ^ q.log2) q.head q.tail

/-- The ring address that two BASE registers hold (06 Table 6-5). -/
def baseAddr (lo hi : Word32) : Nat :=
  lo.toNat + 4294967296 * hi.toNat

/-- The vector of an event (06 R180, R184). -/
def State.eventVector (s : State) (code : Nat) : Nat :=
  s.ep.steer.getD (code / 256) 4

/-- A vector's backlog with one more entry, and whether it is to be signalled now (06 R180). -/
def backlogAdd (v now coalUs coalCount : Nat) (l : List VectorBacklog) : List VectorBacklog × Bool :=
  let old := (l.find? fun b => b.vector == v).getD { vector := v, count := 0, firstAt := now }
  let new := { old with count := old.count + 1 }
  let others := l.filter fun b => b.vector != v
  if coalUs = 0 ∨ coalCount ≤ new.count then (others, true) else (others ++ [new], false)

/-- An event entry written at the EQ's TAIL and its vector signalled (07 R198, 06 R180). -/
def writeEvent (code data : Nat) (s : State) : State :=
  let q := s.eq
  let entry := natBytes 32 (layout 0
    [⟨0, 2, code⟩, ⟨2, 1, s.node⟩, ⟨4, 4, q.seq.toNat⟩, ⟨8, 8, s.alw.period⟩, ⟨16, 15, data⟩,
     ⟨31, 1, if q.phase then 0x80 else 0⟩])
  let v := s.eventVector code
  let tail := (q.tail + 1) % 2 ^ q.log2
  let sig := backlogAdd v s.now q.coalUs q.coalCount q.unsignalled
  let held := if s.linkHolds then q.heldWhileDown + 1 else 0
  let s1 := hostWrite (baseAddr q.baseLo q.baseHi + 32 * q.tail) entry s
  let s2 := { s1 with eq := { q with tail := tail, phase := if tail = 0 then !q.phase else q.phase,
                                     seq := q.seq + 1, unsignalled := sig.1, heldWhileDown := held } }
  if sig.2 then sendVector v s2 else s2

/-- An ordinary event finds a slot: the EQ runs, a slot beside the last is free, and fewer than 1,024 events are held
for the link (06 R176, R185). -/
def State.eqRoom (s : State) : Bool :=
  s.eq.enable && decide (2 ≤ s.eq.free) && !(s.linkHolds && decide (1024 ≤ s.eq.heldWhileDown))

/-- A cause bit of INT_STATUS goes to 1: vector 5 unless masked (06 R181). `causeBit` is 1 to 3. -/
def irqMessage (causeBit : Nat) (was : Bool) (s : State) : State :=
  if !was && !(s.irq.mask.getLsbD (causeBit - 1)) then sendCause s else s

/-- An event dropped: numbered, counted, and EVENTS_LOST made due (06 R176, 07 R199). EQ_OVERFLOW and vector 5 follow also where
the EQ is disabled (DESIGN CHOICE, log 91). -/
def dropEvent (s : State) : State :=
  let s1 := bump (devCtr 19) 1
    { s with eq := { s.eq with seq := s.eq.seq + 1, dropped := s.eq.dropped + 1, lostPending := true },
             irq := { s.irq with eqOverflow := true } }
  irqMessage 3 s.irq.eqOverflow s1

/-- EVENTS_LOST written when it is due and a slot has become free (06 R176). -/
def flushLost (s : State) : State :=
  if s.eq.lostPending && s.eqRoom then
    let s1 := writeEvent evEventsLost (layout 16 [⟨16, 4, s.eq.dropped⟩]) s
    { s1 with eq := { s1.eq with lostPending := false, dropped := 0 } }
  else s

/-- An event posted or dropped. -/
def raiseCore (code : Nat) (fields : List Fld) (s : State) : State :=
  let s1 := flushLost s
  if s1.eqRoom then writeEvent code (layout 16 fields) s1 else dropEvent s1

/-- TALLY_HALF's DATA (12 Table 12-5). -/
def tallyHalfData (c : Ctr) : List Fld :=
  [⟨16, 1, c.group⟩, ⟨17, 1, c.sub⟩, ⟨18, 2, c.num⟩, ⟨20, 4, c.inst⟩]

/-- Rhoper raises an event (07 R198, R199); with no Rhoper there is none. -/
def raise (code : Nat) (fields : List Fld) (s : State) : State :=
  if s.rhoper then
    let s1 := raiseCore code fields s
    if halfPassed (devCtr 19) s s1 then raiseCore evTallyHalf (tallyHalfData (devCtr 19)) s1 else s1
  else s

/-- A counter advances, with TALLY_HALF when its most significant bit goes to 1 (12 R372). -/
def countBy (c : Ctr) (n : Nat) (s : State) : State :=
  let s1 := bump c n s
  if halfPassed c s s1 then raise evTallyHalf (tallyHalfData c) s1 else s1

/-- A counter advances by one. -/
def count (c : Ctr) (s : State) : State :=
  countBy c 1 s

/-- Entries taken from a completion queue's ring and not yet completed on it, joined commands included (06 R174). -/
def State.reserved (s : State) (cc : Nat) : Nat :=
  s.cmds.entries.foldl (fun n e =>
    let own := match e.source with | .cq _ _ => if e.cc = cc && !e.discard then 1 else 0 | _ => 0
    n + own + (e.joined.filter fun j => j.cc == cc && !j.discard).length) 0

/-- The free entries of a completion queue. -/
def CompletionQueue.free (q : CompletionQueue) : Nat :=
  ringFree (2 ^ q.log2) q.head q.tail

/-- Bytes 0 to 30 of a completion (07 Table 7-2). -/
def completionFields (op : Nat) (tag : BitVec 16) (status : Byte) (cflags source : Nat) (result : Nat) : List Fld :=
  [⟨0, 2, op⟩, ⟨2, 2, tag.toNat⟩, ⟨4, 1, status.toNat⟩, ⟨5, 1, cflags⟩, ⟨6, 2, source⟩, ⟨8, 20, result⟩]

/-- A completion entry on a completion queue, or discarded and counted where that queue does not run (06 R170, R175,
R180; 07 R197). -/
def writeCompletion (cc : Nat) (fields : List Fld) (s : State) : State :=
  let q := s.ep.cc.getD cc {}
  if !q.enable then count (devCtr 21) s
  else
    let entry := natBytes 32 (layout 0 (fields ++ [⟨31, 1, if q.phase then 0x80 else 0⟩]))
    let tail := (q.tail + 1) % 2 ^ q.log2
    let n := q.unsignalled + 1
    let now := q.coalUs = 0 ∨ q.coalCount ≤ n
    let q' := { q with tail := tail, phase := if tail = 0 then !q.phase else q.phase,
                       unsignalled := if now then 0 else n,
                       firstUnsignalledAt := if q.unsignalled = 0 then s.now else q.firstUnsignalledAt }
    let s1 := hostWrite (baseAddr q.baseLo q.baseHi + 32 * q.tail) entry s
    let s2 := { s1 with ep := { s1.ep with cc := s1.ep.cc.set cc q' } }
    if now then sendVector cc s2 else s2

/-- The SOURCE field of a completion (07 Table 7-2). -/
def sourceField : Source → Nat
  | .cq q i => q.val * 4096 + i.val
  | _ => 0

/-- The transport bits of CFLAGS (07 Table 7-2). -/
def sourceFlags : Source → Nat
  | .dmb => 4
  | .mgmt => 8
  | _ => 0

/-- The direct mailbox's completion (06 R166; 03 R76). -/
def dmbComplete (fields : List Fld) (s : State) : State :=
  issue (.mailbox (natBytes 32 (layout 0 fields))) s

/-- The management mailbox's completion (18 R557). -/
def mgmtComplete (fields : List Fld) (s : State) : State :=
  let m := s.mgmt
  { s with mgmt := { m with cmpl := natBytes 32 (layout 0 fields), seq := m.seq + 1, done := true,
                            busy := false, taken := false } }

def State.tb (s : State) (i : Nat) : TimeBase :=
  s.time.bases.getD i {}

/-- What `ns` of the model's clock add to a time base of a rate in 1/1,024 ppb (13 R385). -/
def tbAdvance (ns : Nat) (rate : Int) : Nat :=
  ((ns * 65536 : Int) + (ns * 65536 * rate) / 1024000000000).toNat

/-- The value, and the step-free shadow, at the present instant; zero when OFF (13 R385, R387, R388). -/
def State.tbValue (s : State) (i : Nat) : Nat :=
  let b := s.tb i
  if b.state = .off then 0 else b.value + tbAdvance (s.now - b.at_) b.rate

def State.tbShadow (s : State) (i : Nat) : Nat :=
  let b := s.tb i
  if b.state = .off then 0 else b.shadow + tbAdvance (s.now - b.at_) b.rate

/-- The link on which a frame for `dest` leaves: the lowest differing bit whose link is UP (15 R462) and takes new work (04
R118). -/
def State.route (s : State) (dest : Nat) : Option Nat :=
  (List.range 4).find? fun k =>
    (s.node ^^^ dest).testBit k && (s.lanes.links.getD k {}).state == .up && !s.blockInReset (72 + k)

/-- The lowest differing bit of two nodes. -/
def lowestBit (x : Nat) : Nat :=
  ((List.range 4).find? fun k => x.testBit k).getD 0

/-- Octets of the frames that a link has sent and holds unacknowledged (15 R460). -/
def TyLink.unacked (l : TyLink) : Nat :=
  l.replay.foldl (fun n f => n + f.octets) 0

/-- A link may send a frame of so many octets: it is up, the replay buffer of 128 KiB and 1,024 frames has room, and so has the
receive buffer that the partner has advertised (15 R460, R461). -/
def TyLink.maySend (l : TyLink) (octets : Nat) : Bool :=
  l.state == .up && decide (l.replay.length < 1024) && decide (l.unacked + octets ≤ 131072)
    && decide (l.unacked + octets ≤ l.buffer)

def setLink (k : Nat) (f : TyLink → TyLink) (s : State) : State :=
  { s with lanes := { s.lanes with links := upd s.lanes.links k f } }

def State.tyLink (s : State) (k : Nat) : TyLink :=
  s.lanes.links.getD k {}

/-- RESIDENCE of a frame that this node sends now (13 R397; 15 Table 15-1, R487): what was gathered before, and the time since the
copy came, on this node's own step-free shadow. -/
def State.residenceNow (s : State) : TyPayload → Nat
  | .ptp c => c.residence + (s.tbShadow c.tb.val - c.stamp)
  | _ => 0

/-- A frame as it goes out now: numbered already, or with the next SEQ (15 R459; 13 R397). -/
def State.sent (s : State) (f : ReplayFrame) : ReplayFrame :=
  { f with sentAt := s.now, residence := s.residenceNow f.payload }

/-- A frame goes out on a link: numbered, kept for replay and counted (15 R459, R460, R482). -/
def linkSend (k : Nat) (f : ReplayFrame) (s : State) : State :=
  countBy (tylaneCtr k 2) f.octets (count (tylaneCtr k 0) (setLink k (fun l =>
    { l with txSeq := l.txSeq + 1, replay := l.replay ++ [{ s.sent f with seq := l.txSeq }], ackOwed := false }) s))

/-- The frames that wait at a link go out in order as far as its buffers have room (15 R460, R461). -/
def linkDrain (k : Nat) : List ReplayFrame → State → State
  | [], s => s
  | f :: rest, s =>
    if (s.tyLink k).maySend f.octets then
      linkDrain k rest (linkSend k f (setLink k (fun l => { l with waiting := rest }) s))
    else s

/-- A frame for another node leaves on its link, behind those that wait for buffer, or is dropped without a route (15 R461, R462). -/
def tyRoute (f : ReplayFrame) (s : State) : State :=
  match s.route f.dest with
  | none => count (devCtr 27) s
  | some k =>
    let s0 := if k = lowestBit (s.node ^^^ f.dest) then s else count (tylaneCtr k 10) s
    let l := s0.tyLink k
    if l.waiting.isEmpty && l.maySend f.octets then linkSend k f s0
    else setLink k (fun l => { l with waiting := l.waiting ++ [f] }) s0

/-- A frame of this node handed to Tylane for another (15 R462). -/
def tySend (dest : Nat) (payload : TyPayload) (octets : Nat) (s : State) : State :=
  tyRoute { seq := 0, dest := dest, payload := payload, octets := octets, sentAt := s.now, source := s.node } s

/-- The octets of a Steward message (DESIGN CHOICE, log 13). -/
def messageOctets : StewardMessage → Nat
  | .view _ _ _ _ => 288
  | .reply _ _ _ data => 64 + data.length
  | .request _ _ ask => 64 + ask.data.length + 64 * ask.sessions.length
  | _ => 64

/-- A Steward message for another node. -/
def tell (dest : Nat) (m : StewardMessage) (s : State) : State :=
  tySend dest (.steward m) (messageOctets m) s

/-- A completion to the transport of its command (07 R195, R218, R219; 01 R27 for another member's command, with the data that goes
back to it) (DESIGN CHOICE, log 13). -/
def postTo (src : Source) (cc : Nat) (discard : Bool) (op : Nat) (tag : BitVec 16) (status : Byte) (extra : Nat)
    (result : Nat) (data : List Byte) (s : State) : State :=
  let fields := completionFields op tag status (sourceFlags src + extra) (sourceField src) result
  match src with
  | .cq _ _ => if discard then count (devCtr 21) s else writeCompletion cc fields s
  | .dmb => if discard then count (devCtr 21) s else dmbComplete fields s
  | .mgmt => mgmtComplete fields s
  | .peer n ask => tell n.val (.reply ask.entry status (BitVec.ofNat 160 result) data) s

/-- The RESULT field from its parts, which lie at completion offsets 8 to 27 (07 R195). -/
def resultOf (fields : List Fld) : Nat :=
  layout 8 fields

/-- The open command with a take number. -/
def State.entry (s : State) (id : Nat) : Option Entry :=
  s.cmds.entries.find? fun e => e.id == id

/-- The list of open commands with one changed. -/
def setEntry (id : Nat) (f : Entry → Entry) (s : State) : State :=
  { s with cmds := { s.cmds with entries := s.cmds.entries.map fun e => if e.id = id then f e else e } }

/-- The retry record of a finished command takes its final completion (07 R207) (DEDUCED, log 59). -/
def recordFinal (id : Nat) (status : Byte) (result : Nat) (s : State) : State :=
  { s with cmds := { s.cmds with retry := s.cmds.retry.map fun r =>
      if r.entry = id ∧ r.result = none then
        { r with result := some (status, BitVec.ofNat 160 result), finishedAt := s.now } else r } }

/-- A command that changed the running settings when it completed with DONE (07 R210, R214) (DEDUCED, log 59). -/
def changesSettings (op : Op) (c : Cmd) : Bool :=
  let first := (c.params.toNat) % 4294967296
  match op with
  | .governorSet | .allowanceSet | .tbConfigSet | .ppsSet | .ptpPortSet | .launchQueueSet | .portSet
  | .clusterJoin | .stationAdd | .stationDelete | .settingsRevert | .settingsFactory => true
  | .clusterLeave => first % 256 = 255
  | .jitterSet | .toneDetectSet | .fcuLevelSet => first = 0
  | .fcuPhaseSet => first = 0 && !c.params.getLsbD 41
  | .laneSet => !c.params.getLsbD 13
  | _ => false

/-- A settings change that has completed: the running settings differ from what is saved, and from what a save under way writes (07
R214, R229). -/
def SettingsState.changed (x : SettingsState) (change : Bool) : SettingsState :=
  if change then { x with dirty := true, save := x.save.map fun j => { j with dirtied := true } } else x

/-- A command's final completion: its entry closes, its tag is free, the completion goes out, and every command joined
to it answers with RETRY_MATCH (06 R175, R177; 07 R195, R207, R208). -/
def finish (e : Entry) (status : Byte) (result : List Fld) (s : State) : State :=
  match s.entry e.id with
  | none => s
  | some cur =>
    let r := resultOf result
    let s1 := { s with cmds := { s.cmds with entries := s.cmds.entries.filter fun x => x.id != e.id },
                       sets := s.sets.changed (status == stDone && changesSettings cur.op cur.cmd) }
    let s2 := recordFinal e.id status r s1
    let s3 := postTo cur.source cur.cc cur.discard (opcodeOf cur.op) cur.cmd.tag status 1 r cur.reply s2
    cur.joined.foldl (fun st j => postTo j.source j.cc j.discard (opcodeOf cur.op) j.tag status 3 r [] st) s3

/-- BAD_ARG with its BAD_OFFSET (07 R196). -/
def finishBadArg (e : Entry) (offset : Nat) (s : State) : State :=
  finish e stBadArg [⟨8, 2, offset⟩] s

/-- ACCEPTED for one source: a CQ command with NO_ACCEPTED clear, while a slot beyond the reservations is free (06 R174;
07 R203, R204, R219; DMB R167) (DEDUCED, log 16); another member's command comes to it on its own device. On a disabled completion queue, and after a reset of block 83, it is neither
posted nor counted in CMPL_DISCARD (DESIGN CHOICE, log 92). -/
def postAccepted (op : Op) (src : Source) (cc : Nat) (discard noAccepted : Bool) (tag : BitVec 16) (extra : Nat)
    (s : State) : State :=
  let q := s.ep.cc.getD cc {}
  match src with
  | .cq _ _ =>
    if !noAccepted && !discard && q.enable && decide (s.reserved cc < q.free) then
      postTo src cc false (opcodeOf op) tag stAccepted extra 0 [] s
    else s
  | .peer n ask => tell n.val (.reply ask.entry stAccepted 0 []) s
  | _ => s

/-- A command comes to its ACCEPTED, and with it every command joined to it (07 R203, R208) (DEDUCED, log 16). -/
def accept (e : Entry) (s : State) : State :=
  match s.entry e.id with
  | none => s
  | some cur =>
    let s1 := setEntry e.id (fun x => { x with accepted := true }) s
    let s2 := postAccepted cur.op cur.source cur.cc cur.discard (cur.cmd.flags.getLsbD 0) cur.cmd.tag 0 s1
    cur.joined.foldl (fun st j => postAccepted cur.op j.source j.cc j.discard j.noAccepted j.tag 2 st) s2

/-- The completion of a command that never became an open one (07 R201 steps 1 to 4). -/
def answer (src : Source) (cc : Nat) (op : Nat) (tag : BitVec 16) (status : Byte) (extra : Nat) (result : Nat)
    (s : State) : State :=
  postTo src cc false op tag status (1 + extra) result [] s

/-- A Ledger word as it reads: zero until written (17 R520); a word whose write failed with no spare left reads as
anything (17 R518) (DEDUCED, log 38). -/
def State.word (s : State) (w : Nat) : Word32 :=
  if w ∈ s.ledger.failed then BitVec.ofNat 32 (Config.free (0x10000 + w) s.freeCount)
  else sget 0 s.ledger.words w

end Sys2Proof.Machine
end

