-- ==== Sys2Proof/Machine/Operands.lean ====
section
/-!
DEFINITION. The operand forms of a command: fields of the parameter bytes 16 to 63 (07 R193), and the checks of a field,
of reserved bits and bytes, of host addresses and of joined limits in the order of 07 R201 step 6.
-/
namespace Sys2Proof.Machine

/-- `n` bytes of the parameters from byte offset `o` of the command on, little-endian (00 R6). -/
def prm (c : Cmd) (o n : Nat) : Nat :=
  (c.params.toNat >>> (8 * (o - 16))) % 2 ^ (8 * n)

/-- One parameter byte. -/
def prmByte (c : Cmd) (o : Nat) : Nat :=
  prm c o 1

/-- A signed parameter of `n` bytes. -/
def prmInt (c : Cmd) (o n : Nat) : Int :=
  signed (8 * n) (prm c o n)

/-- `n` bytes in transmission order (MAC and IP addresses): the first byte is the most significant. -/
def prmNet (c : Cmd) (o n : Nat) : Nat :=
  bytesNatBE (natBytes n (prm c o n))

/-- A check of step 6: nothing, or the BAD_OFFSET of its failure (07 R196). -/
abbrev Check := Option Nat

/-- A field whose value must be right: its first byte otherwise. -/
def need (o : Nat) (ok : Bool) : Check :=
  if ok then none else some o

/-- Reserved bytes from `lo` up to before `hi`: the lowest nonzero byte (07 R194, R196) (DEDUCED, log 11). -/
def reservedBytes (c : Cmd) (lo hi : Nat) : Check :=
  (List.range' lo (hi - lo)).find? fun o => prmByte c o != 0

/-- Reserved bits of a field of `n` bytes, given as the mask of its defined bits: the lowest byte that holds a nonzero
reserved bit (07 R196) (DEDUCED, log 11). -/
def reservedBits (c : Cmd) (o n defined : Nat) : Check :=
  ((List.range n).find? fun k =>
    ((prmByte c (o + k)) &&& (0xFF ^^^ ((defined >>> (8 * k)) % 256))) != 0).map (o + ·)

/-- A field between two bounds. -/
def within (c : Cmd) (o n lo hi : Nat) : Check :=
  need o (decide (lo ≤ prm c o n) && decide (prm c o n ≤ hi))

/-- A host buffer address: nonzero and, where the rule says so, aligned (07 R584). -/
def hostAddr (c : Cmd) (o align : Nat) : Check :=
  need o (decide (prm c o 8 ≠ 0) && decide (prm c o 8 % align = 0))

/-- The first failing check decides (07 R201 step 6) (DEDUCED, log 10). -/
def badOffset (cs : List Check) : Option Nat :=
  cs.findSome? id

/-- Steps 5 and 6 of 07 R201: the mode list, then the parameters. The state after a failing check, if one fails
(DEDUCED, log 10). -/
def precheck (e : Entry) (modes : List Mode) (cs : List Check) (s : State) : Option State :=
  if s.mode.current ∉ modes then some (finish e stBadMode [] s)
  else (badOffset cs).map fun o => finishBadArg e o s

/-- A command whose checks come first and whose effect follows (DEDUCED, log 10). -/
def checked (e : Entry) (modes : List Mode) (cs : List Check) (effect : State → State) (s : State) : State :=
  (precheck e modes cs s).getD (effect s)

/-- A unicast MAC address other than zero: the group bit is the low bit of its first byte. -/
def unicastMac (m : Nat) : Bool :=
  decide (m ≠ 0) && decide ((m >>> 40) % 2 = 0)

end Sys2Proof.Machine
end

