-- ==== Sys2Proof/Machine/Flags.lean ====
section
/-!
DEFINITION. The registers as the host reads them: BOOT_STATUS, MODE, RESET_CAUSE, the queue registers, the interrupt
registers and the whole of BAR0 and of RMEM (04, 05, 06).
-/
namespace Sys2Proof.Machine

/-- Bits as one register value: position, width, value. -/
def packBits (fs : List Fld) : Nat :=
  fs.foldl (fun acc f => acc ||| ((f.val % 2 ^ f.size) <<< f.off)) 0

/-- BOOT_STATUS (04 Table 4-8). -/
def bootStatusValue (b : BootStatus) : Nat :=
  packBits [⟨20, 8, b.rmemUeCount.toNat⟩, ⟨16, 4, b.stage.toNat⟩, ⟨14, 1, bit b.fuseErr⟩, ⟨13, 1, bit b.warm⟩,
    ⟨12, 1, bit b.trial⟩, ⟨11, 1, bit b.slot⟩, ⟨10, 1, bit b.strapAnomaly⟩, ⟨8, 2, b.straps.mgmtAddr.toNat⟩,
    ⟨4, 4, b.straps.nodeId.toNat⟩, ⟨2, 2, b.straps.clkMode.toNat⟩, ⟨0, 2, b.straps.bootSrc.toNat⟩]

/-- MODE (05 Table 5-3). -/
def modeValue (m : ModeReg) : Nat :=
  let t := match m.transition with | some t => (t.target.code, 1) | none => (0, 0)
  packBits [⟨16, 8, m.seq.toNat⟩, ⟨13, 3, t.1⟩, ⟨12, 1, t.2⟩, ⟨8, 4, m.haltCause.toNat⟩, ⟨7, 1, bit m.autoStandby⟩,
    ⟨4, 3, m.previous.code⟩, ⟨0, 3, m.current.code⟩]

/-- RESET_CAUSE (04 Table 4-10). -/
def resetCauseValue (r : ResetCause) : Nat :=
  packBits [⟨24, 4, r.remoteNode.toNat⟩, ⟨20, 2, r.wdogRun.toNat⟩, ⟨8, 9, r.history.toNat⟩, ⟨4, 1, bit r.lastWarm⟩,
    ⟨0, 4, r.last.toNat⟩]

/-- CQn_CFG and CQn_STATE (06 Table 6-6). -/
def cqCfgValue (q : CommandQueue) : Nat :=
  packBits [⟨16, 4, q.weight⟩, ⟨8, 2, q.ccSel⟩, ⟨4, 4, q.log2⟩, ⟨0, 1, bit q.enable⟩]

def cqStateValue (q : CommandQueue) : Nat :=
  packBits [⟨31, 1, bit q.err⟩, ⟨30, 1, bit q.fetchHold⟩, ⟨16, 12, q.tail⟩, ⟨0, 12, q.head⟩]

/-- CCn_CFG and CCn_STATE (06 Table 6-7). -/
def ccCfgValue (q : CompletionQueue) : Nat :=
  packBits [⟨24, 8, q.coalUs⟩, ⟨16, 8, q.coalCount⟩, ⟨4, 4, q.log2⟩, ⟨0, 1, bit q.enable⟩]

def ccStateValue (q : CompletionQueue) : Nat :=
  packBits [⟨31, 1, bit q.phase⟩, ⟨16, 12, q.head⟩, ⟨0, 12, q.tail⟩]

/-- EQ_CFG and EQ_STATE (06 Table 6-8). -/
def eqCfgValue (q : EventQueue) : Nat :=
  packBits [⟨24, 8, q.coalUs⟩, ⟨16, 8, q.coalCount⟩, ⟨4, 4, q.log2⟩, ⟨0, 1, bit q.enable⟩]

def eqStateValue (q : EventQueue) : Nat :=
  packBits [⟨31, 1, bit q.phase⟩, ⟨30, 1, bit q.lostPending⟩, ⟨16, 14, q.head⟩, ⟨0, 14, q.tail⟩]

/-- CANCEL_STATUS (06 Table 6-9). -/
def cancelStatusValue (c : CancelStatus) : Nat :=
  packBits [⟨24, 8, c.seq.toNat⟩, ⟨16, 8, c.result.toNat⟩, ⟨12, 2, c.queue.toNat⟩, ⟨0, 12, c.index.toNat⟩]

/-- INT_STATUS (06 Table 6-10). -/
def intStatusValue (i : Interrupts) : Nat :=
  packBits [⟨3, 1, bit i.eqOverflow⟩, ⟨2, 1, bit i.dmaErr⟩, ⟨1, 1, bit i.dbErr⟩, ⟨0, 1, bit i.fatal⟩]

/-- INT_N is held low: a cause that INT_PIN_EN selects reads 1, and option loading is over (06 R181). -/
def State.intPinLow (s : State) : Bool :=
  !s.power.asserted && !s.power.optionLoading && decide (intStatusValue s.irq &&& s.irq.pinEn.toNat ≠ 0)

/-- The word of a queue configuration block at offset 0x0, 0x4, 0x8 or 0xC (06 R169). -/
def queueWord (s : State) (q part : Nat) : Nat :=
  if q < 4 then
    let c := s.ep.cq.getD q {}
    [c.baseLo.toNat, c.baseHi.toNat, cqCfgValue c, cqStateValue c].getD part 0
  else if q < 8 then
    let c := s.ep.cc.getD (q - 4) {}
    [c.baseLo.toNat, c.baseHi.toNat, ccCfgValue c, ccStateValue c].getD part 0
  else if q = 8 then
    [s.eq.baseLo.toNat, s.eq.baseHi.toNat, eqCfgValue s.eq, eqStateValue s.eq].getD part 0
  else 0

/-- The word of an MSI-X table entry (the base specification). -/
def msixWord (m : MsixEntry) (part : Nat) : Nat :=
  [m.address.toNat % 4294967296, m.address.toNat / 4294967296, m.data.toNat, bit m.masked].getD part 0

/-- A word of block 83's registers: zero while the block is in reset (06 R165, R192). -/
def endpointWord (s : State) (offset : Nat) : Nat :=
  if !s.endpointOn then 0
  else if 0x100 ≤ offset ∧ offset < 0x140 then bytesNat ((s.ep.dmb.cmd.drop (offset - 0x100)).take 4)
  else if 0x140 ≤ offset ∧ offset < 0x160 then bytesNat ((s.ep.dmb.cmpl.drop (offset - 0x140)).take 4)
  else if offset = 0x164 then
    packBits [⟨8, 8, s.ep.dmb.seq.toNat⟩, ⟨1, 1, bit s.ep.dmb.done⟩, ⟨0, 1, bit s.ep.dmb.busy⟩]
  else if 0x1000 ≤ offset ∧ offset < 0x1090 then queueWord s ((offset - 0x1000) / 16) ((offset % 16) / 4)
  else if offset = 0x2028 then cancelStatusValue s.ep.cancel
  else if offset = 0x3000 then intStatusValue s.irq
  else if offset = 0x3004 then s.irq.mask.toNat * 2
  else if offset = 0x3008 then s.irq.pinEn.toNat
  else if offset = 0x3010 then s.irq.dmaErrAddr.toNat % 4294967296
  else if offset = 0x3014 then s.irq.dmaErrAddr.toNat / 4294967296
  else if offset = 0x3018 then s.irq.dmaErrKind.toNat * 16 + s.irq.dmaErrSource.toNat
  else if 0x4000 ≤ offset ∧ offset < 0x4400 then
    msixWord (s.ep.msix.getD ((offset - 0x4000) / 16) {}) ((offset % 16) / 4)
  else if offset = 0x5000 then s.ep.pending.toNat % 4294967296
  else if offset = 0x5004 then s.ep.pending.toNat / 4294967296
  else 0

/-- One aligned word of BAR0 as the host reads it (06 Table 6-2, R164). -/
def bar0Word (s : State) (offset : Nat) : Nat :=
  if offset = 0x0 then 0x4B488160
  else if offset = 0x4 then 0xA2
  else if offset = 0x8 then bootStatusValue s.boot
  else if offset = 0xC then modeValue s.mode
  else if offset = 0x14 then resetCauseValue s.cause
  else if 0x20 ≤ offset ∧ offset < 0x60 then (s.bkp.getD ((offset - 0x20) / 4) 0).toNat
  else if 0x8000 ≤ offset ∧ offset < 0x9000 then
    if !s.running then 0 else (s.word ((offset - 0x8000) / 4)).toNat
  else endpointWord s offset

/-- A read of BAR0 of any size and alignment, word by word: the addressed bytes of each word it covers (06 R162). A read of a
Ledger word is not answered while an earlier host write to the Ledger has yet to complete (00 R9). -/
def State.bar0Read (s : State) (offset n : Nat) : Option (List Byte) :=
  let ledger := (List.range n).any fun i => decide (0x8000 ≤ offset + i) && decide (offset + i < 0x9000)
  if ledger && s.ledger.queue.any (fun w => w.writer == .host) then none
  else some ((List.range n).map fun i =>
    let a := offset + i
    BitVec.ofNat 8 (bar0Word s (a / 4 * 4) / 256 ^ (a % 4)))

/-- PCIe configuration space, the part that Table 6-1 fixes and what the host has set in it, by double word (06 R160; PCIe
base specification) (PRESUMED, log 18). -/
def configWord (c : PcieConfig) (offset : Nat) : Nat :=
  match offset with
  | 0x00 => 0x81601F6B
  | 0x04 => packBits [⟨20, 1, 1⟩, ⟨2, 1, bit c.busMaster⟩, ⟨1, 1, bit c.memorySpace⟩]
  | 0x08 => 0x0B4000A2
  | 0x10 => c.bar0.toNat % 4294967296 / 65536 * 65536 + 4
  | 0x14 => c.bar0.toNat / 4294967296
  | 0x18 => c.bar2.toNat % 4294967296 / 1048576 * 1048576 + 4
  | 0x1C => c.bar2.toNat / 4294967296
  | 0x2C => 0x81601F6B
  | _ => 0

/-- Bytes of RMEM as the host reads them; a word with an uncorrectable error returns what is stored, marked poisoned
(04 R123, R124). -/
def rmemRead (s : State) (offset n : Nat) : List Byte × Bool :=
  (sread s.rmem offset n, s.rmemBad.any fun w => offset < 8 * w + 8 && 8 * w < offset + n)

end Sys2Proof.Machine
end

