-- ==== Sys2Proof/Machine/Protocol.lean ====
section
/-!
DEFINITION. How a command is taken, checked, ordered and matched (07 R194, R201, R202, R207, R208, R218, R219; 06 R177),
shared by every host command row and by the rows that take a command from a queue or a mailbox.
-/
namespace Sys2Proof.Machine

/-- The opcodes that the ROM answers in LOADER and RECOVERY (05 R148). -/
def romSubset (op : Op) (m : Mode) : Bool :=
  match op with
  | .identify | .versionGet | .modeSet | .imageDownload | .imageActivate => true
  | .deviceReset | .bootSlot => m = .recovery
  | _ => false

/-- The opcodes that the management mailbox carries (07 Table 7-7). -/
def mgmtCarries : Op → Bool
  | .identify | .modeSet | .versionGet | .bootSlot | .deviceReset | .imageDownload | .imageActivate
  | .telemetryRead => true
  | _ => false

/-- The management island itself executes the command (07 Table 7-7). -/
def islandExecutes (op : Op) (c : Cmd) : Bool :=
  match op with
  | .identify | .telemetryRead => true
  | .modeSet => prmByte c 16 = 0xFF
  | .deviceReset => prmByte c 16 = 1 || prmByte c 16 = 2
  | _ => false

/-- Step 2 of 07 R201: FLAGS, FORMAT and the reserved header bytes, lowest offset first (R194, R196). -/
def headerBad (c : Cmd) : Option Nat :=
  badOffset
    [need 4 (decide (c.flags.toNat / 2 = 0)), need 5 (decide (c.format.toNat = 1)),
     need 6 (decide (c.reserved.toNat % 256 = 0)), need 7 (decide (c.reserved.toNat / 256 = 0))]

/-- A tag is in flight: an open CQ command, or one joined to it, holds it (06 R177). -/
def State.tagInFlight (s : State) (tag : BitVec 16) : Bool :=
  s.cmds.entries.any fun e =>
    (match e.source with | .cq _ _ => !e.discard && e.cmd.tag == tag | _ => false)
    || e.joined.any fun j => !j.discard && j.tag == tag

/-- The open command that holds a tag (07 R205). -/
def State.holder (s : State) (tag : BitVec 16) : Option Nat :=
  (s.cmds.entries.find? fun e =>
    (match e.source with | .cq _ _ => !e.discard && e.cmd.tag == tag | _ => false)
    || e.joined.any fun j => !j.discard && j.tag == tag).map (·.id)

/-- Two commands name one object (07 R202). -/
def shares (a b : List Obj) : Bool :=
  a.any fun x => x ∈ b

/-- The objects that work behind no command holds: channels that move between devices (09, before R280), and the settings
while Rhoper itself writes a generation (17 R534). -/
def State.movingObjects (s : State) : List Obj :=
  ((s.voice.channels.filter fun ch => ch.outMove.isSome || ch.state = .moving).map fun ch => .channel ch.id) ++
    (if s.sets.save.any fun j => j.entry.isNone then [.settings] else [])

/-- A NOP with FENCE (07 R222). -/
def isFence (e : Entry) : Bool :=
  e.op = .nop && prmByte e.cmd 16 % 2 = 1

/-- A command taken from a CQ or the DMB. -/
def fromHost (e : Entry) : Bool :=
  match e.source with
  | .cq _ _ | .dmb => true
  | _ => false

/-- An earlier open command holds what this one needs: a shared object, a moving channel, or, for a fence, any host
command at all (07 R202, R222). -/
def State.objectBlocked (s : State) (e : Entry) : Bool :=
  (s.cmds.entries.any fun x => x.id < e.id && (shares x.objects e.objects || (isFence e && fromHost x)))
  || shares s.movingObjects e.objects

/-- A waiting command that nothing holds back any more (07 R202; R154 while a transition is under way). -/
def State.ready (s : State) (e : Entry) : Bool :=
  e.phase = .waiting && s.mode.transition.isNone && !s.objectBlocked e

/-- The command begins: it is executing from here to its final completion. -/
def begin_ (beg : Entry → State → State) (e : Entry) (s : State) : State :=
  let e' := { e with phase := .executing }
  beg e' (setEntry e.id (fun _ => e') s)

/-- The command that a COMMAND_ABORT names: the holder of TARGET_TAG when the abort is taken, which is the abort itself
when it names its own tag (07 R205; DEDUCED, log 15). -/
def State.abortTargetOf (s : State) (op : Op) (src : Source) (c : Cmd) : Option Nat :=
  let tag := BitVec.ofNat 16 (prm c 16 2)
  match op, src with
  | .commandAbort, .cq _ _ => if tag = c.tag then some s.cmds.nextId else s.holder tag
  | .commandAbort, _ => s.holder tag
  | _, _ => none

/-- A taken command joins the open ones, and begins unless it must wait (07 R202; 05 R154). -/
def openEntry (op : Op) (src : Source) (c : Cmd) (objs : List Obj) (beg : Entry → State → State) (s : State) : State :=
  let e : Entry :=
    { id := s.cmds.nextId, op := op, source := src,
      cc := match src with | .cq q _ => (s.ep.cq.getD q.val {}).ccSel | _ => 0,
      cmd := c, phase := .waiting, objects := objs, accepted := false, discard := false, joined := [],
      abortTarget := s.abortTargetOf op src c, aux := [] }
  let s1 := { s with cmds := { s.cmds with entries := s.cmds.entries ++ [e], nextId := s.cmds.nextId + 1 } }
  if s.mode.transition.isSome || s1.objectBlocked e || (s.cmds.entries.any fun x => s.ready x) then s1
  else begin_ beg e s1

/-- A finished record whose 60 s have passed (07 R207). -/
def lapsed (now : Nat) (r : RetryRecord) : Bool :=
  r.result.isSome && decide (r.finishedAt + 60000000000 ≤ now)

/-- The oldest finished record of a full table (07 R207). -/
def oldestFinished (l : List RetryRecord) : Option RetryRecord :=
  (l.filter fun r => r.result.isSome).foldl (fun acc r =>
    match acc with
    | none => some r
    | some a => if r.finishedAt < a.finishedAt then some r else some a) none

/-- A new retry record, displacing the oldest finished one of a full table; none when every entry executes (07 R207). -/
def recordRetry (r : RetryRecord) (s : State) : Option State :=
  let live := s.cmds.retry.filter fun x => !lapsed s.now x
  if live.length < 4096 then
    some { s with cmds := { s.cmds with retry := live ++ [r] } }
  else match oldestFinished live with
    | none => none
    | some o =>
      some (count (devCtr 22) { s with cmds := { s.cmds with retry := (live.filter fun x => x.entry != o.entry) ++ [r] } })

/-- The completion queue that a source posts to. -/
def State.sourceCc (s : State) : Source → Nat
  | .cq q _ => (s.ep.cq.getD q.val {}).ccSel
  | _ => 0

/-- The RETRY_ID that counts: zero for every source but a CQ (07 R207). -/
def retryId (src : Source) (c : Cmd) : BitVec 64 :=
  match src with
  | .cq _ _ => c.retryId
  | _ => 0

/-- A retried command joins the original that still executes (07 R208). -/
def joinOriginal (r : RetryRecord) (src : Source) (c : Cmd) (s : State) : State :=
  let cc := s.sourceCc src
  let j : Joined := { source := src, tag := c.tag, cc := cc, noAccepted := c.flags.getLsbD 0, discard := false }
  let s1 := setEntry r.entry (fun e => { e with joined := e.joined ++ [j] }) s
  if (s.entry r.entry).any fun e => e.accepted then
    postAccepted r.op src cc false j.noAccepted c.tag 2 s1
  else s1

/-- Step 4 of 07 R201: the retry match, and the record of a command that matches nothing (07 R207, R208). -/
def matchRetry (op : Op) (src : Source) (c : Cmd) (objs : List Obj) (beg : Entry → State → State) (s : State) : State :=
  let id := retryId src c
  let cc := s.sourceCc src
  let code := opcodeOf op
  if id = 0 then openEntry op src c objs beg s
  else match s.cmds.retry.find? fun r => r.id == id && !lapsed s.now r with
    | some r =>
      if r.op = op ∧ r.params = c.params then
        match r.result with
        | some (st, res) => answer src cc code c.tag st 2 res.toNat s
        | none => joinOriginal r src c s
      else answer src cc code c.tag stExists 0 0 s
    | none =>
      let rec_ : RetryRecord :=
        { id := id, op := op, params := c.params, entry := s.cmds.nextId, result := none, finishedAt := 0 }
      match recordRetry rec_ s with
      | none => answer src cc code c.tag stNoResource 0 0 s
      | some s1 => openEntry op src c objs beg s1

/-- Step 3 of 07 R201 for a known opcode: the transport reaches the executor (07 R218, R219; 05 R148). -/
def reaches (op : Op) (src : Source) (s : State) : Bool :=
  (match src with | .mgmt => mgmtCarries op | _ => true)
  && (s.mode.current ≠ .loader && s.mode.current ≠ .recovery || romSubset op s.mode.current)

/-- Step 1 of 07 R201: the tag of a CQ command, and the answer where it fails (06 R177). -/
def tagFault (code : Nat) (src : Source) (c : Cmd) (s : State) : Option State :=
  match src with
  | .cq _ _ =>
    if 4095 < c.tag.toNat then some (answer src (s.sourceCc src) code c.tag stBadArg 0 (resultOf [⟨8, 2, 2⟩]) s)
    else if s.tagInFlight c.tag then some (answer src (s.sourceCc src) code c.tag stDupTag 0 0 s)
    else none
  | _ => none

/-- Something takes commands from this source: the Steward runs, and for a CQ Rhoper runs in a mode with CQs; the
management target takes in every mode (05 R148, R158; 01 R14; 07 R219). -/
def State.takes (s : State) (src : Source) : Bool :=
  match src with
  | .mgmt => true
  | .cq _ _ | .peer _ _ => s.running
  | .dmb => s.running || s.mode.current = .loader || s.mode.current = .recovery

/-- A command is taken: steps 1 to 4 of 07 R201, then it opens (DESIGN CHOICE, log 12). -/
def takeCommand (op : Op) (src : Source) (c : Cmd) (objs : List Obj) (beg : Entry → State → State) (s : State) : State :=
  let code := opcodeOf op
  let cc := s.sourceCc src
  if !s.takes src then s
  else match tagFault code src c s with
    | some s' => s'
    | none =>
      match headerBad c with
      | some o => answer src cc code c.tag stBadArg 0 (resultOf [⟨8, 2, o⟩]) s
      | none =>
        if src = .mgmt ∧ islandExecutes op c then
          let e : Entry := { id := s.cmds.nextId, op := op, source := src, cc := 0, cmd := c, phase := .executing,
                             objects := [], accepted := false, discard := false, joined := [], abortTarget := none,
                             aux := [] }
          beg e { s with cmds := { s.cmds with entries := s.cmds.entries ++ [e], nextId := s.cmds.nextId + 1 } }
        else if !reaches op src s then answer src cc code c.tag stBadMode 0 0 s
        else if src = .mgmt ∧ s.mode.steward = .stopped then answer src cc code c.tag stBadMode 0 0 s
        else matchRetry op src c objs beg s

/-- A taken command whose opcode Table 7-9 does not list (07 R201 step 3, R219, R223; 05 R148 for the ROM, which the management
mailbox does not reach with it). -/
def takeUnknown (code : Nat) (src : Source) (c : Cmd) (s : State) : State :=
  let cc := s.sourceCc src
  if !s.takes src then s
  else match tagFault code src c s with
    | some s' => s'
    | none =>
      match headerBad c with
      | some o => answer src cc code c.tag stBadArg 0 (resultOf [⟨8, 2, o⟩]) s
      | none =>
        if (s.mode.current = .loader ∨ s.mode.current = .recovery) ∧ src ≠ .mgmt then answer src cc code c.tag stBadMode 0 0 s
        else answer src cc code c.tag stBadOpcode 0 0 s

/-- The COMMAND_ABORTs that wait for an open command (07 R205). -/
def State.abortsOf (s : State) (id : Nat) : List Entry :=
  s.cmds.entries.filter fun e => e.op = .commandAbort && e.phase = .executing && e.abortTarget == some id

/-- The aborts of a command complete (DEDUCED, log 15). -/
def settleAborts (id : Nat) (status : Byte) (s : State) : State :=
  (s.abortsOf id).foldl (fun st e => finish e status [] st) s

/-- A long-running command completes on its own: an abort that still waits is too late (07 R205). -/
def finishJob (e : Entry) (status : Byte) (result : List Fld) (s : State) : State :=
  settleAborts e.id stTooLate (finish e status result s)

/-- A long-running command stops at an abort point: it posts CANCELLED and then its aborts complete (07 R205). -/
def cancelJob (e : Entry) (s : State) : State :=
  settleAborts e.id stDone (finish e stCancelled [] s)

/-- The command came from another member's Steward (01 R27). -/
def Entry.fromPeer (e : Entry) : Bool :=
  match e.source with
  | .peer _ _ => true
  | _ => false

/-- What another member's Steward has sent with a command: data, and session entries of other homes (01 R27). -/
def Entry.given (e : Entry) : List Byte :=
  match e.source with
  | .peer _ ask => ask.data
  | _ => []

def Entry.sessions (e : Entry) : List SessionCopy :=
  match e.source with
  | .peer _ ask => ask.sessions ++ e.copies
  | _ => e.copies

/-- The open command waits for another member's Steward, which is asked to carry out `c` with data and session entries (01 R27)
(DESIGN CHOICE, log 13). -/
def askRemote (e : Entry) (c : Cmd) (dest : Nat) (data : List Byte) (sessions : List SessionCopy) (s : State) : State :=
  tell dest (.request (BitVec.ofNat 16 (opcodeOf e.op)) c { entry := e.id, data := data, sessions := sessions })
    (setEntry e.id (fun x => { x with phase := .remote }) s)

/-- The command as it stands goes to another member. -/
def toRemote (e : Entry) (dest : Nat) (s : State) : State :=
  askRemote e e.cmd dest [] [] s

/-- The command completes with DONE and data: for the host's memory, or for the member that asked (01 R27; 09 R283). -/
def finishData (e : Entry) (address : Nat) (data : List Byte) (s : State) : State :=
  if e.fromPeer then finish e stDone [] (setEntry e.id (fun x => { x with reply := data }) s)
  else finish e stDone [] (hostWrite address data s)

end Sys2Proof.Machine
end

