-- ==== Sys2Proof/Machine/Allowance.lean ====
section
/-!
DEFINITION. The Allowance controller (03): balances, grant tiers, requests, the scrubber's position, and the allowance
commands. The refill at a period boundary is in Period.
-/
namespace Sys2Proof.Machine

/-- Rated capacity per period in whole units, with TILL at 0.70 V (03 Table 3-2, R75). -/
def ratedCapacity (res : Nat) : Nat :=
  [898438, 1920000, 2048, 64].getD res 0

/-- A request that waits for a grant, behind those of its class (03 R18, R78). -/
def enqueueRequest (cls res : Nat) (r : Request) (s : State) : State :=
  setBalance cls res (fun b => { b with waiting := b.waiting ++ [r] }) s

/-- The class whose waiting request the controller grants next on a resource: first tier, then lowest class (03 R78).
`able` says which classes the resource can serve just now. -/
def pickClass (res : Nat) (able : Nat → Bool) (s : State) : Option Nat :=
  let cands := (List.range 8).filterMap fun cls =>
    let b := s.balance cls res
    if b.waiting.isEmpty || !able cls then none
    else (s.tier cls res).map fun t => (t, cls)
  (cands.foldl (fun (acc : Option (Nat × Nat)) p =>
    match acc with
    | none => some p
    | some a => if p.1 < a.1 then some p else some a) none).map (·.2)

/-- The size that a request is charged (02 R53; 03 R76): one access of the Vault; on Till one, or two for a write that ends
within a 64-bit word, `size` being the bytes that it enables and 0 for a read; one task grant; a page program of at most 256
bytes, or an erase as 256. -/
def chargedSize (res size : Nat) : Nat :=
  match res with
  | 0 => 1
  | 1 => tillWriteCharge (min size 64)
  | 2 => 1
  | _ => if size = 0 then 256 else min size 256

/-- ALLOWANCE_REQUEST: the request waits for its grant (03 R18, R74, R76). The controller runs only while the core does
(R81) (DESIGN CHOICE, log 17). -/
def execAllowanceRequest (cls : Fin 8) (res : Fin 4) (size : Nat) (s : State) : Host.Outcome State Fault Refusal :=
  .next <|
    if s.alw.running then
      enqueueRequest cls.val res.val { size := chargedSize res.val size, job := .other } s
    else s

/-- Accesses of a scrub pass (03 Table 3-6) (DEDUCED, log 63). -/
def scrubLength (vault : Bool) : Nat :=
  if vault then 268435456 else 1048576

/-- A scrub visit: the position moves on, a pass may end, and a corrected error is written back at the charge of a second
access, which waits behind the scrubber's other requests (03 R78, R84) (DEDUCED, log 63). -/
def scrubVisit (vault corrected : Bool) (s : State) : State :=
  let a := s.alw
  let pos := (if vault then a.vaultPos else a.tillPos) + 1
  let s1 :=
    if pos < scrubLength vault then
      { s with alw := if vault then { a with vaultPos := pos } else { a with tillPos := pos } }
    else if vault then
      { s with alw := { a with vaultPos := 0, vaultPasses := a.vaultPasses + 1,
                               vaultLastPassS := (s.now - a.vaultPassStart) / 1000000000,
                               vaultPassStart := s.now, vaultOverdue := false } }
    else
      { s with alw := { a with tillPos := 0, tillPasses := a.tillPasses + 1,
                               tillLastPassS := (s.now - a.tillPassStart) / 1000000000,
                               tillPassStart := s.now, tillOverdue := false } }
  if corrected then
    enqueueRequest 4 (if vault then 0 else 1) { size := 1, job := .writeBack } s1
  else s1

/-- SCRUB_OVERDUE: a pass still open at its bound raises the event once (03 R90). -/
def execScrubOverdue (vault : Bool) (s : State) : Host.Outcome State Fault Refusal :=
  .next <|
    let start := if vault then s.alw.vaultPassStart else s.alw.tillPassStart
    let bound := (if vault then 48 else 6) * 3600000000000
    if !s.alw.running || (if vault then s.alw.vaultOverdue else s.alw.tillOverdue) then s
    else
      let s1 := advance (start + bound) s
      let s2 := { s1 with alw := if vault then { s1.alw with vaultOverdue := true }
                                 else { s1.alw with tillOverdue := true } }
      raise evScrubOverdue [⟨16, 1, bit vault⟩, ⟨20, 4, if vault then s2.alw.vaultPos else s2.alw.tillPos⟩,
        ⟨24, 4, (s2.now - start) / 1000000000⟩] s2

/-- Per-frame MEDIA charge of one admitted channel of `coins` (08 Table 8-1). -/
def mediaCharge (res coins : Nat) : Nat :=
  [4, 192 + 8 * coins, 1, 0].getD res 0

/-- The channels that hold a slot of an engine of this device: suspended ones hold none (08 R233, 16 R497). -/
def State.admitted (s : State) : List Channel :=
  s.voice.channels.filter fun ch => ch.state != .suspended

/-- The MEDIA requirement for a list of coin counts (08 R237). -/
def mediaRequirement (res : Nat) (coins : List Nat) : Nat :=
  (2 * (coins.foldl (fun n c => n + mediaCharge res c) 0) + 79) / 80

/-- The rules of 03 R79 for one resource: the sum and the caps, in 1/256 units. -/
def sumFits (l : List AllowanceCfg) (res : Nat) : Bool :=
  let at_ (cls : Nat) := l.getD (balIndex cls res) { allow := 0, floor := 0 }
  let total := (List.range 8).foldl (fun n cls => n + if background cls then (at_ cls).floor else (at_ cls).allow) 0
  decide (total ≤ 256 * ratedCapacity res)

/-- The MEDIA allowances cover the admitted load (08 R237). -/
def mediaFits (l : List AllowanceCfg) (coins : List Nat) : Bool :=
  (List.range 4).all fun res =>
    decide (256 * mediaRequirement res coins ≤ (l.getD (balIndex 0 res) { allow := 0, floor := 0 }).allow)

/-- ALLOWANCE_SET (03 R86, R87): the change is made when the command begins and comes into force at the next boundary,
after which the command completes. -/
def allowanceSetBegin (e : Entry) (s : State) : State :=
  let c := e.cmd
  let cls := prmByte c 16
  let res := prmByte c 17
  let restore := decide (prmByte c 18 % 2 = 1)
  let allow := prm c 20 4
  let floor := prm c 24 4
  checked e runModes
    [need 16 (restore || decide (cls ≤ 7)), need 17 (restore || decide (res ≤ 3)), reservedBits c 18 1 1,
     reservedBytes c 19 20, reservedBytes c 28 64,
     need 20 (restore || decide (allow ≤ 256 * ratedCapacity res)),
     need 24 (restore || background cls || decide (floor = 0)), need 24 (restore || decide (floor ≤ allow))]
    (fun s =>
      let new := if restore then defaultAllowances
                 else s.cfg.allowances.set (balIndex cls res) { allow := allow, floor := floor }
      let least := (defaultAllowances.getD (balIndex 4 res) { allow := 0, floor := 0 }).floor
      if !restore && decide (cls = 4) && decide (res ≤ 1) && decide (floor < least) then finish e stDenied [] s
      else if !(List.range 4).all (sumFits new) || !mediaFits new (s.admitted.map (·.coins)) then
        finish e stNoResource [] s
      else { s with cfg := { s.cfg with allowances := new },
                    alw := { s.alw with setEntries := s.alw.setEntries ++ [e.id] } }) s

def allowanceSetObjects (_ : Cmd) : List Obj := [.allowances]

def execAllowanceSet (src : Source) (c : Cmd) (s : State) : Host.Outcome State Fault Refusal :=
  .next (takeCommand .allowanceSet src c (allowanceSetObjects c) allowanceSetBegin s)

/-- WAIT_1S: periods among the last 8,000 completed ones that ended with a request waiting (03 Table 3-7). -/
def wait1s (period : Nat) (b : Balance) : Nat :=
  (b.waitPeriods.filter fun p => decide (period < p + 8000)).length

/-- The allowance report (03 Tables 3-6 and 3-7) for the last completed period. -/
def allowanceReport (s : State) : List Byte :=
  let a := s.alw
  natBytes 64 (layout 0
    [⟨0, 8, a.period - 1⟩, ⟨8, 1, bit (!a.lastOnTb0)⟩, ⟨12, 4, a.tillPos⟩, ⟨16, 4, a.vaultPos⟩, ⟨20, 4, a.tillPasses⟩,
     ⟨24, 4, a.vaultPasses⟩, ⟨28, 4, a.tillLastPassS⟩, ⟨32, 4, a.vaultLastPassS⟩, ⟨36, 2, min a.calIdleRun 65535⟩]) ++
  ((List.range 32).map fun i =>
    let b := a.balances.getD i {}
    let f := a.lastForce.getD i { allow := 0, floor := 0 }
    natBytes 16 (layout 0 [⟨0, 4, f.allow⟩, ⟨4, 4, f.floor⟩, ⟨8, 4, b.lastSpend⟩, ⟨12, 2, wait1s (a.period - 1) b⟩,
      ⟨14, 1, bit b.lastFloorOpen + 2 * bit b.lastDry⟩])).flatten

/-- ALLOWANCE_REPORT (03 R88). -/
def allowanceReportBegin (e : Entry) (s : State) : State :=
  let c := e.cmd
  checked e runModes [hostAddr c 16 64, reservedBytes c 24 64]
    (fun s => finish e stDone [] (hostWrite (prm c 16 8) (allowanceReport s) s)) s

def execAllowanceReport (src : Source) (c : Cmd) (s : State) : Host.Outcome State Fault Refusal :=
  .next (takeCommand .allowanceReport src c [] allowanceReportBegin s)

end Sys2Proof.Machine
end

