-- ==== Sys2Proof/Machine/FaultLog.lean ====
section
/-!
DEFINITION. The fault records: staging, the flash ring and the crash record in RMEM (16 R502 to R505).
-/
namespace Sys2Proof.Machine

/-- A record as 64 bytes (16 Table 16-3). -/
def recordBytes (r : FaultRecord) : List Byte :=
  let body := natBytes 60 (layout 0
    [⟨0, 4, r.seq.toNat⟩, ⟨4, 1, r.kind⟩, ⟨5, 1, r.unitType⟩, ⟨6, 2, r.unitIndex⟩, ⟨8, 8, r.period⟩, ⟨16, 1, r.cause⟩,
     ⟨17, 1, r.node⟩, ⟨18, 1, r.mode⟩, ⟨19, 1, r.count⟩, ⟨20, 4, r.channel⟩, ⟨24, 8, r.address⟩])
  body ++ natBytes 4 (crc32c body)

/-- The crash record's header in RMEM (16 R503). -/
def crashBase : Nat := 0xF000

def rmemByte (s : State) (offset : Nat) : Nat :=
  (sget 0 s.rmem offset).toNat

/-- Rhoper writes bytes to RMEM; words written whole are repaired (04 R124). -/
def rmemPut (offset : Nat) (bytes : List Byte) (s : State) : State :=
  { s with rmem := swrite s.rmem offset bytes,
           rmemBad := s.rmemBad.filter fun w => !(decide (offset ≤ 8 * w) && decide (8 * w + 8 ≤ offset + bytes.length)) }

/-- The running Rhoper version as VERSION_GET reports it (07 R217): major, minor, patch. -/
def rhoperVersion : Nat := 0x00000402

/-- Each record goes to the ring as it is made, with MAGIC, the next slot, HELD and the version (16 R503)
(DEDUCED, log 49). -/
def crashAppend (r : FaultRecord) (s : State) : State :=
  let slot := rmemByte s (crashBase + 7) % 63
  let held := min 63 (rmemByte s (crashBase + 20) + 1)
  rmemPut (crashBase + 20) [BitVec.ofNat 8 held]
    (rmemPut (crashBase + 7) [BitVec.ofNat 8 ((slot + 1) % 63)]
      (rmemPut (crashBase + 16) (natBytes 4 rhoperVersion)
        (rmemPut crashBase (natBytes 4 0x4B524543) (rmemPut (crashBase + 64 + 64 * slot) (recordBytes r) s))))

/-- A record is made (16 R502): at most 100 transient ones a second. -/
def logFault (kind unitType unitIndex cause cnt channel address : Nat) (s : State) : State :=
  if !s.rhoper then s
  else
    let second := s.now / 1000000000
    let n := if s.faults.transientSecond = second then s.faults.transientCount else 0
    if kind = 1 ∧ 100 ≤ n then count (devCtr 72) s
    else
      let r : FaultRecord :=
        { seq := s.faults.nextSeq, kind := kind, unitType := unitType, unitIndex := unitIndex % 65536,
          period := s.alw.period, cause := cause, node := s.node, mode := s.mode.current.code, count := cnt % 256,
          channel := channel, address := address }
      let f := { s.faults with staged := s.faults.staged ++ [r], nextSeq := s.faults.nextSeq + 1 }
      let f' := if kind = 1 then { f with transientSecond := second, transientCount := n + 1 } else f
      crashAppend r { s with faults := f' }

/-- The header that a fatal assertion writes (16 R503) (DEDUCED, log 49). -/
def crashHeader (haltCause : Nat) (s : State) : State :=
  rmemPut (crashBase + 16) (natBytes 4 rhoperVersion)
    (rmemPut (crashBase + 8) (natBytes 8 s.alw.period)
      (rmemPut (crashBase + 4) [1, BitVec.ofNat 8 haltCause, BitVec.ofNat 8 s.mode.current.code]
        (rmemPut crashBase (natBytes 4 0x4B524543) s)))

/-- The acknowledgement (16 R504): MAGIC, the next-slot index and the version stay (DEDUCED, log 49). -/
def crashAck (s : State) : State :=
  rmemPut (crashBase + 64) (List.replicate 4032 0)
    (rmemPut (crashBase + 20) [0] (rmemPut (crashBase + 8) (natBytes 8 0) (rmemPut (crashBase + 4) [0, 0, 0] s)))

/-- A record in the ring, read back. -/
def recordOf (bs : List Byte) : FaultRecord :=
  let f (o n : Nat) := bytesNat ((bs.drop o).take n)
  { seq := BitVec.ofNat 32 (f 0 4), kind := f 4 1, unitType := f 5 1, unitIndex := f 6 2, period := f 8 8, cause := f 16 1,
    node := f 17 1, mode := f 18 1, count := f 19 1, channel := f 20 4, address := f 24 8 }

/-- The records that HELD counts, oldest first. -/
def crashRing (s : State) : List FaultRecord :=
  let held := rmemByte s (crashBase + 20)
  let next := rmemByte s (crashBase + 7) % 63
  (List.range held).map fun k =>
    recordOf (sread s.rmem (crashBase + 64 + 64 * ((next + 63 - held + k) % 63)) 64)

/-- One SEQ is at or after another, modulo 2³². -/
def seqAfter (a b : Word32) : Bool :=
  decide ((a - b).toNat < 2147483648)

/-- Records appended to the flash ring of 65,536: an erase that removes a sector's 64 records counts (16 R502). -/
def appendLog (rs : List FaultRecord) (s : State) : State :=
  let all := s.faults.log ++ rs
  if all.length ≤ 65536 then { s with faults := { s.faults with log := all } }
  else count (devCtr 73) { s with faults := { s.faults with log := all.drop 64 } }

/-- At its start Rhoper copies the ring's records that the log lacks, and resumes SEQ after the highest (16 R502, R504). -/
def recoverLog (warm : Bool) (s : State) : State :=
  let missing := (if warm then crashRing s else []).filter fun r => !(s.faults.log.any fun x => x.seq == r.seq)
  let s1 := appendLog missing s
  let next := s1.faults.log.foldl (fun (n : Word32) r => if seqAfter (r.seq + 1) n then r.seq + 1 else n)
    ((s1.faults.log.head?.map fun r => r.seq).getD 0)
  { s1 with faults := { s1.faults with nextSeq := next, staged := [] } }

/-- The flash write of up to four staged records, one page, is asked for (16 R502, 03 R76). -/
def flushRequest (s : State) : State :=
  if s.faults.staged.isEmpty then s
  else
    let i := 4 * 7 + 3
    let waiting := (s.alw.balances.getD i {}).waiting.any fun r => r.job == .faultLog
    let busy := match s.alw.flashBusy with | some r => r.job == .faultLog | none => false
    if waiting || busy then s
    else
      let r : Request := { size := 64 * min 4 s.faults.staged.length, job := .faultLog }
      { s with alw := { s.alw with balances := upd s.alw.balances i fun b => { b with waiting := b.waiting ++ [r] } } }

/-- FAULT_LOG_FLUSH (16 R502) (DEDUCED, log 23). -/
def execFaultLogFlush (s : State) : Host.Outcome State Fault Refusal :=
  .next (if s.running then flushRequest s else s)

/-- A page of records is programmed: they move from staging to the ring (DEDUCED, log 23). -/
def flushDone (s : State) : State :=
  flushRequest (appendLog (s.faults.staged.take 4) { s with faults := { s.faults with staged := s.faults.staged.drop 4 } })

end Sys2Proof.Machine
end

