-- ==== Sys2Proof/Machine/Ledger.lean ====
section
/-!
DEFINITION. The Ledger: its one queue of word writes, endurance, spares and failed words (17 R516 to R520), and the
commands that read it or write one of its words.
-/
namespace Sys2Proof.Machine

/-- The Ledger word of RESET_POLICY (17 Table 17-2). -/
def wResetPolicy : Nat := 1434
def wBootCtrl : Nat := 1435
def wTrialBaseGen : Nat := 1436
def wDownloadMark : Nat := 1437

/-- RESET_POLICY.REMOTE_EN and PERST_BLOCK (04 R128). -/
def State.remoteEn (s : State) : Bool := s.power.remoteEn
def State.perstBlock (s : State) : Bool := s.power.perstBlock

/-- The shadow of RESET_POLICY takes the Ledger's word (04 R114, R128). -/
def loadPolicy (s : State) : State :=
  let w := s.word wResetPolicy
  { s with power := { s.power with remoteEn := w.getLsbD 0, perstBlock := w.getLsbD 1 } }


/-- A word's hardware write count (17 R517). -/
def State.writeCount (s : State) (w : Nat) : Nat :=
  sget 0 s.ledger.counts w

/-- A word that has reached its endurance (17 R517) (DEDUCED, log 37). -/
def State.worn (s : State) (w : Nat) : Bool :=
  decide (200000 ≤ s.writeCount w)

/-- A write that is not performed because its word is worn: counted for the host and for the ROM's slot choice (17 R517,
R526). -/
def countWorn (w : LedgerWrite) (s : State) : State :=
  match w.writer with
  | .host | .rom => count (devCtr 130) s
  | .rhoper _ => s

/-- The next performable write starts; the worn ones before it are not performed and are returned (17 R516, R517). While
POWER_WARN_N is in effect nothing starts (04 R102) (DEDUCED, log 37). -/
def ledgerStart (s : State) : State × List LedgerWrite :=
  if s.ledger.started || s.power.warnActive then (s, [])
  else
    let skipped := s.ledger.queue.takeWhile fun w => s.worn w.word
    let rest := s.ledger.queue.dropWhile fun w => s.worn w.word
    let s1 := { s with ledger := { s.ledger with queue := rest, started := !rest.isEmpty } }
    (skipped.foldl (fun st w => countWorn w st) s1, skipped)

/-- A write joins the queue (17 R516): the state, and whether this very write was turned away as worn. -/
def ledgerPut (w : LedgerWrite) (s : State) : State × Bool :=
  let s1 := { s with ledger := { s.ledger with queue := s.ledger.queue ++ [w] } }
  let r := ledgerStart s1
  (r.1, !r.2.isEmpty)

/-- Rhoper's own write, behind no command. -/
def rhoperPut (word value : Nat) (s : State) : State :=
  (ledgerPut { word := word, value := BitVec.ofNat 32 value, writer := .rhoper none } s).1

/-- The pairs of word and value that `aux` still holds for a command (1 pair: 2 numbers). -/
def flatPairs : List (Nat × Nat) → List Nat
  | [] => []
  | (a, b) :: rest => a :: b :: flatPairs rest

/-- A command writes words one after another: the first joins the queue, the rest wait in `aux` (17 R516); a worn word
completes the command with WORN (17 R517). -/
def writeWords (e : Entry) (ws : List (Nat × Nat)) (s : State) : State :=
  match ws with
  | [] => s
  | (w, v) :: rest =>
    let s1 := setEntry e.id (fun x => { x with aux := flatPairs rest }) s
    let r := ledgerPut { word := w, value := BitVec.ofNat 32 v, writer := .rhoper (some e.id) } s1
    if r.2 then finish e stWorn [] r.1 else r.1

/-- LEDGER_WORD_REMAPPED (17 R546) (DEDUCED, log 38). -/
def raiseRemapped (word spare left : Nat) (s : State) : State :=
  raise evLedgerWordRemapped [⟨16, 2, word⟩, ⟨18, 1, spare⟩, ⟨19, 1, left⟩] s

/-- The program and verify of the head write end: the word holds its value, or a spare stands in for it, or it has
failed (17 R516 to R518; 16 R489, R502). The second component says whether the write is persistent
(DEDUCED, log 38). -/
def ledgerPerform (w : LedgerWrite) (verified : Bool) (s : State) : State × Bool :=
  let s1 := count (devCtr 128) s
  let l := s1.ledger
  if verified then
    ({ s1 with ledger := { l with words := sset 0 l.words w.word w.value,
                                  counts := sset 0 l.counts w.word (min (s1.writeCount w.word + 1) 0xFFFFFF) } }, true)
  else if l.remaps.length < 128 then
    let s2 := { s1 with ledger := { l with words := sset 0 l.words w.word w.value,
                                           counts := sset 0 l.counts w.word 1, remaps := l.remaps ++ [w.word] } }
    let left := 127 - l.remaps.length
    let s3 := logFault 3 4 w.word 8 left 0 0 (logFault 2 4 w.word 8 left 0 0 (count (devCtr 129) s2))
    (raiseRemapped w.word l.remaps.length left s3, true)
  else
    let s2 := { s1 with ledger := { l with failed := if w.word ∈ l.failed then l.failed else l.failed ++ [w.word],
                                           counts := sset 0 l.counts w.word (min (s1.writeCount w.word + 1) 0xFFFFFF) } }
    (raiseRemapped w.word 0xFF 0 (logFault 2 4 w.word 8 0 0 0 (count (devCtr 131) (count (devCtr 129) s2))), false)

/-- A host LW write joins the queue, is refused under POWER_WARN_N, or is ignored outside the modes in which the user
region answers (04 R102; 17 R519). -/
def userWordWrite (word w : Nat) (s : State) : State :=
  if !s.running then s
  else if s.power.warnActive then
    count (devCtr 15) { s with power := { s.power with warnRefused := s.power.warnRefused + 1 } }
  else (ledgerPut { word := word, value := BitVec.ofNat 32 w, writer := .host } s).1

/-- LEDGER_USER_WRITE (17 R519). -/
def execLedgerUserWrite (word : Fin 1024) (value : Word32) (s : State) : Host.Outcome State Fault Refusal :=
  .next (userWordWrite word.val value.toNat s)

/-- The numbers of LEDGER_STATUS (17 R538). -/
def ledgerReport (first n : Nat) (s : State) : List Byte :=
  let worst := (List.range 4096).foldl (fun (acc : Nat × Nat) w =>
    if acc.2 < s.writeCount w then (w, s.writeCount w) else acc) (0, s.writeCount 0)
  let wornCount := (s.ledger.counts.filter fun p => 200000 ≤ p.2).length
  let remapped := s.ledger.remaps.eraseDups
  natBytes 64 (layout 0 [⟨0, 2, 128 - s.ledger.remaps.length⟩, ⟨2, 2, remapped.length⟩, ⟨4, 2, wornCount⟩,
    ⟨6, 2, worst.1⟩, ⟨8, 4, worst.2⟩]) ++
  ((List.range n).map fun k =>
    let w := first + k
    natBytes 4 (s.writeCount w + bit (w ∈ s.ledger.remaps) * 0x1000000 + bit (s.worn w) * 0x2000000
      + bit (w ∈ s.ledger.failed) * 0x4000000)).flatten

/-- LEDGER_STATUS (17 R538). -/
def ledgerStatusBegin (e : Entry) (s : State) : State :=
  let c := e.cmd
  checked e runModes
    [within c 16 2 0 4095, within c 18 2 0 1024, reservedBytes c 20 24, hostAddr c 24 64, reservedBytes c 32 64,
     need 18 (decide (prm c 16 2 + prm c 18 2 ≤ 4096))]
    (fun s => finish e stDone [] (hostWrite (prm c 24 8) (ledgerReport (prm c 16 2) (prm c 18 2) s) s)) s

def execLedgerStatus (src : Source) (c : Cmd) (s : State) : Host.Outcome State Fault Refusal :=
  .next (takeCommand .ledgerStatus src c [] ledgerStatusBegin s)

/-- RESET_POLICY_SET (04 R128). -/
def resetPolicySetBegin (e : Entry) (s : State) : State :=
  let c := e.cmd
  checked e [.standby, .diagnostic] [reservedBits c 16 1 3, reservedBytes c 17 64]
    (writeWords e [(wResetPolicy, prmByte c 16)]) s

def resetPolicySetObjects (_ : Cmd) : List Obj := [.policy]

def execResetPolicySet (src : Source) (c : Cmd) (s : State) : Host.Outcome State Fault Refusal :=
  .next (takeCommand .resetPolicySet src c (resetPolicySetObjects c) resetPolicySetBegin s)

/-- The Ledger word that holds a pace offset, and its shift (17 Table 17-2). -/
def paceWord (monitor : Nat) : Nat := 1416 + monitor / 4

/-- The user pace offset of a monitor in the present period (02 R40, R67). -/
def State.paceOffset (s : State) (monitor : Nat) : Int :=
  signed 8 ((s.gov.offsets.getD (monitor / 4) 0).toNat >>> (8 * (monitor % 4)))

/-- A period begins with the offsets that the Ledger then holds (02 R60, R67). -/
def loadOffsets (s : State) : State :=
  { s with gov := { s.gov with offsets := (List.range 18).map fun k => s.word (1416 + k) } }

/-- A word with `n` bits at position `at_` replaced. -/
def withBits (word at_ n value : Nat) : Nat :=
  word - ((bitsOf word at_ n) <<< at_) + ((value % 2 ^ n) <<< at_)

/-- PACE_OFFSET_SET (02 R60). -/
def paceOffsetSetBegin (e : Entry) (s : State) : State :=
  let c := e.cmd
  checked e [.standby, .diagnostic] [within c 16 1 0 71, reservedBytes c 18 64]
    (fun s =>
      let m := prmByte c 16
      writeWords e [(paceWord m, withBits (s.word (paceWord m)).toNat (8 * (m % 4)) 8 (prmByte c 17))] s) s

def paceOffsetSetObjects (c : Cmd) : List Obj := [.paceOffset (paceWord (prmByte c 16))]

def execPaceOffsetSet (src : Source) (c : Cmd) (s : State) : Host.Outcome State Fault Refusal :=
  .next (takeCommand .paceOffsetSet src c (paceOffsetSetObjects c) paceOffsetSetBegin s)

/-- The Ledger word of a calibration target's offset (17 Table 17-2). -/
def calWord (target : Nat) : Nat := 1440 + target / 2

/-- The user offset of a calibration target (17 R521). -/
def State.calOffset (s : State) (target : Nat) : Int :=
  signed 16 ((s.word (calWord target)).toNat >>> (16 * (target % 2)))

/-- Offset range and effective range of a calibration target (17 Table 17-3). -/
def calRange (t : Nat) : (Int × Int) × (Int × Int) :=
  if t ≤ 47 then ((-2048, 2047), (0, 65535))
  else if t ≤ 56 then ((-64, 63), (-320, 1200))
  else if t ≤ 60 then ((-16, 15), (0, 2047))
  else ((-7, 7), (0, 31))

/-- The value saturated to a range. -/
def clampInt (lo hi x : Int) : Int :=
  max lo (min hi x)

/-- The effective value of a calibrated quantity (17 R521). -/
def State.calEffective (s : State) (t : Nat) : Int :=
  let r := (calRange t).2
  clampInt r.1 r.2 (Config.factoryCal t + s.calOffset t)

/-- A rail monitor's effective reading in mV (17 R521, Table 17-3 targets 57 to 60). -/
def State.effectiveRail (s : State) (rail mv : Nat) : Nat :=
  (clampInt 0 2047 (mv + s.calOffset (57 + rail))).toNat

/-- A thermal sensor's effective reading in 0.125 °C (17 R521, Table 17-3 targets 48 to 56)
(DESIGN CHOICE, log 70). -/
def State.effectiveTemp (s : State) (sensor : Nat) (t : Int) : Int :=
  clampInt (-320) 1200 (t + s.calOffset (48 + sensor))

/-- The RESULT of CAL_OFFSET_SET (17 R539). -/
def calResult (t : Nat) (s : State) : List Fld :=
  [⟨8, 4, twos 4 (Config.factoryCal t)⟩, ⟨12, 2, twos 2 (s.calOffset t)⟩, ⟨14, 4, twos 4 (s.calEffective t)⟩]

/-- CAL_OFFSET_SET (17 R539, R545). -/
def calOffsetSetBegin (e : Entry) (s : State) : State :=
  let c := e.cmd
  let t := prm c 16 2
  let off := prmInt c 18 2
  let r := (calRange t).1
  checked e [.standby, .diagnostic]
    [within c 16 2 0 140, reservedBits c 20 1 1, reservedBytes c 21 64,
     need 18 (decide (r.1 ≤ off) && decide (off ≤ r.2)),
     need 20 (prmByte c 20 % 2 = 0 || off = 0)]
    (fun s =>
      if prmByte c 20 % 2 = 1 then finish e stDone (calResult t s) s
      else writeWords e [(calWord t, withBits (s.word (calWord t)).toNat (16 * (t % 2)) 16 (prm c 18 2))] s) s

def calOffsetSetObjects (c : Cmd) : List Obj := [.calOffset (calWord (prm c 16 2))]

def execCalOffsetSet (src : Source) (c : Cmd) (s : State) : Host.Outcome State Fault Refusal :=
  .next (takeCommand .calOffsetSet src c (calOffsetSetObjects c) calOffsetSetBegin s)

/-- POWER_WARN's DATA (04 R104). -/
def powerWarnData (state refused lowUs : Nat) : List Fld :=
  [⟨16, 1, state⟩, ⟨20, 4, refused⟩, ⟨24, 4, lowUs⟩]

/-- A low level on POWER_WARN_N takes effect: under 50 ns never, up to 200 ns or not, longer always (04 R102)
(DESIGN CHOICE, log 72). -/
def warnTaken (lowNs : Nat) (s : State) : Bool :=
  if lowNs < 50 then false else if lowNs ≤ 200 then decide (s.freeAt 1 % 2 = 1) else true

/-- POWER_WARN_ASSERT (04 R102, R133) (DESIGN CHOICE, log 72). -/
def execPowerWarnAssert (lowNs : Nat) (s : State) : Host.Outcome State Fault Refusal :=
  .next <|
    let s0 := drawn s
    let due := s.now + lowNs + 100000
    if !warnTaken lowNs s then s0
    else if s.power.warnActive then { s0 with power := { s0.power with warnDue := max due s.power.warnDue } }
    else
      let waiting := if s.ledger.started then s.ledger.queue.drop 1 else s.ledger.queue
      let refused := (waiting.filter fun w => w.writer == .host).length
      let kept := (if s.ledger.started then s.ledger.queue.take 1 else []) ++ waiting.filter fun w => w.writer != .host
      let power := { s0.power with warnActive := true, warnSince := s0.now, warnDue := due, warnRefused := refused }
      let s1 := { s0 with power := power, ledger := { s0.ledger with queue := kept } }
      raise evPowerWarn (powerWarnData 1 0 0) (countBy (devCtr 15) refused s1)

end Sys2Proof.Machine
end

