-- ==== Sys2Proof/Machine/Engines.lean ====
section
/-!
DEFINITION. The board of engines: service, coins and slots, admission (08 R233 to R237), ready lists and grants (08 R238
to R245), pace readings (02 R38, R39) and the engine commands.
-/
namespace Sys2Proof.Machine

/-- Rated coins per engine and frame at a rated point (02 Table 2-1). -/
def ratedCoins (point : Nat) : Nat :=
  [768, 1024, 1200].getD point 0

/-- The voltage of a rated point in mV (02 Table 2-1). -/
def pointMv (point : Nat) : Nat :=
  [700, 750, 800].getD point 0

def State.engine (s : State) (e : Nat) : Engine :=
  s.board.engines.getD e {}

def setEngine (e : Nat) (f : Engine → Engine) (s : State) : State :=
  { s with board := { s.board with engines := upd s.board.engines e f } }

/-- An engine in service: neither retired nor in block reset (08 Table 8-4). -/
def State.inService (s : State) (e : Nat) : Bool :=
  decide (e < 64) && !(s.engine e).retired && !s.blockInReset e

/-- The channels on an engine (08 R233). -/
def State.channelsOn (s : State) (e : Nat) : List Channel :=
  s.admitted.filter fun ch => ch.engine == e

/-- The coins of a list of channels. -/
def coinSum (l : List Channel) : Nat :=
  l.foldl (fun n ch => n + ch.coins) 0

/-- The admitted coins of an engine, and of the device (08 R235). -/
def State.coinsOn (s : State) (e : Nat) : Nat :=
  coinSum (s.channelsOn e)

def State.deviceCoins (s : State) : Nat :=
  coinSum (s.admitted.filter fun ch => s.inService ch.engine)

def State.serviceCount (s : State) : Nat :=
  ((List.range 64).filter fun e => s.inService e).length

/-- The conditions of 08 R235 for engine `e` to take `more` coins, of a new channel or of one that it already runs;
`without` is that channel (DEDUCED, log 29). -/
def State.admits (s : State) (e more : Nat) (without : Option Nat) : Bool :=
  let others := s.admitted.filter fun ch => some ch.id != without
  let here := others.filter fun ch => ch.engine == e
  let rated := ratedCoins s.cfg.governor.point
  s.inService e
    && decide (here.length + 1 ≤ 128)
    && decide (coinSum here + more ≤ rated)
    && decide (coinSum (others.filter fun ch => s.inService ch.engine) + more + s.board.reserveCoins
        ≤ s.serviceCount * rated)
    && decide (others.length + 1 ≤ 8192)
    && mediaFits s.cfg.allowances (more :: others.map (·.coins))

/-- Free coins of an engine, rated less admitted: below zero where retired engines' channels have crowded it (08 R236). -/
def State.freeCoins (s : State) (e : Nat) : Int :=
  (ratedCoins s.cfg.governor.point : Int) - s.coinsOn e

/-- The first candidate with the greatest value. -/
def argMax (f : Nat → Int) (l : List Nat) : Option Nat :=
  l.foldl (fun acc e =>
    match acc with
    | none => some e
    | some a => if f a < f e then some e else some a) none

/-- The engine that 08 R236 chooses for `coins`, away from `avoid`. -/
def State.chooseEngine (s : State) (coins : Nat) (avoid : List Nat) : Option Nat :=
  argMax s.freeCoins ((List.range 64).filter fun e => e ∉ avoid && s.admits e coins none)

/-- The lowest free slot of an engine (08 R233). -/
def State.freeSlot (s : State) (e : Nat) : Nat :=
  ((List.range 128).find? fun k => !(s.channelsOn e).any fun ch => ch.slot == k).getD 0

/-- The latest gate reading of a monitor: completions, and whether the gate fell back (02 R38)
(DEDUCED, log 57). -/
def State.gateCount (s : State) (m : Nat) : Nat :=
  (s.gov.gate.getD m 0).toNat % 32768

def State.gateFallback (s : State) (m : Nat) : Bool :=
  (s.gov.gate.getD m 0).getLsbD 15

/-- The map through the three fuse points of a monitor, rounded down (02 R39). The points are taken in ascending order of
their raw readings, and a reading below the middle point lies on the first segment (DESIGN CHOICE, log 82). -/
def paceMap (m raw : Nat) : Int :=
  let seg := if raw < Config.paceRaw m 1 then 0 else 1
  let r0 : Int := Config.paceRaw m seg
  let r1 : Int := Config.paceRaw m (seg + 1)
  let c0 : Int := Config.paceCoins m seg
  let c1 : Int := Config.paceCoins m (seg + 1)
  (c0 * (r1 - r0) + ((raw : Int) - r0) * (c1 - c0)) / (r1 - r0)

/-- The pace index of a monitor; 0xFFFF for a retired engine (02 R39). -/
def State.paceIndex (s : State) (m : Nat) : Nat :=
  if m < 64 ∧ (s.engine m).retired then 0xFFFF
  else (clampInt 0 65534 (paceMap m (s.gateCount m) + s.paceOffset m)).toNat

/-- The pace requirement of an engine, 0 when it is idle (02 R43). -/
def State.engineReq (s : State) (e : Nat) : Nat :=
  ceilDiv (s.coinsOn e * (256 + s.cfg.governor.margin)) 256

/-- The pace requirement of the fabric (02 R43). -/
def State.fabricReq (s : State) : Nat :=
  ceilDiv (s.deviceCoins * (256 + s.cfg.governor.margin)) 16384

/-- A monitor carries a requirement: an in-service engine with work, or the fabric (02 R43, R66). -/
def State.monitorReq (s : State) (m : Nat) : Nat :=
  if m < 64 then
    if s.inService m && decide ((s.engine m).rejoinPeriod ≤ s.alw.period) then s.engineReq m else 0
  else s.fabricReq

/-- The monitors whose index is below their requirement (02 R43). -/
def State.shortMonitors (s : State) : List Nat :=
  (List.range 72).filter fun m => decide (s.paceIndex m < s.monitorReq m)

/-- Every engine with a requirement, and every fabric monitor, has 32 coins to spare on a reading without fallback (02 R43,
R65). -/
def State.spare (s : State) : Bool :=
  (List.range 72).all fun m =>
    (decide (m < 64) && decide (s.monitorReq m = 0)) || (!s.gateFallback m && decide (s.monitorReq m + 32 ≤ s.paceIndex m))

/-- The head of the highest non-empty level of a ready list (08 R239): the lowest level number, first come. -/
def headTask (l : List Task) : Option Task :=
  l.foldl (fun acc t =>
    match acc with
    | none => some t
    | some a => if t.level < a.level then some t else some a) none

/-- The class that a task's grant is charged to: CLUSTER for a restore, else MEDIA (08 R241). -/
def taskClass (t : Task) : Nat :=
  if t.kind = .restore then 3 else 0

/-- The list without the first occurrence of a task. -/
def removeTask (t : Task) (l : List Task) : List Task :=
  l.erase t

/-- The engine of service whose last calibration is oldest, by the period in which its last slice ended, the lowest index
on a tie (03 R83) (DESIGN CHOICE, log 83). -/
def State.oldestCal (s : State) (l : List Nat) : Option Nat :=
  l.foldl (fun acc e =>
    match acc with
    | none => some e
    | some a => if (s.engine e).lastCal < (s.engine a).lastCal then some e else some a) none

/-- The engine that a forced calibration takes: of those in service, the one with the oldest calibration (03 R83). -/
def State.forcedChoice (s : State) : Option Nat :=
  s.oldestCal ((List.range 64).filter fun e => s.inService e && !(s.engine e).calSlice)

/-- A forced calibration is due and has a descriptor (03 R83, 08 R243). -/
def State.calHeld (s : State) : Bool :=
  s.alw.calForcedDue && decide (0 < s.board.transientFree)

/-- A transient descriptor taken or freed (08 R243). -/
def takeDescriptor (s : State) : State :=
  let n := s.board.transientFree - 1
  { s with board := { s.board with transientFree := n, transientLow := min n s.board.transientLow } }

def freeDescriptor (s : State) : State :=
  { s with board := { s.board with transientFree := min 8192 (s.board.transientFree + 1) } }

/-- An engine test runs on the engine. -/
def State.testOn (s : State) (e : Nat) : Option TestJob :=
  s.board.tests.find? fun j => j.engine == e

/-- A calibration slice starts on an engine (03 R82). The slices of a self-test run on their iteration's descriptor (08
R243). -/
def startSlice (engine : Nat) (s : State) : State :=
  let test := (s.testOn engine).any fun j => j.holds
  let s1 := setEngine engine (fun x => { x with calSlice := true, testSlice := test }) s
  if test then s1 else takeDescriptor s1

/-- A slice on the engine is over: its descriptor is free again, but for a self-test's (08 R243). -/
def endSlice (engine : Nat) (s : State) : State :=
  let x := s.engine engine
  let s1 := setEngine engine (fun x => { x with calSlice := false, testSlice := false }) s
  if x.calSlice && !x.testSlice then freeDescriptor s1 else s1

/-- A slice of an engine self-test is asked of the controller (08 R250; 03 R82). -/
def requestSlice (engine : Nat) (s : State) : State :=
  enqueueRequest 5 2 { size := 1, job := .engineTest engine } s

/-- An iteration of a self-test begins once it holds a descriptor (08 R243, R250). -/
def beginIteration (s : State) (j : TestJob) : State :=
  if j.holds || s.board.transientFree = 0 then s
  else requestSlice j.engine (takeDescriptor { s with board := { s.board with tests := s.board.tests.map fun x =>
    if x.entry = j.entry then { x with holds := true, slices := 0 } else x } })

def beginIterations (s : State) : State :=
  s.board.tests.foldl beginIteration s

/-- A self-test is over: its descriptor and its waiting slice are given back (08 R243). -/
def dropTest (j : TestJob) (s : State) : State :=
  let s1 := setBalance 5 2 (fun b => { b with waiting := b.waiting.filter fun r => r.job != .engineTest j.engine })
    { s with board := { s.board with tests := s.board.tests.filter fun x => x.entry != j.entry } }
  if j.holds then freeDescriptor s1 else s1

/-- A slice may run on the engine outside the forced case: it held no granted task throughout the previous period and runs
nothing now (03 R82). -/
def State.sliceIdle (s : State) (e : Nat) : Bool :=
  let x := s.engine e
  x.running.isNone && x.parked.isNone && !x.calSlice && !s.blockInReset e && !x.busyPrev

/-- The engine that takes the slice which heads CAL's queue: the one under test, else one in service, the oldest calibration
first, when a descriptor is free (03 R82, R83; 08 R243, R250). -/
def State.calEngine (s : State) : Option Nat :=
  match (s.balance 5 2).waiting.head?.map Request.job with
  | some (RequestJob.engineTest e) => if s.sliceIdle e then some e else none
  | _ =>
    if s.board.transientFree = 0 then none
    else s.oldestCal ((List.range 64).filter fun e => s.inService e && s.sliceIdle e && (s.testOn e).isNone)

/-- The engine wants a task grant: it is free, its urgent tasks go before a parked one, and a forced slice runs before its
first grant (03 R83, R97; 08 R239, R242). -/
def State.asks (s : State) (e : Nat) : Bool :=
  let en := s.engine e
  !en.retired && !s.blockInReset e && en.running.isNone && !en.calSlice
    && !(s.calHeld && s.forcedChoice == some e) && !en.ready.isEmpty
    && (en.parked.isNone || en.ready.any fun t => decide (t.level ≤ 1))

/-- An engine with a parked task whose lists of level 0 and 1 are empty resumes it (08 R242). -/
def resumeParked (e : Nat) (s : State) : State :=
  let en := s.engine e
  match en.parked with
  | some t =>
    if !en.retired && !s.blockInReset e && en.running.isNone && !en.calSlice && !(en.ready.any fun t => decide (t.level ≤ 1)) then
      setEngine e (fun x => { x with running := some t, parked := none }) s
    else s
  | none => s

/-- The engines that ask, in the order in which they began to (08 R239; 03 R78). -/
def collectAskers (s : State) : State :=
  let old := s.board.askers.filter s.asks
  { s with board := { s.board with askers := old ++ (List.range 64).filter fun e => s.asks e && e ∉ old } }

/-- The engine of a class that asked first. -/
def State.firstAsker (s : State) (cls : Nat) : Option Nat :=
  s.board.askers.find? fun e => (headTask (s.engine e).ready).any fun t => taskClass t == cls

/-- A class has something that DISPATCH can grant now: a task of an asking engine, or a request in its queue, a slice only
when an engine takes it (03 R78, R82). -/
def State.dispatchable (s : State) (cls : Nat) : Bool :=
  (s.firstAsker cls).isSome
    || (!(s.balance cls 2).waiting.isEmpty && (cls != 5 || s.calEngine.isSome))

/-- The class that DISPATCH grants next: first tier, then lowest class (03 R78, R91). -/
def State.dispatchNext (s : State) : Option Nat :=
  let cands := (List.range 8).filterMap fun cls =>
    if s.dispatchable cls then (s.tier cls 2).map fun t => (t, cls) else none
  (cands.foldl (fun (acc : Option (Nat × Nat)) p =>
    match acc with
    | none => some p
    | some a => if p.1 < a.1 then some p else some a) none).map (·.2)

/-- An engine receives the head of its highest non-empty level (08 R239). -/
def grantTask (e : Nat) (s : State) : State :=
  match headTask (s.engine e).ready with
  | none => s
  | some t =>
    count (engineCtr e 0)
      (setEngine e (fun x => { x with ready := removeTask t x.ready, running := some t, busyNow := true })
        (chargeGrant (taskClass t) 2 1 s))

/-- One DISPATCH grant of a class: its first asking engine's task, else the head of its queue (03 R78, R82; 08 R239). -/
def dispatchGrant (cls : Nat) (s : State) : State :=
  match s.firstAsker cls with
  | some e => grantTask e s
  | none =>
    let slice := if cls = 5 then s.calEngine else none
    let s1 := chargeGrant cls 2 1 (setBalance cls 2 (fun b => { b with waiting := b.waiting.tail }) s)
    match slice with
    | some e => startSlice e s1
    | none => s1

/-- Grants while an engine waits for one, at most `n` (03 R78; 08 R239). -/
def grantSome : Nat → State → State
  | 0, s => s
  | n + 1, s =>
    let s1 := collectAskers s
    if s1.board.askers.isEmpty then s1
    else match s1.dispatchNext with
      | none => s1
      | some cls => grantSome n (dispatchGrant cls s1)

/-- The free engines take work as the allowance allows: a request in DISPATCH's queues that goes before them is granted on
the way. The controller grants nothing while it is stopped (03 R78, R81; 08 R239, R242). -/
def grantAll (s : State) : State :=
  if !s.alw.running then s
  else
    let s1 := (List.range 64).foldl (fun st e => resumeParked e st) s
    let queued := (List.range 8).foldl (fun n cls => n + (s1.balance cls 2).waiting.length) 0
    grantSome (65 + queued) s1

/-- ENGINE_CONFIG_SET (08 R248). -/
def engineConfigSetBegin (e : Entry) (s : State) : State :=
  let c := e.cmd
  let sel := prmByte c 24
  let set := decide (prmByte c 25 % 2 = 1)
  checked e [.diagnostic]
    [need 24 (decide (sel ≤ 1) || decide (sel = 255)), reservedBits c 25 1 1, reservedBytes c 26 28,
     within c 28 4 0 76800, reservedBytes c 32 64, need 28 (set || decide (prm c 28 4 = 0))]
    (fun s =>
      let engines := s.board.engines.mapIdx fun i x =>
        if sel ≤ 1 ∧ (prm c 16 8).testBit i then { x with preempt := decide (sel = 1) } else x
      let reserve := if set then prm c 28 4 else s.board.reserveCoins
      finish e stDone [] { s with board := { s.board with engines := engines, reserveCoins := reserve } }) s

def engineConfigSetObjects (_ : Cmd) : List Obj := [.engineConfig]

def execEngineConfigSet (src : Source) (c : Cmd) (s : State) : Host.Outcome State Fault Refusal :=
  .next (takeCommand .engineConfigSet src c (engineConfigSetObjects c) engineConfigSetBegin s)

/-- Engine faults in the last 10 s (08 Table 8-4, 16 R490). -/
def State.faults10 (s : State) (e : Nat) : Nat :=
  ((s.engine e).faults.filter fun t => decide (s.now < t + 10000000000)).length

/-- The engine status report (08 Tables 8-3 and 8-4). -/
def engineReport (s : State) : List Byte :=
  let p := s.cfg.governor.point
  natBytes 64 (layout 0 [⟨0, 1, p⟩, ⟨1, 1, s.serviceCount⟩, ⟨4, 4, s.board.reserveCoins⟩,
    ⟨8, 2, 8192 - s.admitted.length⟩, ⟨10, 2, s.board.transientFree⟩, ⟨12, 2, s.board.transientLow⟩]) ++
  ((List.range 64).map fun i =>
    let x := s.engine i
    natBytes 16 (layout 0 [⟨0, 1, bit x.preempt⟩,
      ⟨1, 1, if x.retired then 1 else if s.blockInReset i then 2 else 0⟩, ⟨2, 1, (s.channelsOn i).length⟩,
      ⟨3, 1, s.faults10 i⟩, ⟨4, 2, s.coinsOn i⟩, ⟨6, 2, if x.retired then 0 else ratedCoins p⟩,
      ⟨8, 4, min (s.alw.period - x.lastCal) 0xFFFFFFFF⟩])).flatten

/-- ENGINE_STATUS (08 R249). -/
def engineStatusBegin (e : Entry) (s : State) : State :=
  let c := e.cmd
  checked e [.diagnostic] [hostAddr c 16 64, reservedBytes c 24 64]
    (fun s => finish e stDone [] (hostWrite (prm c 16 8) (engineReport s) s)) s

def execEngineStatus (src : Source) (c : Cmd) (s : State) : Host.Outcome State Fault Refusal :=
  .next (takeCommand .engineStatus src c [] engineStatusBegin s)

/-- ENGINE_TEST (08 R250): an iteration is 250 CAL slices, whose ends are CAL_SLICE_END. -/
def engineTestBegin (e : Entry) (s : State) : State :=
  let c := e.cmd
  checked e [.diagnostic] [within c 16 1 0 63, reservedBytes c 17 18, within c 18 2 1 1000, reservedBytes c 20 64]
    (fun s =>
      let job : TestJob :=
        { entry := e.id, engine := prmByte c 16, iterations := prm c 18 2, passed := 0, holds := false, slices := 0 }
      let s1 := accept e s
      beginIterations { s1 with board := { s1.board with tests := s1.board.tests ++ [job] } }) s

def engineTestObjects (c : Cmd) : List Obj := [.engine (prmByte c 16)]

def execEngineTest (src : Source) (c : Cmd) (s : State) : Host.Outcome State Fault Refusal :=
  .next (takeCommand .engineTest src c (engineTestObjects c) engineTestBegin s)

end Sys2Proof.Machine
end

