-- ==== Sys2Proof/Machine/TimeBase.lean ====
section
/-!
DEFINITION. Time bases, PPS pins and the reference of the time-base island (13 R385 to R391, R405 to R408, R413).
-/
namespace Sys2Proof.Machine

/-- One second in 1/65,536 ns. -/
def tbSecond : Nat := 65536000000000

def State.tbCfg (s : State) (i : Nat) : TimeBaseCfg :=
  s.cfg.timeBases.getD i {}

def setTb (i : Nat) (f : TimeBase → TimeBase) (s : State) : State :=
  { s with time := { s.time with bases := upd s.time.bases i f } }

/-- The 96-bit form of a time value (13 R385). -/
def timeField (v : Nat) : Nat :=
  (v / tbSecond % 2 ^ 48) * 2 ^ 48 + v % tbSecond / 65536 * 65536 + v % 65536

/-- The time value of a 96-bit field. -/
def fieldTime (f : Nat) : Nat :=
  (f / 2 ^ 48) * tbSecond + f % 2 ^ 48

/-- A time base brought to the present instant. -/
def tbSync (i : Nat) (s : State) : State :=
  setTb i (fun b => { b with value := s.tbValue i, shadow := s.tbShadow i, at_ := s.now }) s

/-- The rates of the last 60 s, newest first, each with its start; the oldest may have begun earlier. -/
def recentRates (since : Nat) : List (Nat × Int) → List (Nat × Int)
  | [] => []
  | x :: rest => if x.1 ≤ since then [x] else x :: recentRates since rest

/-- A time base takes a rate (13 R388). -/
def TimeBase.withRate (b : TimeBase) (now : Nat) (rate : Int) : TimeBase :=
  { b with rate := rate, rates := recentRates (now - 60000000000) ((now, rate) :: b.rates) }

/-- The sum of rate times duration from `since` up to `until_`, and the instant from which on rates are known. -/
def rateSum (since : Nat) : Nat → List (Nat × Int) → Int × Nat
  | until_, [] => (0, until_)
  | until_, x :: rest =>
    let start := max x.1 since
    let r := rateSum since start rest
    (x.2 * ((until_ - start : Nat) : Int) + r.1, r.2)

/-- The mean rate over the last 60 s, or since the time base has started (13 Table 13-1). -/
def TimeBase.meanRate (b : TimeBase) (now : Nat) : Int :=
  let r := rateSum (now - 60000000000) now b.rates
  if r.2 < now then r.1 / ((now - r.2 : Nat) : Int) else b.rate

/-- Codes of the states (13 Table 13-1). -/
def TbState.code : TbState → Nat
  | .off => 0
  | .free => 1
  | .acquiring => 2
  | .locked => 3
  | .holdover => 4

/-- TB_STATE (13 R413). -/
def raiseTb (i : Nat) (previous : TbState) (cause : Nat) (s : State) : State :=
  raise evTbState [⟨16, 1, i⟩, ⟨17, 1, (s.tb i).state.code⟩, ⟨18, 1, previous.code⟩, ⟨19, 1, cause⟩,
    ⟨20, 4, twos 4 (s.tb i).offsetNs⟩] s

/-- A change of state, reported (13 R387). -/
def tbTo (i : Nat) (new : TbState) (cause : Nat) (s : State) : State :=
  let old := (s.tb i).state
  if old = new then s
  else raiseTb i old cause (setTb i (fun b => { b with state := new }) s)

/-- TB0 has started, stopped, stepped or been set: the next boundary realigns (03 R72) (DEDUCED, log 64). -/
def realign (i : Nat) (s : State) : State :=
  if i = 0 then { s with alw := { s.alw with realign := true } } else s

/-- Time bases run in STANDBY to DIAGNOSTIC (05 Table 5-1). -/
def State.tbOn (s : State) (i : Nat) : Bool :=
  (s.tb i).state != .off

/-- The state in which a configuration starts a time base (13 Table 13-1). -/
def startState (c : TimeBaseCfg) : TbState :=
  if c.source = 0 then .free else if c.source = 1 ∧ c.masterOnly then .free else .acquiring

/-- A time base takes a configuration (13 R405). -/
def tbConfigure (i : Nat) (c : TimeBaseCfg) (s : State) : State :=
  let old := s.tbCfg i
  let s1 := { s with cfg := { s.cfg with timeBases := s.cfg.timeBases.set i c } }
  if !c.enable then
    if s.tbOn i then realign i (tbTo i .off 0 (setTb i (fun b => { state := b.state, setEntry := b.setEntry, setTime := b.setTime }) s1))
    else s1
  else if !s.tbOn i then
    realign i (tbTo i (startState c) 0 
      (setTb i (fun b => { state := .off, at_ := s.now, rates := [(s.now, 0)], setEntry := b.setEntry, setTime := b.setTime }) s1))
  else if old.source ≠ c.source ∨ old.masterOnly ≠ c.masterOnly then
    tbTo i (startState c) 0 (setTb i (fun b => { b with goodEdges := 0, lastEdge := none }) (tbSync i s1))
  else s1

/-- Domain numbers of a profile (IEEE 1588-2019; G.8275.1; G.8275.2) (PRESUMED, log 56). -/
def domainOk (profile domain : Nat) : Bool :=
  match profile with
  | 0 => decide (domain ≤ 127)
  | 1 => decide (24 ≤ domain ∧ domain ≤ 43)
  | _ => decide (44 ≤ domain ∧ domain ≤ 63)

/-- TB_CONFIG_SET's parameters (13 Table 13-3, R405). -/
def tbConfigChecks (c : Cmd) : List Check :=
  let on := decide (prmByte c 17 % 2 = 1)
  let role := prmByte c 19
  let profile := prmByte c 20
  [within c 16 1 0 3, reservedBits c 17 1 7, within c 18 1 0 3, within c 19 1 0 2, within c 20 1 0 2,
   reservedBytes c 25 64,
   need 17 (on || prmByte c 17 == 0), need 18 (on || prmByte c 18 == 0),
   need 19 (on || role == 0), need 19 (decide (prmByte c 18 = 1) == decide (role = 1)),
   need 20 (on || profile == 0), need 20 (decide (role ≠ 0) || profile == 0),
   need 21 (if on then domainOk profile (prmByte c 21) else prmByte c 21 == 0),
   need 22 (prmByte c 22 == 0 || (on && profile == 0)), need 23 (on || prmByte c 23 == 0),
   need 24 (if on && profile != 0 then prmByte c 24 != 0 else prmByte c 24 == 0)]

def tbConfigOf (c : Cmd) : TimeBaseCfg :=
  { enable := (prmByte c 17).testBit 0, slaveOnly := (prmByte c 17).testBit 1, masterOnly := (prmByte c 17).testBit 2,
    source := prmByte c 18, role := prmByte c 19, profile := prmByte c 20, domain := prmByte c 21,
    priority1 := prmByte c 22, priority2 := prmByte c 23, localPriority := prmByte c 24 }

/-- A TIMED queue, an enabled PPS output or an enabled PTP port names the time base (13 Table 13-9). -/
def State.tbNamed (s : State) (i : Nat) : Bool :=
  (s.cfg.launch.any fun q => q.timed && q.tb == i)
  || ((s.cfg.pps.take 4).any fun p => p.enable && p.tb == i)
  || (s.cfg.ptpPorts.any fun p => p.enable && p.tb == i)

/-- TB_CONFIG_SET (13 R405, R412). -/
def tbConfigSetBegin (e : Entry) (s : State) : State :=
  checked e runModes (tbConfigChecks e.cmd)
    (fun s =>
      let i := prmByte e.cmd 16
      let new := tbConfigOf e.cmd
      let old := s.tbCfg i
      if (!new.enable || new.role != old.role) && s.tbNamed i then finish e stDenied [] s
      else finish e stDone [] (tbConfigure i new s)) s

def tbObject (c : Cmd) : List Obj := [.timeBase (prmByte c 16)]

def execTbConfigSet (src : Source) (c : Cmd) (s : State) : Host.Outcome State Fault Refusal :=
  .next (takeCommand .tbConfigSet src c (tbObject c) tbConfigSetBegin s)

/-- A 12-byte time parameter is well formed: NANOSECONDS at most 999,999,999 (13 R406). -/
def timeOk (f : Nat) : Bool :=
  decide (bitsOf f 16 32 ≤ 999999999)

/-- TB_ADJUST's parameters (13 Table 13-4). -/
def tbAdjustChecks (c : Cmd) : List Check :=
  let op := prmByte c 17
  [within c 16 1 0 3, within c 17 1 0 2, reservedBytes c 18 20,
   need 20 (decide (-1024000000 ≤ prmInt c 20 4) && decide (prmInt c 20 4 ≤ 1024000000)),
   need 32 (timeOk (prm c 32 12)), reservedBytes c 44 64,
   need 20 (op == 0 || prm c 20 4 == 0), need 24 (op == 1 || prm c 24 8 == 0), need 32 (op == 2 || prm c 32 12 == 0)]

/-- The RESULT of TB_ADJUST and the instant it names (13 R406). -/
def timeResult (v : Nat) : List Fld :=
  [⟨8, 12, timeField v⟩]

/-- The packets queued on a time base that now reads `value`: their launch times stand, and one that lies less than 2 µs ahead or in
the past is late (13 R415). -/
def lateAfterJump (i value : Nat) (s : State) : State :=
  { s with launch := { s.launch with queues := s.launch.queues.mapIdx fun k q =>
      let c := s.cfg.launch.getD k {}
      if c.timed && c.tb == i then
        { q with packets := q.packets.map fun p => { p with late := p.late || decide (p.launch < value + 2000 * 65536) } }
      else q } }

/-- A step or set of a time base, at one island clock (13 R388). -/
def tbJump (i value : Nat) (s : State) : State :=
  let s1 := lateAfterJump i value (setTb i (fun b => { b with value := value }) (tbSync i s))
  realign i (raiseTb i (s1.tb i).state 3 (count (tbCtr i 0) s1))

/-- TB_ADJUST (13 R406, R412). A step beyond either end of the 48 bits of SECONDS wraps (DESIGN CHOICE, log 104). -/
def tbAdjustBegin (e : Entry) (s : State) : State :=
  let c := e.cmd
  checked e runModes (tbAdjustChecks c)
    (fun s =>
      let i := prmByte c 16
      let op := prmByte c 17
      let source := (s.tbCfg i).source
      let before := s.tbValue i
      if !s.tbOn i || source == 1 then finish e stDenied [] s
      else if source = 0 then
        match op with
        | 0 => finish e stDone (timeResult before)
            (setTb i (fun b => b.withRate s.now (prmInt c 20 4)) (tbSync i s))
        | 1 => finish e stDone (timeResult before) (tbJump i (((before : Int) + prmInt c 24 8) % (2 ^ 48 * tbSecond : Nat)).toNat s)
        | _ => finish e stDone (timeResult before) (tbJump i (fieldTime (prm c 32 12)) s)
      else if op = 2 ∧ prm c 32 12 % 2 ^ 48 = 0 then
        setTb i (fun b => { b with setEntry := some e.id, setTime := fieldTime (prm c 32 12) })
          (setEntry e.id (fun x => { x with aux := [s.now] }) s)
      else finish e stDenied [] s) s

def execTbAdjust (src : Source) (c : Cmd) (s : State) : Host.Outcome State Fault Refusal :=
  .next (takeCommand .tbAdjust src c (tbObject c) tbAdjustBegin s)

/-- TB_ADJUST_TIMEOUT: no accepted edge within 1.5 s of a PPS SET (13 Table 13-9). -/
def execTbAdjustTimeout (tb : Fin 4) (s : State) : Host.Outcome State Fault Refusal :=
  .next <|
    match (s.tb tb.val).setEntry.bind s.entry with
    | some e => finish e stTimeout []
        (setTb tb.val (fun b => { b with setEntry := none }) (advance (e.aux.headD 0 + 1500000000) s))
    | none => s

/-- TB_TIME_GET (13 R407). -/
def tbTimeGetBegin (e : Entry) (s : State) : State :=
  let i := prmByte e.cmd 16
  checked e runModes [within e.cmd 16 1 0 3, reservedBytes e.cmd 17 64]
    (fun s => finish e stDone [⟨8, 12, timeField (s.tbValue i)⟩, ⟨20, 1, (s.tb i).state.code⟩,
      ⟨21, 1, (s.tbCfg i).source⟩, ⟨22, 4, twos 4 (s.tb i).rate⟩] s) s

def execTbTimeGet (src : Source) (c : Cmd) (s : State) : Host.Outcome State Fault Refusal :=
  .next (takeCommand .tbTimeGet src c (tbObject c) tbTimeGetBegin s)

/-- PPS_SET's parameters (13 Table 13-5, R408). -/
def ppsChecks (c : Cmd) : List Check :=
  let out := decide (prmByte c 16 ≤ 3)
  let offset := prmInt c 20 4
  [within c 16 1 0 5, reservedBits c 17 1 3, within c 18 1 0 3, reservedBytes c 19 20,
   need 20 (decide (-500000000 ≤ offset) && decide (offset ≤ 499999999)),
   need 24 (prm c 24 4 == 0 || decide (100 ≤ prm c 24 4 ∧ prm c 24 4 ≤ 500000000)), reservedBytes c 28 64,
   need 17 (!out || !(prmByte c 17).testBit 1), need 18 (out || prmByte c 18 == 0), need 20 (out || prm c 20 4 == 0),
   need 24 (if out then prm c 24 4 != 0 else prm c 24 4 == 0)]

/-- PPS_SET (13 R408, R412). -/
def ppsSetBegin (e : Entry) (s : State) : State :=
  let c := e.cmd
  checked e runModes (ppsChecks c)
    (fun s =>
      let pin := prmByte c 16
      let new : PpsCfg := { enable := (prmByte c 17).testBit 0, falling := (prmByte c 17).testBit 1, tb := prmByte c 18,
                            offsetNs := prmInt c 20 4, widthNs := prm c 24 4 }
      if decide (pin ≤ 3) && new.enable && !s.tbOn new.tb then finish e stDenied [] s
      else finish e stDone [] { s with cfg := { s.cfg with pps := s.cfg.pps.set pin new } }) s

def ppsObject (c : Cmd) : List Obj := [.pps (prmByte c 16)]

def execPpsSet (src : Source) (c : Cmd) (s : State) : Host.Outcome State Fault Refusal :=
  .next (takeCommand .ppsSet src c (ppsObject c) ppsSetBegin s)

/-- The model's ns until a time base of a rate has advanced `ns` (13 R385). -/
def tbDelay (ns : Nat) (rate : Int) : Nat :=
  ((((ns : Int) * 1024000000000 + (1024000000000 + rate) - 1) / (1024000000000 + rate))).toNat

/-- PPS_OUT_EDGE: the time base crosses its next whole second plus OFFSET_NS (13 R389). -/
def execPpsOutEdge (pin : Fin 4) (s : State) : Host.Outcome State Fault Refusal :=
  .next <|
    let p := s.cfg.pps.getD pin.val {}
    if !p.enable || !s.tbOn p.tb then s
    else
      let ns : Int := (s.tbValue p.tb / 65536 : Nat)
      let away := ((p.offsetNs - ns - 1) % 1000000000 + 1).toNat
      let s1 := advance (s.now + tbDelay away (s.tb p.tb).rate) s
      let high := s1.now + tbDelay p.widthNs (s1.tb p.tb).rate
      { s1 with time := { s1.time with ppsPulses := upd s1.time.ppsPulses pin.val (· + 1),
                                       ppsUntil := s1.time.ppsUntil.set pin.val high } }

/-- The level of an enabled PPS output: high for WIDTH_NS after each edge (13 R389). -/
def State.ppsHigh (s : State) (pin : Nat) : Bool :=
  decide (s.now < s.time.ppsUntil.getD pin 0)

/-- The signed distance of a value from its nearest whole second, in ns. -/
def secondOffset (v : Nat) : Int :=
  let ns := v / 65536 % 1000000000
  if ns < 500000000 then (ns : Int) else (ns : Int) - 1000000000

/-- A rate that a servo chooses: within ±1,000 ppm, and not otherwise stated (13 R385, R390) (PRESUMED, log 56). -/
def State.servoRate (s : State) (site : Nat) : Int :=
  (s.freeAt site % 2048000001 : Nat) - 1024000000

/-- An accepted edge on a time base that its pin disciplines (13 R387, R390, R406). -/
def ppsDiscipline (i : Nat) (s : State) : State :=
  let b := s.tb i
  let off := secondOffset (s.tbValue i)
  let good := if off.natAbs ≤ 50 then b.goodEdges + 1 else 0
  let s1 := drawn (setTb i (fun b => { b.withRate s.now (s.servoRate 10) with offsetNs := off, goodEdges := good,
                                                                              lastEdge := some s.now }) (tbSync i s))
  let s2 := match b.setEntry.bind s.entry with
    | some e =>
      let before := s.tbValue i
      finish e stDone (timeResult before)
        (tbJump i b.setTime (setTb i (fun b => { b with setEntry := none, goodEdges := 0 }) s1))
    | none => s1
  match b.state with
  | .acquiring => if 10 ≤ good then tbTo i .locked 1 s2 else s2
  | .locked => if good = 0 then tbTo i .acquiring 2 s2 else s2
  | .holdover => tbTo i .acquiring 1 s2
  | _ => s2

/-- PPS_IN_EDGE (13 R390). -/
def execPpsInEdge (pin : Fin 2) (falling : Bool) (widthNs : Nat) (s : State) : Host.Outcome State Fault Refusal :=
  .next <|
    let p := s.cfg.pps.getD (4 + pin.val) {}
    if !p.enable || p.falling != falling || !s.running then s
    else
      let last := s.time.pinLastEdge.getD pin.val none
      let near := match last with | some t => decide (s.now < t + 500000000) | none => false
      let each (f : Nat → State → State) (s : State) : State :=
        (List.range 4).foldl (fun st i => if st.tbOn i then f i st else st) s
      if near || decide (widthNs < 100) then each (fun i st => count (tbCtr i 3) st) s
      else
        let s1 := each (fun i st => count (tbCtr i 2) st)
          { s with time := { s.time with pinLastEdge := s.time.pinLastEdge.set pin.val (some s.now) } }
        each (fun i st => if (st.tbCfg i).source = 2 + pin.val then ppsDiscipline i st else st) s1

/-- A disciplined time base loses its source: HOLDOVER, with the rate held at its mean over the last 60 s (13 R387). -/
def tbLose (i : Nat) (s : State) : State :=
  let st := (s.tb i).state
  if st = .acquiring ∨ st = .locked then
    let s1 := setTb i (fun b => { b.withRate s.now (b.meanRate s.now) with goodEdges := 0 }) (tbSync i s)
    tbTo i .holdover 2 (count (tbCtr i 1) s1)
  else s

/-- PPS_TIMEOUT: no edge for 1.5 s (13 R387). -/
def execPpsTimeout (tb : Fin 4) (s : State) : Host.Outcome State Fault Refusal :=
  .next <|
    let b := s.tb tb.val
    if (s.tbCfg tb.val).source < 2 then s
    else tbLose tb.val (match b.lastEdge with | some t => advance (t + 1500000000) s | none => s)

/-- PTP_SOURCE_TIMEOUT (13 R387). -/
def execPtpSourceTimeout (tb : Fin 4) (s : State) : Host.Outcome State Fault Refusal :=
  .next (if (s.tbCfg tb.val).source = 1 then tbLose tb.val s else s)

/-- CLK_MODE selects TBREF (04 Table 4-5). -/
def State.usesTbref (s : State) : Bool :=
  s.boot.straps.clkMode = 1 || s.boot.straps.clkMode = 2

/-- The island's reference changes: TB_STATE for every enabled time base, and no step (13 R386, R413). -/
def referenceMove (toTbref : Bool) (s : State) : State :=
  let s1 := { s with time := { s.time with onTbref := toTbref } }
  let s2 := if toTbref then s1 else count ⟨6, 12, 10, 0⟩ s1
  (List.range 4).foldl (fun st i =>
    if st.tbOn i then raiseTb i (st.tb i).state (if toTbref then 5 else 4) st else st) s2

/-- TBREF_STARTUP_TIMEOUT: TBREF is not usable 10 ms after option loading (13 R386); the island then locks on REFCLK,
which ISLAND_PLL_LOCK reports (DESIGN CHOICE, log 3). -/
def execTbrefStartupTimeout (s : State) : Host.Outcome State Fault Refusal :=
  .next <|
    if s.usesTbref && !s.power.timeBaseReleased && s.time.onTbref then referenceMove false s else s

/-- TBREF_LOSS (13 R386). -/
def execTbrefLoss (s : State) : Host.Outcome State Fault Refusal :=
  .next <|
    let s1 := { s with tele := { s.tele with tbref := false }, time := { s.time with tbrefBackSince := none } }
    if s.power.timeBaseReleased && s.time.onTbref then referenceMove false (advance (s.now + 10000) s1) else s1

/-- TBREF_RESTORE: TBREF present and in range for 1 s (13 R386). -/
def execTbrefRestore (s : State) : Host.Outcome State Fault Refusal :=
  .next <|
    if s.usesTbref && s.power.timeBaseReleased && !s.time.onTbref then
      let s1 := match s.time.tbrefBackSince with | some t => advance (t + 1000000000) s | none => s
      referenceMove true { s1 with tele := { s1.tele with tbref := true } }
    else s

end Sys2Proof.Machine
end

