-- ==== Sys2Proof/Machine/LaneOps.lean ====
section
/-!
DEFINITION. The states of the lanes (14 R424 to R432), the board table of a T-lane, and LANE_STATE (14 R447).
-/
namespace Sys2Proof.Machine

def State.lane (s : State) (l : Nat) : Lane :=
  s.lanes.lanes.getD l {}

def setLane (l : Nat) (f : Lane → Lane) (s : State) : State :=
  { s with lanes := { s.lanes with lanes := upd s.lanes.lanes l f } }

def State.laneCfg (s : State) (l : Nat) : LaneCfg :=
  s.cfg.lanes.getD l {}

/-- Codes of the lane states (14 Table 14-3). -/
def LaneStateCode.code : LaneStateCode → Nat
  | .off => 0
  | .training => 1
  | .ready => 2
  | .test => 3
  | .fault => 4

/-- LANE_STATE (14 R447). -/
def raiseLane (l : Nat) (previous : LaneStateCode) (cause : Nat) (s : State) : State :=
  let x := s.lane l
  raise evLaneState [⟨16, 1, l⟩, ⟨17, 1, x.state.code⟩, ⟨18, 1, previous.code⟩, ⟨19, 1, cause⟩,
    ⟨20, 1, bit x.polarityInverted + 2 * bit x.mapReversed⟩, ⟨21, 1, x.eqSource⟩] s

/-- A lane that carries its port or link, or a test (14 R434). -/
def scannable (x : LaneStateCode) : Bool :=
  x == .ready || x == .test

/-- A scan of a lane that leaves READY and TEST goes no further (14 R446). -/
def breakScans (l : Nat) (s : State) : State :=
  { s with lanes := { s.lanes with scans := s.lanes.scans.map fun x => if x.lane = l then { x with broken := true } else x } }

/-- A change of lane state, reported (14 R447). -/
def laneTo (l : Nat) (new : LaneStateCode) (cause : Nat) (s : State) : State :=
  let old := (s.lane l).state
  if old = new then s
  else
    let s1 := setLane l (fun x => { x with state := new }) s
    raiseLane l old cause (if scannable new then s1 else breakScans l s1)

/-- A word of the board table of a T-lane index (14 R425, 17 Table 17-2). -/
def tableWord (tLane w : Nat) : Nat :=
  1024 + 4 * tLane + w

/-- The fields of a T-lane's words are in range (14 Table 14-2). -/
def tableOk (w0 w1 w2 w3 : Nat) : Bool :=
  let main := bitsOf w0 0 6
  let pre := bitsOf w0 8 4
  let post := bitsOf w0 16 5
  w0.testBit 31 && decide (w0 &&& 0x70E0F0C0 = 0) && decide (16 ≤ main) && decide (pre + main + post ≤ 63)
    && decide (w1 < 4294967296) && decide (w2 / 16777216 = 0) && decide (bitsOf w2 16 8 ≤ 3) && decide (w3 = 1)

/-- The trims that a lane takes at the start of its bring-up (17 R521, Table 17-3 targets 61 to 140). -/
def loadTrims (l : Nat) (s : State) : State :=
  setLane l (fun x => { x with termTrim := s.calEffective (61 + l), swingTrim := s.calEffective (101 + l) }) s

/-- The equalisation that a lane takes at the start of its bring-up (14 R424 to R426, R439): the defaults also when a write
of its table has failed (14 Table 14-9) (DESIGN CHOICE, log 77; DEDUCED, log 108). -/
def loadEqualisation (l : Nat) (s : State) : State :=
  if l < 8 then
    let c := s.laneCfg l
    setLane l (fun x => { x with txMain := c.txMain, txPre := c.txPre, txPost := c.txPost, ctle := 0,
                                 dfe := List.replicate 12 0,
                                 eqSource := if c.txMain = 54 ∧ c.txPre = 3 ∧ c.txPost = 6 then 0 else 2 }) s
  else
    let w (k : Nat) := (s.word (tableWord (l - 8) k)).toNat
    let failed := (List.range 4).any fun k => decide (tableWord (l - 8) k ∈ s.ledger.failed)
    if !failed && tableOk (w 0) (w 1) (w 2) (w 3) then
      let tap (k : Nat) := signed 8 (if k < 4 then bitsOf (w 1) (8 * k) 8 else bitsOf (w 2) 0 8)
      setLane l (fun x => { x with txMain := bitsOf (w 0) 0 6, txPre := bitsOf (w 0) 8 4, txPost := bitsOf (w 0) 16 5,
                                   ctle := bitsOf (w 0) 24 4, dfe := (List.range 5).map tap, cdrBw := bitsOf (w 2) 16 8,
                                   vrefOfs := signed 8 (bitsOf (w 2) 8 8), eqSource := 1 }) s
    else
      let s1 := setLane l (fun x => { x with txMain := 48, txPre := 2, txPost := 6, ctle := 6,
                                             dfe := List.replicate 5 0, cdrBw := 1, vrefOfs := 0, eqSource := 0 }) s
      if !failed && w 0 == 0 && w 1 == 0 && w 2 == 0 && w 3 == 0 then s1 else count (laneCtr l 6) s1

/-- A lane starts its bring-up (14 R429, R430; 17 R521): what an earlier one found is forgotten. -/
def laneBringup (l cause : Nat) (s : State) : State :=
  let c := s.laneCfg l
  let s1 := loadEqualisation l (loadTrims l (setLane l (fun x =>
    { x with cdrLocked := false, aligned := false, blockLockAt := none, polarityDone := false,
             polarityInverted := c.rxPolarityFixed && c.rxInvert, mapReversed := false, laneId := 0 }) s))
  laneTo l .training cause s1

/-- A lane goes OFF (DEDUCED, log 66). -/
def laneOff (l cause : Nat) (s : State) : State :=
  laneTo l .off cause (setLane l (fun x => { x with cdrLocked := false, aligned := false, blockLockAt := none }) s)

/-- A test of any kind holds the lane (14 R435, R437). -/
def Lane.tested (x : Lane) : Bool :=
  x.loop != 0 || x.prbsGen != 0 || x.checkerRunning

/-- Every test of a lane ends, its checker's record with it (14 R438, R455). -/
def clearTests (l : Nat) (s : State) : State :=
  setLane l (fun x => { x with loop := 0, prbsGen := 0, checker := 0, checkerRunning := false, checkerStarted := false,
                               checkerLocked := false, injectInterval := 0 }) s

/-- The taps of an adapting M-lane are whatever adaptation has found; a frozen lane keeps them (14 R424)
(DESIGN CHOICE, log 77). -/
def adaptDraw (l : Nat) (s : State) : State :=
  if l < 8 ∧ !(s.laneCfg l).adaptFreeze ∧ (s.lane l).cdrLocked then
    let tap (k : Nat) : Int := signed 8 (s.freeAt (if k < 5 then 21 + k else 138 + k))
    drawn (setLane l (fun x => { x with ctle := s.freeAt 20 % 16, dfe := (List.range 12).map tap }) s)
  else s

/-- The lane of a T-lane index; the link and position of a T-lane. -/
def tLane (i : Nat) : Nat := 8 + i
def linkOfLane (l : Nat) : Nat := (l - 8) / 8
def laneOfLink (k j : Nat) : Nat := 8 + 8 * k + j

/-- A T-lane that the retirement map holds out (16 R500, Table 16-2). -/
def State.laneRetired (s : State) (l : Nat) : Bool :=
  (s.lane l).retired

def State.port (s : State) (p : Nat) : Port :=
  s.ports.getD p {}

def setPort (p : Nat) (f : Port → Port) (s : State) : State :=
  { s with ports := upd s.ports p f }

def State.portCfg (s : State) (p : Nat) : PortCfg :=
  s.cfg.ports.getD p {}

end Sys2Proof.Machine
end

