-- ==== Sys2Proof/Machine/Ptp.lean ====
section
/-!
DEFINITION. PTP frames (13 R391 to R397): the latencies that the time-stamps are corrected by, what the time-base unit writes into a
message as it leaves, and the messages of an ordinary clock.
-/
namespace Sys2Proof.Machine

/-- What the user offset of a media lane's latency shifts a stamp by, in 1/65,536 ns (13 R391; 17 R521, Table 17-3); `dir` is 0 for
receive and 1 for transmit. The factory value is taken as the lane's true latency (DESIGN CHOICE, log 105). -/
def State.latencyShift (s : State) (port dir : Nat) : Int :=
  let c := s.portCfg port
  let target := 6 * port + 2 * (if c.speed = 0 then 0 else if c.fec then 2 else 1) + dir
  (s.calEffective target - clampInt 0 65535 (Config.factoryCal target)) * 4096

/-- The step-free stamp of a frame received now on a port (13 R388, R391). -/
def State.rxStamp (s : State) (port tb : Nat) : Nat :=
  ((s.tbShadow tb : Int) - s.latencyShift port 0).toNat

/-- The value that is written as the transmit time of a frame sent now on a port (13 R391, R392). -/
def State.txTime (s : State) (port tb : Nat) : Nat :=
  ((s.tbValue tb : Int) + s.latencyShift port 1).toNat

/-- Bytes replaced from an offset on. -/
def putBytes (b : List Byte) (offset : Nat) (new : List Byte) : List Byte :=
  b.take offset ++ new ++ b.drop (offset + new.length)

/-- correctionField after a residence in 1/65,536 ns, saturated (13 R396). -/
def corrected (message : List Byte) (offset residence : Nat) : List Byte :=
  let old := signed 64 (be message (offset + 8) 8)
  putBytes message (offset + 8) (netBytes 8 (twos 8 (min (old + residence) 0x7FFFFFFFFFFFFFFF)))

/-- The UDP checksum over IPv6 of a datagram whose header lies at `o`, behind the 40 bytes of its IP header. -/
def udp6Checksum (b : List Byte) (o : Nat) : Nat :=
  let d := putBytes (b.drop o) 6 [0, 0]
  let sum := fold16 (sum16 ((b.drop (o - 32)).take 32) + 17 + be b (o + 4) 2 + sum16 (d.take (be b (o + 4) 2)))
  if sum = 65535 then 65535 else 65535 - sum

/-- The UDP checksum of a changed PTP message: zero over IPv4, brought up to date over IPv6 (13 R396). -/
def ptpChecksum (transport offset : Nat) (b : List Byte) : List Byte :=
  if transport = 0 then b
  else if transport = 1 then putBytes b (offset - 2) [0, 0]
  else putBytes b (offset - 2) (netBytes 2 (udp6Checksum b (offset - 8)))

/-- The frame as the time-base unit sends it now (13 R392, R396, R397): the residence of a forwarded event message, or the transmit
time of an own one in its originTimestamp; then the FCS. -/
def State.ptpFrame (s : State) (w : PtpWaiting) : List Byte :=
  let body :=
    if !w.isEvent then w.frame
    else if w.own then
      let t := s.txTime w.port w.tb
      ptpChecksum w.transport w.offset
        (putBytes w.frame (w.offset + 34) (netBytes 6 (t / tbSecond) ++ netBytes 4 (t % tbSecond / 65536)))
    else
      let own := ((s.tbShadow w.tb : Int) + s.latencyShift w.port 1 - w.ingressShadow).toNat
      ptpChecksum w.transport w.offset (corrected w.frame w.offset (w.residence + own))
  let padded := body ++ List.replicate (60 - body.length) 0
  padded ++ natBytes 4 (crc32 padded)

/-- The clockIdentity of an ordinary clock (13 R394). -/
def clockIdentity (tb : Nat) : Nat :=
  Config.serial.toNat / 4 * 4 + tb

/-- A PTP message of an ordinary clock (13 R394): its header, as IEEE 1588-2019 lays it out, and a body whose bytes are free values
(PRESUMED, log 56). -/
def State.ownMessage (s : State) (tb type : Nat) : List Byte :=
  let n := 44 + s.freeAt 33 % 64
  netBytes 1 type ++ netBytes 1 (16 * (s.freeAt 151 % 2) + 2) ++ netBytes 2 n ++ netBytes 1 (s.tbCfg tb).domain ++ [0]
    ++ netBytes 2 (s.freeAt 152) ++ netBytes 12 0 ++ netBytes 8 (clockIdentity tb) ++ netBytes 2 1 ++ netBytes 2 (s.freeAt 153)
    ++ netBytes 2 (s.freeAt 154) ++ netBytes (n - 34) (s.freeAt 155)

/-- A tag of a PTP port's frames (13 Table 13-6; 11 Table 11-1; 12 R366). -/
def tagBytes (tpid : Nat) (tag : BitVec 16) : List Byte :=
  if tag.getLsbD 12 then netBytes 2 tpid ++ netBytes 2 (tag.toNat / 8192 * 8192 + tag.toNat % 4096) else []

/-- An IPv4 header without options, with its checksum. -/
def ip4Head (dscp ttl length source dest : Nat) : List Byte :=
  let head (sum : Nat) := netBytes 1 0x45 ++ netBytes 1 (4 * dscp) ++ netBytes 2 length ++ netBytes 4 0 ++ netBytes 1 ttl
    ++ netBytes 1 17 ++ netBytes 2 sum ++ netBytes 4 source ++ netBytes 4 dest
  head (65535 - fold16 (sum16 (head 0)))

def ip6Head (dscp hops length source dest : Nat) : List Byte :=
  netBytes 4 (0x60000000 + dscp * 4194304) ++ netBytes 2 length ++ netBytes 1 17 ++ netBytes 1 hops ++ netBytes 16 source
    ++ netBytes 16 dest

/-- An own message in the frame of its PTP port, less the FCS, with the offset of the message (13 R394, R409; 12 R368): to the
multicast address of the transport, or to PEER_IP (PRESUMED, log 56). -/
def State.ownFrame (s : State) (port : Nat) (event : Bool) (message : List Byte) : List Byte × Nat :=
  let c := s.cfg.ptpPorts.getD port {}
  let p := s.portCfg port
  let da := if c.transport = 0 then (if c.nonForward then 0x0180C200000E else 0x011B19000000) else c.nextHopMac.toNat
  let mac := netBytes 6 da ++ netBytes 6 p.mac.toNat ++ tagBytes (if p.outer88a8 then 0x88A8 else 0x8100) c.outerTag
    ++ tagBytes 0x8100 c.innerTag
  let udpPort := if event then 319 else 320
  let udp := netBytes 2 udpPort ++ netBytes 2 udpPort ++ netBytes 2 (message.length + 8) ++ [0, 0]
  let peer := c.peerIp.toNat
  let head := match c.transport with
    | 0 => mac ++ netBytes 2 0x88F7
    | 1 => mac ++ netBytes 2 0x0800
        ++ ip4Head c.dscp c.hopLimit (message.length + 28) (c.localIp.toNat / 2 ^ 96) (if peer = 0 then 0xE0000181 else peer / 2 ^ 96)
        ++ udp
    | _ => mac ++ netBytes 2 0x86DD
        ++ ip6Head c.dscp c.hopLimit (message.length + 8) c.localIp.toNat
            (if peer = 0 then 0xFF0E0000000000000000000000000181 else peer) ++ udp
  let frame := head ++ message
  (if c.transport = 2 then ptpChecksum 2 head.length frame else frame, head.length)

end Sys2Proof.Machine
end

