-- ==== Sys2Proof/Machine/Sessions.lean ====
section
/-!
DEFINITION. Sessions (11 R325 to R332, R343 to R346, R350): the home table, its keys and buckets, the cache, the
Teller's queue, latching, and the session commands.
-/
namespace Sys2Proof.Machine

/-- A key of the session table (11 R325): PRESENT and VID of each tag, IP version, address, port. -/
structure SessionKey where
  outer : Nat
  inner : Nat
  ipv6 : Bool
  ip : Nat
  port : Nat
deriving DecidableEq, Repr

/-- The key hash of a session (15 R470). -/
def SessionKey.hash (k : SessionKey) : Nat :=
  crc32c (natBytes 2 (k.outer % 8192) ++ natBytes 2 (k.inner % 8192) ++ [BitVec.ofNat 8 (bit k.ipv6)]
    ++ (natBytes 16 k.ip).reverse ++ natBytes 2 (k.port / 2 * 2))

/-- The key hash of a station (15 R470). -/
def stationHash (k : StationKey) : Nat :=
  crc32c (natBytes 2 k.vid.toNat ++ (natBytes 6 k.mac.toNat).reverse)

/-- The device that the home map names for a hash (15 R457, R471); with no view in force, this device. -/
def State.homeOf (s : State) (hash : Nat) : Nat :=
  match s.cluster.view with
  | some v => v.homeMap.getD (hash / 16777216 % 256) s.node
  | none => s.node

/-- PRESENT and VID of a TAG field, as the key uses them (11 R325, Table 11-1). -/
def keyTag (tag : Nat) : Nat :=
  tag % 8192

/-- The key of an entry. -/
def Session.key (x : Session) : SessionKey :=
  { outer := keyTag x.outerTag.toNat, inner := keyTag x.innerTag.toNat, ipv6 := x.flags.getLsbD 0,
    ip := x.localIp.toNat, port := x.localPort.toNat }

/-- FLAGS bits of an entry (11 Table 11-1). -/
def flagProtected (f : Byte) : Bool := f.getLsbD 1
def flagRtcpMux (f : Byte) : Bool := f.getLsbD 2
def flagUdptl (f : Byte) : Bool := f.getLsbD 3
def flagExplicit (f : Byte) : Bool := f.getLsbD 6
/-- (DEDUCED, log 54) -/
def latchPolicy (f : Byte) : Nat := bitsOf f.toNat 4 2

/-- An entry has an RTCP alias (11 R325). -/
def needsAlias (f : Byte) : Bool :=
  !flagRtcpMux f && !flagUdptl f

/-- The handle of an entry (11 R327). -/
def State.handleOf (s : State) (x : Session) : Nat :=
  x.generation * 33554432 + s.node * 2097152 + x.index

/-- The home node and the index that a handle names (11 R327). -/
def handleNode (h : Nat) : Nat := bitsOf h 21 4
def handleIndex (h : Nat) : Nat := bitsOf h 0 21
def handleGen (h : Nat) : Nat := bitsOf h 25 7

/-- The entry that a handle names here: right node, index and generation (11 R327). -/
def State.session (s : State) (h : Nat) : Option Session :=
  if handleNode h = s.node then
    s.tables.sessions.find? fun x => x.index == handleIndex h && x.generation == handleGen h
  else none

/-- An entry or its alias holds the key (11 R325). -/
def Session.holds (x : Session) (k : SessionKey) : Bool :=
  x.key == k || (x.aliasIndex.isSome && { x.key with port := x.key.port + 1 } == k)

/-- The entry that a key finds (11 R326). -/
def State.sessionByKey (s : State) (k : SessionKey) : Option Session :=
  s.tables.sessions.find? fun x => x.holds k

def setSession (index : Nat) (f : Session → Session) (s : State) : State :=
  { s with tables := { s.tables with sessions := s.tables.sessions.map fun x => if x.index = index then f x else x } }

/-- The free places of the four buckets that a hash names, in probe order (11 R326). -/
def State.freePlaces (s : State) (hash : Nat) : List Nat :=
  (List.range 32).filterMap fun k =>
    let place := ((hash % 262144 + k / 8) % 262144) * 8 + k % 8
    if s.tables.sessions.any fun x => x.index == place || x.aliasIndex == some place then none else some place

/-- The entries held by the table, aliases included. -/
def State.sessionEntries (s : State) : Nat :=
  s.tables.sessions.foldl (fun n x => n + 1 + bit x.aliasIndex.isSome) 0

/-- A probe of the cache: a hit moves the entry to the front of its set; a miss installs it over the least recently hit
way and counts (11 R328). -/
def cacheProbe (hash index : Nat) (s : State) : State :=
  let set := hash % 8192
  let ways := sget [] s.tables.cache set
  let ways' := (index :: ways.filter fun i => i != index).take 8
  let s1 := { s with tables := { s.tables with cache := sset [] s.tables.cache set ways' } }
  if index ∈ ways then s1 else count (devCtr 29) s1

/-- An entry leaves the cache with the table (11 R328). -/
def cacheDrop (hash index : Nat) (s : State) : State :=
  let set := hash % 8192
  let ways := sget [] s.tables.cache set
  { s with tables := { s.tables with cache := sset [] s.tables.cache set (ways.filter fun i => i != index) } }

/-- A leg of a channel, and the channel with one leg changed. -/
def Channel.legOf (ch : Channel) : Leg → LegState
  | .a => ch.legA
  | .b => ch.legB

def Channel.withLeg (ch : Channel) (l : Leg) (f : LegState → LegState) : Channel :=
  match l with
  | .a => { ch with legA := f ch.legA }
  | .b => { ch with legB := f ch.legB }

def legNum : Leg → Nat
  | .a => 0
  | .b => 1

def State.channel (s : State) (id : Nat) : Option Channel :=
  s.voice.channels.find? fun ch => ch.id == id

def setChannel (id : Nat) (f : Channel → Channel) (s : State) : State :=
  { s with voice := { s.voice with channels := s.voice.channels.map fun ch => if ch.id = id then f ch else ch } }

def setLeg (id : Nat) (l : Leg) (f : LegState → LegState) (s : State) : State :=
  setChannel id (fun ch => ch.withLeg l f) s

/-- What another device is told of an entry (11 R330, R334). -/
def State.copyOf (s : State) (x : Session) : SessionCopy :=
  { handle := BitVec.ofNat 32 (s.handleOf x), flags := x.flags, epoch := x.epoch, outerTag := x.outerTag, innerTag := x.innerTag,
    localIp := x.localIp, localPort := x.localPort,
    remote := if x.state = 0 then none else some (x.remoteIp, x.remotePort), nextHopMac := x.nextHopMac,
    egressPort := x.egressPort, egressNode := x.egressNode, dscp := x.dscp, hopLimit := x.hopLimit, launchQueue := x.launchQueue }

/-- The entry of a handle as this device knows it: its own, or among those that its homes have sent. -/
def State.sessionCopy (s : State) (h : Nat) (sent : List SessionCopy) : Option SessionCopy :=
  match s.session h with
  | some x => some (s.copyOf x)
  | none => sent.find? fun c => c.handle.toNat == h

/-- A leg's session entry as this device knows it (11 R330, R334). -/
def State.entryOf (s : State) (l : LegState) : Option SessionCopy :=
  s.sessionCopy l.session.toNat l.copy.toList

/-- The channel leg on this device that a handle is bound to. -/
def State.boundLeg (s : State) (h : Nat) : Option (Channel × Leg) :=
  s.voice.channels.findSome? fun ch =>
    if ch.legA.session.toNat = h then some (ch, Leg.a)
    else if ch.legB.session.toNat = h ∧ h ≠ 0 then some (ch, Leg.b)
    else none

/-- Every handle-bound leg here takes a change. -/
def onBoundLeg (h : Nat) (f : LegState → LegState) (s : State) : State :=
  match s.boundLeg h with
  | some (ch, l) => setLeg ch.id l f s
  | none => s

/-- SESSION_LATCHED (11 R350) (DEDUCED, log 51). -/
def raiseLatched (h : Nat) (x : Session) (cause : Nat) (s : State) : State :=
  raise evSessionLatched
    [⟨16, 4, h⟩, ⟨20, 4, x.channel⟩, ⟨24, 2, x.remotePort.toNat⟩, ⟨26, 1, bit (x.flags.getLsbD 0) + 2 * cause⟩,
     ⟨27, 4, bytesNat (((natBytes 16 x.remoteIp.toNat).reverse.take (if x.flags.getLsbD 0 then 16 else 4)).reverse.take 4).reverse⟩] s

/-- A stale request is discarded (11 R332, 01 R28). -/
def staleRequest (s : State) : State :=
  count (devCtr 26) s

/-- A latch request commits, or is stale (11 R332, R353) (DEDUCED, log 51). -/
def commitLatch (h : Nat) (epoch : Byte) (ip : BitVec 128) (port : BitVec 16) (s : State) : State :=
  match s.session h with
  | none => staleRequest s
  | some x =>
    if x.epoch ≠ epoch then staleRequest s
    else
      let cause := if x.relatched then 1 else if x.everLatched then 2 else 0
      let y := { x with state := 1, remoteIp := ip, remotePort := port, everLatched := true, relatched := false }
      raiseLatched h y cause (setSession x.index (fun _ => y) s)

/-- A FOLLOW session whose latched address fell silent is unlatched (11 R331). -/
def commitUnlatch (h : Nat) (epoch : Byte) (s : State) : State :=
  match s.session h with
  | none => staleRequest s
  | some x =>
    if x.epoch ≠ epoch then staleRequest s
    else setSession x.index (fun x => { x with state := 0, remoteIp := 0, remotePort := 0 }) s

/-- A channel is bound to a session, or its running device changes (11 R330; 15 R473): an entry bound to another channel stays. -/
def commitBind (h channel : Nat) (l : Leg) (node : Nat) (s : State) : State :=
  match s.session h with
  | none => s
  | some x =>
    if x.channel ≠ 0 ∧ x.channel ≠ channel then s
    else setSession x.index (fun x => { x with runNode := some node, leg := some l, channel := channel }) s

/-- A channel lets its session go (09 R282; 11 R330). -/
def commitRelease (h channel : Nat) (s : State) : State :=
  match s.session h with
  | none => s
  | some x =>
    if x.channel ≠ channel then s
    else setSession x.index (fun x => { x with runNode := none, leg := none, channel := 0 }) s

/-- LAST_RX_PERIOD of an entry (11 Table 11-1); a deleted entry's is stale. -/
def commitAccepted (h period : Nat) (s : State) : State :=
  match s.session h with
  | none => staleRequest s
  | some x => setSession x.index (fun x => { x with lastRxPeriod := max x.lastRxPeriod period }) s

/-- The request is a learning request for a session (01 R28). -/
def latchFor (h : Nat) : TellerRequest → Bool
  | .latch g _ _ _ _ => g.toNat == h
  | .unlatch g _ => g.toNat == h
  | .accepted g _ => g.toNat == h
  | _ => false

/-- A session entry is freed with its alias; the generation advances, and the learning requests that wait behind are
discarded and counted (11 R345, R327; 01 R28) (DEDUCED, log 51). -/
def freeSession (h : Nat) (x : Session) (s : State) : State :=
  let gen := if x.generation = 127 then 1 else x.generation + 1
  let behind := s.tables.teller.filter (latchFor h)
  let s1 := { s with tables := { s.tables with
    sessions := s.tables.sessions.filter fun y => y.index != x.index,
    generations := sset 1 s.tables.generations x.index gen,
    teller := s.tables.teller.filter fun r => !latchFor h r } }
  let hash := x.key.hash
  let s2 := cacheDrop hash x.index (match x.aliasIndex with | some a => cacheDrop hash a s1 | none => s1)
  countBy (devCtr 26) behind.length s2

/-- A DENIED deletion: a channel is bound (11 Table 11-4). -/
def Session.bound (x : Session) : Bool :=
  x.channel != 0

/-- SESSION_ADD's parameters (11 Table 11-3, R349). -/
def sessionAddChecks (c : Cmd) : List Check :=
  let f := prmByte c 16
  let explicit := f.testBit 6
  [need 16 (decide (f < 128) && decide (bitsOf f 4 2 ≤ 2)), within c 17 1 0 7, within c 18 1 0 15, within c 19 1 0 63,
   within c 40 2 1 65535, need 42 (!(prmNet c 42 6).testBit 40), within c 48 1 0 7, within c 49 1 1 255,
   reservedBytes c 50 64,
   need 17 (explicit || prmByte c 17 == 0), need 18 (explicit || prmByte c 18 == 0),
   need 22 (!(prm c 22 2).testBit 12 || (prm c 20 2).testBit 12),
   need 40 (f.testBit 2 || f.testBit 3 || prm c 40 2 % 2 == 0)]

/-- The key that SESSION_ADD names. -/
def sessionAddKey (c : Cmd) : SessionKey :=
  { outer := keyTag (prm c 20 2), inner := keyTag (prm c 22 2), ipv6 := (prmByte c 16).testBit 0,
    ip := prmNet c 24 16, port := prm c 40 2 }

/-- The entry that SESSION_ADD creates (11 R343) (DEDUCED, log 51). -/
def newSession (c : Cmd) (index gen : Nat) (other : Option Nat) : Session :=
  let f := prmByte c 16
  let explicit := f.testBit 6
  { index := index, generation := gen, aliasIndex := other, state := 0, flags := BitVec.ofNat 8 f, runNode := none,
    leg := none, channel := 0, outerTag := BitVec.ofNat 16 (prm c 20 2), innerTag := BitVec.ofNat 16 (prm c 22 2),
    localIp := BitVec.ofNat 128 (prmNet c 24 16), localPort := BitVec.ofNat 16 (prm c 40 2), remotePort := 0,
    remoteIp := 0, nextHopMac := BitVec.ofNat 48 (prmNet c 42 6),
    egressPort := if explicit then prmByte c 17 else 0xFF, egressNode := if explicit then prmByte c 18 else 0xFF,
    dscp := prmByte c 19, hopLimit := prmByte c 49, launchQueue := prmByte c 48, epoch := 0, lastRxPeriod := 0,
    everLatched := false, relatched := false }

/-- An entry joins the table, or the four buckets have no room (11 R326, R343). -/
def addSession (e : Entry) (s : State) : State :=
  let c := e.cmd
  let k := sessionAddKey c
  let f := BitVec.ofNat 8 (prmByte c 16)
  let twin : SessionKey := { k with port := k.port + 1 }
  if (s.sessionByKey k).isSome || (needsAlias f && (s.sessionByKey twin).isSome) then finish e stExists [] s
  else
    let full (s : State) := finish e stNoResource [] (count (devCtr 28) s)
    let put (place : Nat) (other : Option Nat) (s : State) :=
      let x := newSession c place (sget 1 s.tables.generations place) other
      let s1 := { s with tables := { s.tables with sessions := s.tables.sessions ++ [x] } }
      finish e stDone [⟨8, 4, s1.handleOf x⟩, ⟨12, 1, s1.node⟩] s1
    match s.freePlaces k.hash, needsAlias f with
    | [], _ => full s
    | p :: _, false => put p none s
    | [_], true => full s
    | p :: q :: _, true => put p (some q) s

/-- The command's Teller is another member's: its Steward carries the command out there (01 R27). Without a route the
spec states no status; `status` is the model's (DESIGN CHOICE, log 13). -/
def atHome (e : Entry) (home : Nat) (status : Byte) (here : State → State) (s : State) : State :=
  if home = s.node then here s
  else if (s.route home).isSome then toRemote e home s
  else finish e status [] s

/-- The Teller commits one waiting request (01 R17); sightings are handled by `sight`. -/
def commitRequest (sight : StationKey → Nat → Nat → Nat → State → State) (r : TellerRequest) (s : State) : State :=
  match r with
  | .latch h epoch _ ip port => commitLatch h.toNat epoch ip port s
  | .unlatch h epoch => commitUnlatch h.toNat epoch s
  | .bind h channel l node => commitBind h.toNat channel.toNat l node.val s
  | .release h channel => commitRelease h.toNat channel.toNat s
  | .accepted h period => commitAccepted h.toNat period s
  | .deleteSession h =>
    match s.session h.toNat with
    | some x => if x.bound then s else freeSession h.toNat x s
    | none => s
  | .sighting k node port seenAt => sight k node.val port.val seenAt s

/-- Session commands run in SERVICE and DRAIN (05 Table 5-4). -/
def serviceModes : List Mode := [.service, .drain]

/-- The modes in which a session command is carried out: another member's at its home also in STANDBY and DIAGNOSTIC, whose Teller
goes on for the cluster (05 R138). -/
def Entry.homeModes (e : Entry) : List Mode :=
  if e.fromPeer then runModes else serviceModes

/-- SESSION_MODIFY's parameters (11 R344, R349). -/
def sessionModifyChecks (c : Cmd) : List Check :=
  let f := prmByte c 20
  let explicit := f.testBit 3
  [need 20 (decide (f < 16) && decide (bitsOf f 1 2 ≤ 2)),
   within c 21 1 0 7, within c 22 1 0 15, within c 23 1 0 63, need 24 (!(prmNet c 24 6).testBit 40),
   within c 30 1 0 7, within c 31 1 1 255, reservedBytes c 32 64,
   need 21 (explicit || prmByte c 21 == 0), need 22 (explicit || prmByte c 22 == 0)]

/-- The flags of an entry after SESSION_MODIFY: the key's and the alias's bits never change (11 R344). -/
def modifiedFlags (old new : Nat) : Nat :=
  (old &&& 0x0D) + (new % 2) * 2 + (bitsOf new 1 2) * 16 + bitsOf new 3 1 * 64

/-- The entry with SESSION_MODIFY's fields. -/
def modifySession (c : Cmd) (x : Session) : Session :=
  let f := prmByte c 20
  let explicit := f.testBit 3
  { x with flags := BitVec.ofNat 8 (modifiedFlags x.flags.toNat f), dscp := prmByte c 23,
           egressPort := if explicit then prmByte c 21 else 0xFF,
           egressNode := if explicit then prmByte c 22 else 0xFF,
           nextHopMac := BitVec.ofNat 48 (prmNet c 24 6), launchQueue := prmByte c 30, hopLimit := prmByte c 31 }

/-- After the Teller's commit the running device applies its part: here at once, elsewhere over Tylane, and only then
does the command complete (11 R330). -/
def thenRunning (e : Entry) (x : Session) (here : State → State) (s : State) : State :=
  match x.runNode with
  | some n => if n = s.node ∨ (s.route n).isNone then finish e stDone [] (here s) else toRemote e n s
  | none => finish e stDone [] s

/-- A session command that names a handle: carried out here on the entry, at the running device on its leg when the
home's Steward asks, or at the handle's home (01 R27, 11 R330). -/
def onHandle (e : Entry) (h : Nat) (entry : Session → State → State) (leg : LegState → LegState) (s : State) : State :=
  if handleNode h = s.node then
    match s.session h with
    | none => finish e stNotFound [] s
    | some x => entry x s
  else match e.source with
    | .peer n _ => if n.val = handleNode h then finish e stDone [] (onBoundLeg h leg s) else finish e stNotFound [] s
    | _ => atHome e (handleNode h) stNotFound id s

/-- The leg's part of a SESSION_MODIFY: its flags, and its copy of the entry (11 R330, R344). -/
def modifyLeg (c : Cmd) (l : LegState) : LegState :=
  let f := prmByte c 20
  let explicit := f.testBit 3
  { l with flags := BitVec.ofNat 8 (modifiedFlags l.flags.toNat f),
           copy := l.copy.map fun x =>
             { x with flags := BitVec.ofNat 8 (modifiedFlags x.flags.toNat f), dscp := prmByte c 23,
                      egressPort := if explicit then prmByte c 21 else 0xFF,
                      egressNode := if explicit then prmByte c 22 else 0xFF,
                      nextHopMac := BitVec.ofNat 48 (prmNet c 24 6), launchQueue := prmByte c 30, hopLimit := prmByte c 31 } }

def sessionObject (c : Cmd) : List Obj :=
  [.session (prm c 16 4)]

/-- Entry bytes of SESSION_QUERY (11 Table 11-1). -/
def sessionBytes (h : Nat) (x : Session) : List Byte :=
  natBytes 16 (layout 0 [⟨0, 4, h⟩, ⟨4, 1, x.state⟩, ⟨5, 1, x.flags.toNat⟩, ⟨6, 1, x.runNode.getD 0xFF⟩,
    ⟨7, 1, match x.leg with | some .a => 0 | some .b => 1 | none => 0xFF⟩, ⟨8, 4, x.channel⟩,
    ⟨12, 2, x.outerTag.toNat⟩, ⟨14, 2, x.innerTag.toNat⟩]) ++
  (natBytes 16 x.localIp.toNat).reverse ++ natBytes 2 x.localPort.toNat ++ natBytes 2 x.remotePort.toNat ++
  (natBytes 16 x.remoteIp.toNat).reverse ++ (natBytes 6 x.nextHopMac.toNat).reverse ++
  natBytes 14 (layout 58 [⟨58, 1, x.egressPort⟩, ⟨59, 1, x.egressNode⟩, ⟨60, 1, x.dscp⟩, ⟨61, 1, x.hopLimit⟩,
    ⟨62, 1, x.launchQueue⟩, ⟨63, 1, x.epoch.toNat⟩, ⟨64, 8, x.lastRxPeriod⟩]) ++ List.replicate 56 0

/-- The RELATCH of an entry (11 R346). -/
def relatchEntry (c : Cmd) (x : Session) : Session :=
  if prmByte c 20 % 2 = 1 then
    { x with epoch := x.epoch + 1, state := 2, remotePort := BitVec.ofNat 16 (prm c 22 2),
             remoteIp := BitVec.ofNat 128 (prmNet c 24 16), relatched := false, everLatched := true }
  else { x with epoch := x.epoch + 1, state := 0, remotePort := 0, remoteIp := 0, relatched := true }

/-- The running device's part: its local latch is cleared, or holds the address that RELATCH set (11 R346). -/
def relatchLeg (c : Cmd) (now : Nat) (l : LegState) : LegState :=
  { l with epoch := l.epoch + 1, lastAcceptedAt := now,
           latched := if prmByte c 20 % 2 = 1 then
             some (BitVec.ofNat 128 (prmNet c 24 16), BitVec.ofNat 16 (prm c 22 2)) else none }

/-- RELATCH's parameters (11 R346, R349). -/
def relatchChecks (c : Cmd) : List Check :=
  let set := decide (prmByte c 20 % 2 = 1)
  [reservedBits c 20 1 3, reservedBytes c 21 22, reservedBytes c 40 64,
   need 22 (set || prm c 22 2 == 0), need 24 (set || prm c 24 16 == 0)]

end Sys2Proof.Machine
end

