-- ==== Sys2Proof/Machine/Stations.lean ====
section
/-!
DEFINITION. The station table (11 R333 to R335, R348), the Teller's commits (01 R17, R28; 11 R330) and the commands that
go through the Teller.
-/
namespace Sys2Proof.Machine

def State.station (s : State) (k : StationKey) : Option Station :=
  s.tables.stations.find? fun x => x.key == k

/-- The entry of a key replaced or added, in place. -/
def putStation (x : Station) (s : State) : State :=
  let l := s.tables.stations
  let l' := if l.any fun y => y.key == x.key then l.map fun y => if y.key = x.key then x else y else l ++ [x]
  { s with tables := { s.tables with stations := l' } }

def dropStation (k : StationKey) (s : State) : State :=
  { s with tables := { s.tables with stations := s.tables.stations.filter fun y => y.key != k } }

/-- The other members of the view in force. -/
def State.otherMembers (s : State) : List Nat :=
  match s.cluster.view with
  | some v => (setBits 16 v.members.toNat).filter fun n => n != s.node
  | none => []

/-- The committed entry of a key, or its deletion, as the members are told of it (11 R333). -/
def State.stationUpdate (s : State) (k : StationKey) : StationUpdate :=
  match s.station k with
  | some x => { key := k, present := true, node := Fin.ofNat 16 x.node, port := Fin.ofNat 8 x.port, isStatic := x.isStatic,
                lastSeen := x.lastSeenPeriod }
  | none => { key := k, present := false, node := 0, port := 0, isStatic := false, lastSeen := 0 }

/-- The home Teller sends the committed entry to every member (11 R333). -/
def sendMembers (k : StationKey) (s : State) : State :=
  s.otherMembers.foldl (fun st n => tell n (.station (s.stationUpdate k)) st) s

/-- PERIOD_COUNT at an instant, from the present one (03 R70). -/
def State.periodAt (s : State) (t : Nat) : Nat :=
  s.alw.period - (s.now - t) / 125000

/-- A sighting reaches the home Teller: it updates LAST_SEEN, adds, moves, or is refused (11 R335, R355). -/
def commitSighting (k : StationKey) (node port seenAt : Nat) (s : State) : State :=
  let fresh (x : Station) : Station :=
    { x with node := node, port := port, lastSeenAt := seenAt, lastSeenPeriod := s.periodAt seenAt }
  match s.station k with
  | none =>
    if s.tables.stations.length < 4096 then
      sendMembers k (putStation (fresh { key := k, node := node, port := port, isStatic := false, lastSeenPeriod := 0,
                                         lastSeenAt := 0 }) s)
    else count (devCtr 33) s
  | some x =>
    if x.node = node ∧ x.port = port then sendMembers k (putStation (fresh x) s)
    else if x.isStatic then count (devCtr 35) s
    else if x.lastSeenAt + (s.cfg.moveHoldMs + 100) * 1000000 ≤ s.now then sendMembers k (putStation (fresh x) s)
    else count (devCtr 34) s

/-- The Teller commits the request at the front of its queue, or discards a stale one (01 R17). -/
def tellerStep (s : State) : State :=
  match s.tables.teller with
  | [] => s
  | r :: rest => commitRequest commitSighting r { s with tables := { s.tables with teller := rest } }

/-- Every request that stands before a command's own write commits first (01 R17). -/
def tellerDrain (s : State) : State :=
  s.tables.teller.foldl (fun st _ => tellerStep st) s

/-- A request for a home Teller: it joins this one's queue, or goes over Tylane (11 R333, R335). -/
def toTeller (home : Nat) (r : TellerRequest) (s : State) : State :=
  if home = s.node then { s with tables := { s.tables with teller := s.tables.teller ++ [r] } }
  else tell home (.teller r) s

def State.asNode (s : State) : Fin 16 :=
  Fin.ofNat 16 s.node

/-- The requests that bind a session and let it go (09 R282; 11 R330), with the home that commits each. -/
def bindRequest (h channel : Nat) (l : Leg) (node : Nat) : List (Nat × TellerRequest) :=
  if h = 0 then [] else [(handleNode h, .bind (BitVec.ofNat 32 h) (BitVec.ofNat 32 channel) l (Fin.ofNat 16 node))]

def releaseRequest (h channel : Nat) : List (Nat × TellerRequest) :=
  if h = 0 then [] else [(handleNode h, .release (BitVec.ofNat 32 h) (BitVec.ofNat 32 channel))]

/-- A request of a channel is committed by its home: here behind the requests that wait, or by a message to another member (01 R17;
11 R330). -/
def commitAt (s : State) (r : Nat × TellerRequest) : State :=
  if r.1 = s.node then commitRequest commitSighting r.2 (tellerDrain s) else tell r.1 (.teller r.2) s

def commitAll (reqs : List (Nat × TellerRequest)) (s : State) : State :=
  reqs.foldl commitAt s

/-- A command completes with DONE once its requests are committed: those of other homes are asked for, and `aux` counts the answers
that are still to come (11 R330) (DESIGN CHOICE, log 13). -/
def finishCommitted (e : Entry) (result : Nat) (reqs : List (Nat × TellerRequest)) (s : State) : State :=
  let far := reqs.filter fun r => r.1 != s.node
  let s1 := commitAll (reqs.filter fun r => r.1 == s.node) s
  if far.isEmpty then finishJob e stDone [⟨8, 20, result⟩] s1
  else far.foldl (fun st r => tell r.1 (.commitAsk e.id r.2) st)
    (setEntry e.id (fun x => { x with phase := .remote, aux := [12, far.length, result] }) s1)

/-- A home has committed a request that the command waits for. -/
def commitAnswered (e : Entry) (left result : Nat) (s : State) : State :=
  if left ≤ 1 then finishJob e stDone [⟨8, 20, result⟩] s
  else setEntry e.id (fun x => { x with aux := [12, left - 1, result] }) s

/-- A member's report or request for a key. -/
def sendSighting (k : StationKey) (port seenAt : Nat) (s : State) : State :=
  toTeller (s.homeOf (stationHash k)) (.sighting k s.asNode (Fin.ofNat 8 port) seenAt) s

def setSighting (x : Sighting) (s : State) : State :=
  let l := s.tables.sightings
  let l' := if l.any fun y => y.key == x.key then l.map fun y => if y.key = x.key then x else y else l ++ [x]
  { s with tables := { s.tables with sightings := l' } }

/-- 100 ms have passed since an instant, or it never was (11 R335). -/
def longAgo (now : Nat) (t : Option Nat) : Bool :=
  match t with
  | none => true
  | some t => decide (t + 100000000 < now)

/-- An accepted frame teaches its source address (11 R335). -/
def learn (k : StationKey) (port : Nat) (s : State) : State :=
  if s.mode.current ∉ serviceModes then s
  else
    let old := (s.tables.sightings.find? fun x => x.key == k).getD
      { key := k, port := port, at_ := s.now, lastReport := none, lastRequest := none }
    let x := { old with port := port, at_ := s.now }
    let here := (s.station k).any fun y => y.node == s.node && y.port == port
    if here then
      if longAgo s.now x.lastReport then
        sendSighting k port s.now (setSighting { x with lastReport := some s.now } s)
      else setSighting x s
    else if longAgo s.now x.lastRequest then
      sendSighting k port s.now (setSighting { x with lastRequest := some s.now } s)
    else setSighting x s

/-- STATION_SIGHTING_REPORT: the latest sighting since the last report is reported 100 ms after it (11 R335). -/
def execStationSightingReport (key : StationKey) (s : State) : Host.Outcome State Fault Refusal :=
  .next <|
    if !s.running then s
    else match s.tables.sightings.find? fun x => x.key == key with
    | some x =>
      match x.lastReport with
      | some r =>
        if r < x.at_ then
          let s1 := advance (r + 100000000) s
          sendSighting key x.port x.at_ (setSighting { x with lastReport := some s1.now } s1)
        else s
      | none => s
    | none => s

/-- The Teller deletes a learned entry that is still too old after the requests that came before (11 R335; 01 R17). -/
def commitAge (key : StationKey) (s : State) : State :=
  match s.station key with
  | some x =>
    if x.isStatic || decide (s.now ≤ x.lastSeenAt + s.cfg.ageS * 1000000000) then s
    else sendMembers key (count (devCtr 36) (dropStation key s))
  | none => s

/-- STATION_AGE_OUT: a learned entry whose LAST_SEEN is older than AGE_S is deleted at its home (11 R335). -/
def execStationAgeOut (key : StationKey) (s : State) : Host.Outcome State Fault Refusal :=
  .next <|
    match s.station key with
    | some x =>
      if x.isStatic || decide (s.homeOf (stationHash key) ≠ s.node) || !s.running then s
      else commitAge key (tellerDrain (advance (x.lastSeenAt + s.cfg.ageS * 1000000000 + 1) s))
    | none => s

/-- TELLER_WRITE_REQUEST: a request waits in arrival order; the Teller works while the core does (01 R17, R33). -/
def execTellerWriteRequest (req : TellerRequest) (s : State) : Host.Outcome State Fault Refusal :=
  .next (if s.running then { s with tables := { s.tables with teller := s.tables.teller ++ [req] } } else s)

/-- TELLER_COMMIT (01 R17) (DESIGN CHOICE, log 4). -/
def execTellerCommit (s : State) : Host.Outcome State Fault Refusal :=
  .next (if s.running then tellerStep s else s)

/-- A member applies its home Teller's commit (11 R333). -/
def applyStation (update : StationUpdate) (s : State) : State :=
    if !s.running then s
    else if update.present then
      putStation { key := update.key, node := update.node.val, port := update.port.val, isStatic := update.isStatic,
                   lastSeenPeriod := update.lastSeen,
                   lastSeenAt := s.now - (s.alw.period - update.lastSeen) * 125000 } s
    else dropStation update.key s

/-- STATION_ENTRY_APPLY (11 R333). -/
def execStationEntryApply (update : StationUpdate) (s : State) : Host.Outcome State Fault Refusal :=
  .next (applyStation update s)

/-- LATCH_SILENCE_TIMEOUT: 2 s without an accepted packet from the latched address unlatch a FOLLOW session, here at
once and at its home by request (11 R331, R354). -/
def execLatchSilenceTimeout (handle : Word32) (s : State) : Host.Outcome State Fault Refusal :=
  .next <|
    match s.boundLeg handle.toNat with
    | some (ch, l) =>
      let leg := ch.legOf l
      if s.running ∧ latchPolicy leg.flags = 1 ∧ leg.latched.isSome then
        let s1 := advance (leg.lastAcceptedAt + 2000000000) s
        let s2 := setLeg ch.id l (fun x => { x with latched := none }) s1
        toTeller (handleNode handle.toNat) (.unlatch handle leg.epoch) s2
      else s
    | none => s

/-- SESSION_ADD (11 R343). -/
def sessionAddBegin (e : Entry) (s : State) : State :=
  checked e e.homeModes (sessionAddChecks e.cmd)
    (fun s => atHome e (s.homeOf (sessionAddKey e.cmd).hash) stNoResource (fun s => addSession e (tellerDrain s)) s) s

def sessionAddObjects (c : Cmd) : List Obj := [.sessionKey (sessionAddKey c).hash]

def execSessionAdd (src : Source) (c : Cmd) (s : State) : Host.Outcome State Fault Refusal :=
  .next (takeCommand .sessionAdd src c (sessionAddObjects c) sessionAddBegin s)

/-- SESSION_MODIFY (11 R344). -/
def sessionModifyBegin (e : Entry) (s : State) : State :=
  checked e e.homeModes (sessionModifyChecks e.cmd)
    (fun s =>
      let h := prm e.cmd 16 4
      onHandle e h
        (fun x s =>
          thenRunning e x (onBoundLeg h (modifyLeg e.cmd)) (setSession x.index (modifySession e.cmd) s))
        (modifyLeg e.cmd) (tellerDrain s)) s

def execSessionModify (src : Source) (c : Cmd) (s : State) : Host.Outcome State Fault Refusal :=
  .next (takeCommand .sessionModify src c (sessionObject c) sessionModifyBegin s)

/-- SESSION_DELETE (11 R345). -/
def sessionDeleteBegin (e : Entry) (s : State) : State :=
  checked e e.homeModes [reservedBytes e.cmd 20 64]
    (fun s =>
      let h := prm e.cmd 16 4
      onHandle e h
        (fun x s => if x.bound then finish e stDenied [] s else finish e stDone [] (freeSession h x s))
        id (tellerDrain s)) s

def execSessionDelete (src : Source) (c : Cmd) (s : State) : Host.Outcome State Fault Refusal :=
  .next (takeCommand .sessionDelete src c (sessionObject c) sessionDeleteBegin s)

/-- SESSION_QUERY (11 R345): a command of another member returns the bytes to it (01 R27). -/
def sessionQueryBegin (e : Entry) (s : State) : State :=
  let c := e.cmd
  checked e e.homeModes [reservedBytes c 20 24, hostAddr c 24 64, reservedBytes c 32 64]
    (fun s =>
      let h := prm c 16 4
      onHandle e h
        (fun x s => finishData e (prm c 24 8) (sessionBytes h x) s)
        id (tellerDrain s)) s

def execSessionQuery (src : Source) (c : Cmd) (s : State) : Host.Outcome State Fault Refusal :=
  .next (takeCommand .sessionQuery src c (sessionObject c) sessionQueryBegin s)

/-- RELATCH (11 R346, R350, R353). -/
def relatchBegin (e : Entry) (s : State) : State :=
  let c := e.cmd
  checked e e.homeModes (relatchChecks c)
    (fun s =>
      let h := prm c 16 4
      onHandle e h
        (fun x s =>
          if latchPolicy x.flags = 2 ∧ prmByte c 20 % 2 = 0 then finish e stDenied [] s
          else
            let y := relatchEntry c x
            let s1 := setSession x.index (fun _ => y) s
            let s2 := if prmByte c 20 % 2 = 1 then raiseLatched h y 3 s1 else s1
            thenRunning e y (fun s => onBoundLeg h (relatchLeg c s.now) s) s2)
        (relatchLeg c s.now) (tellerDrain s)) s

def execRelatch (src : Source) (c : Cmd) (s : State) : Host.Outcome State Fault Refusal :=
  .next (takeCommand .relatch src c (sessionObject c) relatchBegin s)

/-- The station key of a command: VID at 18, MAC at 20 (11 R348). -/
def stationKeyOf (c : Cmd) : StationKey :=
  { vid := BitVec.ofNat 12 (prm c 18 2), mac := BitVec.ofNat 48 (prmNet c 20 6) }

/-- The number that stands for a station key as a command's object. -/
def stationObject (c : Cmd) : List Obj :=
  [.station ((stationKeyOf c).vid.toNat * 281474976710656 + (stationKeyOf c).mac.toNat)]

/-- STATION_ADD's parameters (11 R348, R349). -/
def stationAddChecks (c : Cmd) : List Check :=
  let params := decide (prmByte c 16 % 2 = 1)
  [reservedBits c 16 1 1, reservedBytes c 17 18, within c 18 2 0 4095, within c 26 1 0 15, within c 27 1 0 7,
   need 28 (!params || decide (100 ≤ prm c 28 2 ∧ prm c 28 2 ≤ 10000)),
   need 30 (!params || decide (10 ≤ prm c 30 2 ∧ prm c 30 2 ≤ 3600)), reservedBytes c 32 64,
   need 18 (!params || prm c 18 2 == 0), need 20 (!params || prm c 20 6 == 0), need 26 (!params || prmByte c 26 == 0),
   need 27 (!params || prmByte c 27 == 0), need 28 (params || prm c 28 2 == 0), need 30 (params || prm c 30 2 == 0)]

/-- The settings hold the static entries (11 R335). -/
def keepStatic (k : StationKey) (x : Option StaticStation) (s : State) : State :=
  { s with cfg := { s.cfg with statics := (s.cfg.statics.filter fun y => y.key != k) ++ x.toList } }

/-- STATION_ADD (11 R348). -/
def stationAddBegin (e : Entry) (s : State) : State :=
  let c := e.cmd
  checked e runModes (stationAddChecks c)
    (fun s =>
      if prmByte c 16 % 2 = 1 then
        finish e stDone [] { s with cfg := { s.cfg with moveHoldMs := prm c 28 2, ageS := prm c 30 2 } }
      else
        let k := stationKeyOf c
        atHome e (s.homeOf (stationHash k)) stNoResource (fun s =>
          let s := tellerDrain s
          let node := prmByte c 26
          let port := prmByte c 27
          let put (x : Station) := finish e stDone [] (sendMembers k (putStation { x with node := node, port := port, isStatic := true }
            (keepStatic k (some { key := k, node := node, port := port }) s)))
          match s.station k with
          | some x => put x
          | none =>
            if s.tables.stations.length < 4096 then
              put { key := k, node := node, port := port, isStatic := true, lastSeenPeriod := 0, lastSeenAt := 0 }
            else finish e stNoResource [] s) s) s

def stationAddObjects (c : Cmd) : List Obj :=
  if prmByte c 16 % 2 = 1 then [.stationParams] else stationObject c

def execStationAdd (src : Source) (c : Cmd) (s : State) : Host.Outcome State Fault Refusal :=
  .next (takeCommand .stationAdd src c (stationAddObjects c) stationAddBegin s)

/-- The checks of STATION_DELETE and STATION_QUERY (11 R348). -/
def stationKeyChecks (c : Cmd) : List Check :=
  [reservedBytes c 16 18, within c 18 2 0 4095, reservedBytes c 26 64]

/-- STATION_DELETE (11 R348; 01 R28). -/
def stationDeleteBegin (e : Entry) (s : State) : State :=
  let c := e.cmd
  checked e runModes (stationKeyChecks c)
    (fun s =>
      let k := stationKeyOf c
      atHome e (s.homeOf (stationHash k)) stNotFound (fun s =>
        let s := tellerDrain s
        match s.station k with
        | none => finish e stNotFound [] s
        | some _ => finish e stDone [] (sendMembers k (dropStation k (keepStatic k none s)))) s) s

def execStationDelete (src : Source) (c : Cmd) (s : State) : Host.Outcome State Fault Refusal :=
  .next (takeCommand .stationDelete src c (stationObject c) stationDeleteBegin s)

/-- STATION_QUERY (11 R348), from the member's full copy. -/
def stationQueryBegin (e : Entry) (s : State) : State :=
  let c := e.cmd
  checked e runModes (stationKeyChecks c)
    (fun s =>
      match s.station (stationKeyOf c) with
      | none => finish e stNotFound [] s
      | some x => finish e stDone [⟨8, 1, x.node⟩, ⟨9, 1, x.port⟩, ⟨10, 1, bit x.isStatic⟩, ⟨12, 8, x.lastSeenPeriod⟩] s) s

def execStationQuery (src : Source) (c : Cmd) (s : State) : Host.Outcome State Fault Refusal :=
  .next (takeCommand .stationQuery src c (stationObject c) stationQueryBegin s)

end Sys2Proof.Machine
end

