-- ==== Sys2Proof/Machine/Launch.lean ====
section
/-!
DEFINITION. The egress builder and the launch queues (11 R334; 13 R398 to R404, R410, R411, R413).
-/
namespace Sys2Proof.Machine

/-- The index of a launch queue. -/
def queueIndex (port queue : Nat) : Nat :=
  8 * port + queue

def State.launchQueue (s : State) (port queue : Nat) : LaunchQueue :=
  s.launch.queues.getD (queueIndex port queue) {}

def State.launchCfg (s : State) (port queue : Nat) : LaunchCfg :=
  s.cfg.launch.getD (queueIndex port queue) {}

def setQueue (port queue : Nat) (f : LaunchQueue → LaunchQueue) (s : State) : State :=
  { s with launch := { s.launch with queues := upd s.launch.queues (queueIndex port queue) f } }

/-- The cells that a frame takes (11 R342). -/
def cells (frameBytes : Nat) : Nat :=
  ceilDiv frameBytes 256

/-- The cells that a queue, and the whole launch pool, hold. -/
def LaunchQueue.cells (q : LaunchQueue) : Nat :=
  q.packets.foldl (fun n p => n + Machine.cells p.frameBytes) 0

def State.launchCells (s : State) : Nat :=
  s.launch.queues.foldl (fun n q => n + q.cells) 0

/-- A packet put into its queue: in arrival order, or by launch time with equals in arrival order (13 R398). -/
def insertPacket (timed : Bool) (p : LaunchPacket) (l : List LaunchPacket) : List LaunchPacket :=
  if timed then
    l.takeWhile (fun x => x.launch ≤ p.launch) ++ p :: l.dropWhile (fun x => x.launch ≤ p.launch)
  else l ++ [p]

/-- A finished packet reaches a launch queue of this device (13 R398, R401, R403). -/
def enqueue (port queue : Nat) (p : LaunchPacket) (s : State) : State :=
  let cfg := s.launchCfg port queue
  let q := s.launchQueue port queue
  if (s.port port).state ≠ .up then count (launchCtr port queue 4) s
  else if cfg.cellLimit < q.cells + cells p.frameBytes then count (launchCtr port queue 5) s
  else if 16384 < s.launchCells + cells p.frameBytes then count (devCtr 40) s
  else
    let lead := cfg.timed && decide (p.launch < s.tbValue cfg.tb + 2000 * 65536)
    let new := { p with order := s.launch.nextOrder, late := lead }
    let s1 := setQueue port queue (fun q => { q with packets := insertPacket cfg.timed new q.packets }) s
    { s1 with launch := { s1.launch with nextOrder := s1.launch.nextOrder + 1 } }

/-- A time base's value at the boundary of a frame, from the snapshot taken at the latest one. -/
def State.boundaryValue (s : State) (tb frame : Nat) : Nat :=
  (s.time.frameValues.getD tb 0) - tbAdvance ((s.alw.frame - frame) * 10000000) (s.tb tb).rate

/-- The launch time of a packet (13 R399). -/
def State.launchTime (s : State) (cfg : LaunchCfg) (engine slot frame : Nat) : Nat :=
  s.boundaryValue cfg.tb frame + (cfg.offsetNs + (128 * engine + slot) * cfg.staggerNs) * 65536

/-- The bytes that carry a UDP payload of a session: MAC header, tags, IP and UDP headers, and the FCS (11 Table 11-1). -/
def SessionCopy.headBytes (x : SessionCopy) : Nat :=
  18 + 4 * bit (x.outerTag.getLsbD 12) + 4 * bit (x.innerTag.getLsbD 12) + (if x.flags.getLsbD 0 then 40 else 20) + 8

/-- Where a packet leaves: node, port and queue, or nothing while the station table lacks the next hop (11 R334). -/
def State.egress (s : State) (x : SessionCopy) : Option (Nat × Nat × Nat) :=
  if flagExplicit x.flags then some (x.egressNode, x.egressPort, x.launchQueue)
  else
    let vid : BitVec 12 := if x.outerTag.getLsbD 12 then x.outerTag.setWidth 12 else 0
    (s.station { vid := vid, mac := x.nextHopMac }).map fun st => (st.node, st.port, x.launchQueue)

/-- The egress builder hands a packet of a leg, whose UDP payload has `bytes`, to its launch queue, here or over Tylane (01 R21; 11
R334). RTP_TX of a packet that leaves by another device counts as it is handed over (DEDUCED, log 99). -/
def sendPacket (ch : Channel) (leg : Leg) (isRtp : Bool) (bytes : Nat) (payload : List Byte) (frame : Nat) (s : State) :
    State :=
  match s.entryOf (ch.legOf leg) with
  | none => count (devCtr 32) s
  | some x =>
    match s.egress x with
    | none => count (devCtr 32) s
    | some (node, port, queue) =>
      let cfg := s.launchCfg port queue
      let launch := if cfg.timed then s.launchTime cfg ch.engine ch.slot frame else 0
      let size := max 64 (x.headBytes + bytes)
      if node ≠ s.node then
        let s1 := tySend node (.media (.toEgress (Fin.ofNat 8 port) (Fin.ofNat 8 queue) (BitVec.ofNat 32 ch.id) launch size
          (x.outerTag.getLsbD 12) payload)) size s
        if isRtp then count (legCtr ch.id (legNum leg) 1) s1 else s1
      else
        enqueue port queue
          { launch := launch, channel := ch.id, frameBytes := size, order := 0, late := false,
            rtp := if isRtp then some leg else none, tagged := x.outerTag.getLsbD 12, payload := payload } s

/-- Every queued packet of a port is discarded when it leaves UP (13 R403). -/
def dropPortQueues (port : Nat) (s : State) : State :=
  (List.range 8).foldl (fun st q =>
    countBy (launchCtr port q 4) (st.launchQueue port q).packets.length
      (setQueue port q (fun x => { x with packets := [], committed := none }) st)) s

/-- Every queued packet on every port is discarded: a reset of block 79 (13 R403). The number is BLOCK_DISCARD's. -/
def dropAllQueues (s : State) : State × Nat :=
  let n := s.launch.queues.foldl (fun n q => n + q.packets.length) 0
  ({ s with launch := { s.launch with queues := s.launch.queues.map fun q =>
      { q with packets := [], committed := none } } }, n)

/-- The time that a frame, its preamble and the inter-packet gap take on a port in ns (12 R360, R368). -/
def State.wireNs (s : State) (port frameBytes : Nat) : Nat :=
  if (s.portCfg port).speed = 0 then (4 * (frameBytes + 20) + 4) / 5 else (8 * (frameBytes + 20) + 24) / 25

/-- The bin of a frame length among the nine of Table 12-4. -/
def sizeBin (n : Nat) : Nat :=
  if n ≤ 64 then 0 else if n ≤ 127 then 1 else if n ≤ 255 then 2 else if n ≤ 511 then 3 else if n ≤ 1023 then 4
  else if n ≤ 1518 then 5 else if n ≤ 2047 then 6 else if n ≤ 4095 then 7 else 8

/-- A frame goes out: port busy, transmit counters (12 R371); beyond MAX_FRAME it is dropped (12 R368). The second
component says whether it was sent. -/
def transmit (port frameBytes : Nat) (multicast tagged : Bool) (s : State) : State × Bool :=
  if (s.portCfg port).maxFrame < frameBytes then (count (portCtr port 45) s, false)
  else
    let s1 := setPort port (fun x => { x with sendingUntil := s.now + s.wireNs port frameBytes }) s
    let s2 := count (portCtr port (35 + sizeBin frameBytes))
      (count (portCtr port (if multicast then 34 else 33)) (count (portCtr port 32)
        (countBy (portCtr port 31) frameBytes s1)))
    (if tagged then count (portCtr port 44) s2 else s2, true)

/-- LAUNCH_LATE, at most once per queue and second (13 R402, R413) (DEDUCED, log 59). -/
def launchLate (port queue outcome lateNs : Nat) (s : State) : State :=
  let s1 := setQueue port queue (fun q => { q with lateCount := q.lateCount + 1 }) s
  let q := s1.launchQueue port queue
  let quiet := match q.lateRaisedAt with | some t => decide (s.now < t + 1000000000) | none => false
  if quiet then s1
  else
    raise evLaunchLate [⟨16, 1, port⟩, ⟨17, 1, queue⟩, ⟨18, 1, outcome⟩, ⟨20, 4, lateNs⟩, ⟨24, 4, q.lateCount⟩]
      (setQueue port queue (fun q => { q with lateCount := 0, lateRaisedAt := some s.now }) s1)

/-- A packet's frame is granted, committed and sent (13 R404). -/
def sendQueued (port queue : Nat) (p : LaunchPacket) (s : State) : State :=
  let timed := (s.launchCfg port queue).timed
  let r := transmit port p.frameBytes false p.tagged s
  let s1 := setQueue port queue (fun q =>
    { q with packets := q.packets.filter fun x => x.order != p.order,
             lastGranted := if timed then some (max p.launch (q.lastGranted.getD 0)) else q.lastGranted,
             committed := if timed then some (p.launch, p.channel, (r.1.port port).sendingUntil) else none }) r.1
  if !r.2 then s1
  else
    let s2 := countBy (launchCtr port queue 6) p.frameBytes (count (launchCtr port queue 0) s1)
    match p.rtp with
    | some l => if (s2.channel p.channel).isSome then count (legCtr p.channel (legNum l) 1) s2 else s2
    | none => s2

/-- The grant instant of a packet: the fixed pipeline delay before its launch time, with the transmit latency of its port (13 R400; 17
R521) (DESIGN CHOICE, log 79). -/
def State.grantInstant (s : State) (port : Nat) (p : LaunchPacket) : Nat :=
  ((p.launch : Int) - Config.launchPipelineNs * 65536 - s.latencyShift port 1).toNat

/-- The TIMED heads of a port, with their queues, earliest launch first and then lowest queue (13 R400). -/
def State.timedHeads (s : State) (port : Nat) : List (Nat × LaunchPacket) :=
  (List.range 8).filterMap fun q =>
    if (s.launchCfg port q).timed then ((s.launchQueue port q).packets.head?).map fun p => (q, p) else none

/-- How long a queue's packet still waits for its launch time, on the queue's time base. -/
def State.untilLaunch (s : State) (port : Nat) (x : Nat × LaunchPacket) : Int :=
  (x.2.launch : Int) - s.tbValue (s.launchCfg port x.1).tb

/-- The packet whose launch time comes first, of the lowest queue on a tie. -/
def State.earliest (s : State) (port : Nat) (l : List (Nat × LaunchPacket)) : Option (Nat × LaunchPacket) :=
  l.foldl (fun acc x =>
    match acc with
    | none => some x
    | some a => if s.untilLaunch port x < s.untilLaunch port a then some x else some a) none

/-- A TIMED head's grant, by the policy of its queue when it is late (13 R401, R402). One ns is the model clock's grain. -/
def grantTimed (port queue : Nat) (p : LaunchPacket) (s : State) : State :=
  let cfg := s.launchCfg port queue
  let tbNow := s.tbValue cfg.tb
  let lateBy := (tbNow - s.grantInstant port p) / 65536
  if p.late || decide (1 < lateBy) then
    if cfg.dropLate && decide (cfg.lateTolNs < lateBy) then
      launchLate port queue 1 lateBy
        (count (launchCtr port queue 2)
          (setQueue port queue (fun q => { q with packets := q.packets.filter fun x => x.order != p.order }) s))
    else launchLate port queue 0 lateBy (count (launchCtr port queue 1) (sendQueued port queue p s))
  else sendQueued port queue p s

/-- Codes of the port states (12 Table 12-1). -/
def PortStateCode.code : PortStateCode → Nat
  | .disabled => 0
  | .down => 1
  | .up => 2
  | .reset => 3

/-- A copy that has not been sent within 1 ms of its ingress, residence on other nodes included, is dropped (13 R396). -/
def State.ptpExpired (s : State) (w : PtpWaiting) : Bool :=
  !w.own && decide (1000000 < s.now - w.ingressAt + w.residence / 65536)

/-- A message of the time-base unit goes out, with what is written into it at its SFD (13 R392, R396, R397, R400). -/
def sendPtp (w : PtpWaiting) (s : State) : State :=
  let s1 := { s with time := { s.time with waiting := s.time.waiting.erase w } }
  let frame := s.ptpFrame w
  let r := if s.ptpExpired w then (count (ptpCtr w.port 6) s1, false)
           else transmit w.port frame.length ((be frame 0 6).testBit 40) (isTpid (be frame 12 2)) s1
  if !r.2 then r.1
  else
    let s2 := count (ptpCtr w.port (if w.isEvent then 3 else 4)) (setPort w.port (fun x => { x with lastPtp := frame }) r.1)
    if w.isEvent && !w.own then count (ptpCtr w.port 5) s2 else s2

/-- A frame of rank 2 or 3 fits before the earliest known TIMED launch, with the 7 octets of preamble that come before the SFD of the
next (13 R400) (DEDUCED, log 79). -/
def State.fitsBefore (s : State) (port frameBytes : Nat) : Bool :=
  (s.timedHeads port).all fun x =>
    decide (s.tbValue (s.launchCfg port x.1).tb + s.wireNs port (frameBytes + 7) * 65536 ≤ x.2.launch)

/-- The IMMEDIATE queues of a port that hold packets, lowest first (13 R400). -/
def State.immediateHead (s : State) (port : Nat) : Option (Nat × LaunchPacket) :=
  (List.range 8).findSome? fun q =>
    if (s.launchCfg port q).timed then none else ((s.launchQueue port q).packets.head?).map fun p => (q, p)

/-- The arbiter of a port, free to grant: a TIMED head whose instant has come, a message of the time-base unit, an
IMMEDIATE packet, or else the wait for the next TIMED grant instant (13 R400). -/
def arbitrate (port : Nat) (s : State) : State :=
  let heads := s.timedHeads port
  let due := heads.filter fun x => decide (s.grantInstant port x.2 ≤ s.tbValue (s.launchCfg port x.1).tb)
  match s.earliest port due with
  | some (q, p) => grantTimed port q p s
  | none =>
    match s.time.waiting.find? fun w => w.port == port && s.fitsBefore port (max 64 (w.frame.length + 4)) with
    | some w => sendPtp w s
    | none =>
      match s.immediateHead port with
      | some (q, p) =>
        if s.fitsBefore port p.frameBytes then sendQueued port q p s
        else match s.earliest port heads with
          | some (q, p) =>
            let tb := (s.launchCfg port q).tb
            grantTimed port q p
              (advance (s.now + tbDelay ((s.grantInstant port p - s.tbValue tb) / 65536) (s.tb tb).rate) s)
          | none => s
      | none =>
        match s.earliest port heads with
        | some (q, p) =>
          let tb := (s.launchCfg port q).tb
          grantTimed port q p
            (advance (s.now + tbDelay ((s.grantInstant port p - s.tbValue tb) / 65536) (s.tb tb).rate) s)
        | none => s

/-- LAUNCH_GRANT (13 R400). A port that is not UP, or that receives remote fault, sends no frame, and one that detects a local fault
sends remote fault (12 R361). -/
def execLaunchGrant (port : Fin 8) (s : State) : Host.Outcome State Fault Refusal :=
  .next <|
    let p := s.port port.val
    if p.state ≠ .up || p.remoteFault || p.localFault || s.blockInReset 79 then s
    else arbitrate port.val (advance p.sendingUntil s)

/-- PTP_FWD_TIMEOUT: a copy not sent within 1 ms of its ingress, residence on other nodes included, is dropped (13 R396). -/
def execPtpFwdTimeout (port : Fin 8) (s : State) : Host.Outcome State Fault Refusal :=
  .next <|
    match s.time.waiting.find? fun w => w.port == port.val && !w.own && s.running with
    | some w =>
      count (ptpCtr port.val 6) (advance (w.ingressAt + 1000000 - w.residence / 65536)
        { s with time := { s.time with waiting := s.time.waiting.erase w } })
    | none => s

/-- The type of an ordinary clock's next message: as master Sync, as slave Delay_Req, and of the general ones Announce, Delay_Resp or
Signaling (13 R392, R394) (PRESUMED, log 56). -/
def State.ownType (s : State) (tb : Nat) (event : Bool) : Nat :=
  if event then (if (s.tb tb).state = .free ∧ !(s.tbCfg tb).slaveOnly then 0 else 1)
  else [0xB, 9, 0xC].getD (s.freeAt 150 % 3) 0xB

/-- PTP_MESSAGE_SEND: an ordinary clock's message stands ready on its enabled port (13 R394, R400). -/
def execPtpMessageSend (tb : Fin 4) (event : Bool) (s : State) : Host.Outcome State Fault Refusal :=
  .next <|
    if !s.running || !s.tbOn tb.val || decide ((s.tbCfg tb.val).role ≠ 1) then s
    else match (List.range 8).find? fun p =>
        (s.cfg.ptpPorts.getD p {}).enable && (s.cfg.ptpPorts.getD p {}).tb == tb.val with
      | some p =>
        let frame := s.ownFrame p event (s.ownMessage tb.val (s.ownType tb.val event))
        drawn { s with time := { s.time with waiting := s.time.waiting ++
          [{ port := p, tb := tb.val, isEvent := event, transport := (s.cfg.ptpPorts.getD p {}).transport, offset := frame.2,
             frame := frame.1, ingressAt := s.now, ingressShadow := 0, residence := 0, own := true }] } }
      | none => s

/-- LAUNCH_QUEUE_SET's parameters (13 Table 13-7). -/
def launchSetChecks (c : Cmd) : List Check :=
  let timed := (prmByte c 18).testBit 0
  let dropLate := (prmByte c 18).testBit 1
  [within c 16 1 0 7, within c 17 1 0 7, reservedBits c 18 1 7, within c 19 1 0 3,
   need 20 (prm c 20 4 == 0 || decide (1000000 ≤ prm c 20 4 ∧ prm c 20 4 ≤ 20000000)),
   within c 24 2 0 1200, within c 26 2 16 16384, within c 28 4 0 1000000, reservedBytes c 32 64,
   need 20 (if timed then prm c 20 4 != 0 else prm c 20 4 == 0), need 24 (timed || prm c 24 2 == 0),
   need 28 (dropLate || prm c 28 4 == 0)]

def launchCfgOf (c : Cmd) : LaunchCfg :=
  { timed := (prmByte c 18).testBit 0, dropLate := (prmByte c 18).testBit 1, tb := prmByte c 19, offsetNs := prm c 20 4,
    staggerNs := prm c 24 2, cellLimit := prm c 26 2, lateTolNs := prm c 28 4 }

/-- LAUNCH_QUEUE_SET (13 R410, R412). -/
def launchQueueSetBegin (e : Entry) (s : State) : State :=
  let c := e.cmd
  checked e runModes (launchSetChecks c)
    (fun s =>
      let port := prmByte c 16
      let queue := prmByte c 17
      let new := launchCfgOf c
      let old := s.launchCfg port queue
      let held := (s.launchQueue port queue).packets.length
      let flush := (prmByte c 18).testBit 2
      let moves := new.timed != old.timed || new.tb != old.tb || new.offsetNs != old.offsetNs
        || new.staggerNs != old.staggerNs
      if (new.timed && !s.tbOn new.tb) || (moves && decide (held ≠ 0) && !flush) then finish e stDenied [] s
      else
        let s1 := if flush then countBy (launchCtr port queue 3) held
                    (setQueue port queue (fun q => { q with packets := [] }) s) else s
        let s2 := if moves then setQueue port queue (fun q => { q with lastGranted := none, committed := none }) s1 else s1
        finish e stDone [] { s2 with cfg := { s2.cfg with launch := s2.cfg.launch.set (queueIndex port queue) new } }) s

def launchObject (c : Cmd) : List Obj := [.launchQueue (prmByte c 16) (prmByte c 17)]

def execLaunchQueueSet (src : Source) (c : Cmd) (s : State) : Host.Outcome State Fault Refusal :=
  .next (takeCommand .launchQueueSet src c (launchObject c) launchQueueSetBegin s)

/-- LAUNCH_CANCEL (13 R404, R411, R412, R417): a packet still queued is cancelled; one granted and still on its way has
won. -/
def launchCancelBegin (e : Entry) (s : State) : State :=
  let c := e.cmd
  checked e runModes
    [within c 16 1 0 7, within c 17 1 0 7, reservedBytes c 18 20, need 24 (timeOk (prm c 24 12)), reservedBytes c 36 64]
    (fun s =>
      let port := prmByte c 16
      let queue := prmByte c 17
      let q := s.launchQueue port queue
      let t := fieldTime (prm c 24 12)
      let mine (channel : Nat) : Bool := prm c 20 4 == 0 || prm c 20 4 == channel
      let hit (p : LaunchPacket) : Bool := p.launch == t && mine p.channel
      let n := (q.packets.filter hit).length
      let won := match q.committed with
        | some (l, ch, until_) => bit (l == t && mine ch && decide (s.now < until_))
        | none => 0
      let result := [⟨8, 2, n⟩, ⟨10, 2, won⟩]
      if !(s.launchCfg port queue).timed then finish e stDenied [] s
      else if 0 < n then
        finish e stDone result (countBy (launchCtr port queue 3) n
          (setQueue port queue (fun q => { q with packets := q.packets.filter fun p => !hit p }) s))
      else if won = 1 ∨ (q.lastGranted.any fun g => decide (t ≤ g)) then finish e stTooLate result s
      else finish e stNotFound [] s) s

def execLaunchCancel (src : Source) (c : Cmd) (s : State) : Host.Outcome State Fault Refusal :=
  .next (takeCommand .launchCancel src c (launchObject c) launchCancelBegin s)

end Sys2Proof.Machine
end

