-- ==== Sys2Proof/Machine/Ports.lean ====
section
/-!
DEFINITION. Port states and link state (12 R361 to R363, R374, R375, R378), and the bring-up of the media lanes (14 R429).
-/
namespace Sys2Proof.Machine

/-- PORT_LINK (12 R378). -/
def raisePort (p cause : Nat) (s : State) : State :=
  let c := s.portCfg p
  raise evPortLink [⟨16, 1, p⟩, ⟨17, 1, (s.port p).state.code⟩, ⟨18, 1, cause⟩, ⟨19, 1, c.speed⟩, ⟨20, 1, bit c.fec⟩] s

/-- A port changes state: leaving UP discards its queued packets (13 R403), entering DOWN from UP is counted, and every
change raises PORT_LINK (12 R363) (DEDUCED, log 66). -/
def portTo (p : Nat) (new : PortStateCode) (cause : Nat) (s : State) : State :=
  let old := (s.port p).state
  if old = new then s
  else
    let s1 := setPort p (fun x => { x with state := new, changedPeriod := s.alw.period, linkSince := s.now }) s
    let s2 := if old = .up then dropPortQueues p s1 else s1
    let s3 := if old = .up ∧ new = .down then count (portCtr p 49) s2 else s2
    raisePort p cause s3

/-- Link-good (12 R362), on a lane that carries its port (14 Table 14-3). -/
def State.linkGood (s : State) (p : Nat) : Bool :=
  let x := s.port p
  (s.lane p).state == .ready && x.blockLock && (!(s.portCfg p).fec || x.fecLock) && !x.hiBer && !x.localFault
    && !x.remoteFault

/-- A change that may turn the link good or not, with its instant (12 R363). -/
def linkChange (p : Nat) (f : State → State) (s : State) : State :=
  let s1 := f s
  if s.linkGood p = s1.linkGood p then s1 else setPort p (fun x => { x with linkSince := s.now }) s1

/-- The port's receive side forgets what it had found. -/
def clearLink (x : Port) : Port :=
  { x with blockLock := false, fecLock := false, hiBer := false, localFault := false, remoteFault := false }

/-- Ports run in STANDBY to DIAGNOSTIC (12 Table 12-1). -/
def State.portsOn (s : State) : Bool := s.running

/-- A port starts from its configuration: DOWN with its lane in bring-up when enabled, else DISABLED (12 R362; 14 R428). -/
def startPort (p cause laneCause : Nat) (s : State) : State :=
  let s1 := setPort p clearLink s
  if (s.portCfg p).enable then
    let s2 := portTo p .down cause s1
    if (s2.lane p).state = .test then s2 else laneBringup p laneCause s2
  else laneOff p laneCause (portTo p .disabled cause s1)

/-- A frame in transmission is discarded, counted in BLOCK_DISCARD; a frame that the receive path may hold is a free value
(12 R374). -/
def abortFrames (p : Nat) (s : State) : State :=
  let sending := decide (s.now < (s.port p).sendingUntil)
  let s1 := if (s.port p).state = .up then countBy (portCtr p 30) (s.freeAt 40 % 2) (drawn s) else s
  if sending then count (devCtr 17) (setPort p (fun x => { x with sendingUntil := s.now }) s1) else s1

/-- PORT_SET's parameters (12 Table 12-7, R377). -/
def portSetChecks (c : Cmd) : List Check :=
  let f := prmByte c 17
  let mac := prmNet c 20 6
  [within c 16 1 0 7, reservedBits c 17 1 7, within c 18 1 0 1, reservedBytes c 19 20, need 20 (!mac.testBit 40),
   within c 26 2 1518 9216, reservedBytes c 28 64,
   need 18 (!f.testBit 1 || prmByte c 18 == 1), need 20 (!f.testBit 0 || mac != 0)]

def portCfgOf (c : Cmd) : PortCfg :=
  let f := prmByte c 17
  { enable := f.testBit 0, fec := f.testBit 1, outer88a8 := f.testBit 2, speed := prmByte c 18,
    mac := BitVec.ofNat 48 (prmNet c 20 6), maxFrame := prm c 26 2 }

/-- PORT_SET (12 R374, R382, R384). A port in block reset takes its configuration on release (12 R369). -/
def portSetBegin (e : Entry) (s : State) : State :=
  let c := e.cmd
  checked e runModes (portSetChecks c)
    (fun s =>
      let p := prmByte c 16
      let new := portCfgOf c
      let old := s.portCfg p
      let s1 := { s with cfg := { s.cfg with ports := s.cfg.ports.set p new } }
      if (s.port p).state = .reset then finish e stDone [] s1
      else if new.enable != old.enable || new.speed != old.speed || new.fec != old.fec then
        finish e stDone [] (startPort p 4 (if new.enable && old.enable then 8 else 0) (abortFrames p s1))
      else finish e stDone [] s1) s

def portObject (c : Cmd) : List Obj := [.port (prmByte c 16)]

def execPortSet (src : Source) (c : Cmd) (s : State) : Host.Outcome State Fault Refusal :=
  .next (takeCommand .portSet src c (portObject c) portSetBegin s)

/-- PORT_STATUS (12 R375). -/
def portStatusBegin (e : Entry) (s : State) : State :=
  let p := prmByte e.cmd 16
  checked e runModes [within e.cmd 16 1 0 7, reservedBytes e.cmd 17 64]
    (fun s =>
      let x := s.port p
      let c := s.portCfg p
      finish e stDone [⟨8, 1, x.state.code⟩, ⟨9, 1, c.speed⟩, ⟨10, 1, bit c.fec + 2 * bit c.outer88a8⟩,
        ⟨11, 1, bit x.blockLock + 2 * bit x.fecLock + 4 * bit x.hiBer + 8 * bit x.localFault + 16 * bit x.remoteFault⟩,
        ⟨12, 2, c.maxFrame⟩, ⟨14, 6, bytesNat (natBytes 6 c.mac.toNat).reverse⟩, ⟨20, 8, x.changedPeriod⟩] s) s

def execPortStatus (src : Source) (c : Cmd) (s : State) : Host.Outcome State Fault Refusal :=
  .next (takeCommand .portStatus src c (portObject c) portStatusBegin s)

/-- A port whose receive side runs: enabled, out of reset. -/
def State.portRuns (s : State) (p : Nat) : Bool :=
  (s.port p).state == .down || (s.port p).state == .up

/-- A port loses block lock (12 R363, R381) (DEDUCED, log 66). -/
def lockLost (p : Nat) (midFrame : Bool) (s : State) : State :=
  if !s.portRuns p || !(s.port p).blockLock then s
  else
    let s1 := linkChange p (fun s => setLane p (fun x => { x with blockLockAt := none })
      (setPort p (fun x => { x with blockLock := false, fecLock := false }) s)) s
    let s2 := count (portCtr p 48) s1
    if midFrame then count (portCtr p 20) s2 else s2

/-- BLOCK_LOCK_LOSS (12 R363, R381) (DEDUCED, log 66). -/
def execBlockLockLoss (port : Fin 8) (midFrame : Bool) (s : State) : Host.Outcome State Fault Refusal :=
  .next (lockLost port.val midFrame s)

/-- M_LANE_BLOCK_LOCK (14 R429): with FEC the alignment lock comes with it (12 R362). A loss that returns while the port is
still UP is a transient upset (12 R363; 16 Table 16-1, R502). -/
def execMLaneBlockLock (port : Fin 8) (s : State) : Host.Outcome State Fault Refusal :=
  .next <|
    let p := port.val
    if !s.portRuns p || !(s.lane p).cdrLocked then s
    else
      let s1 := linkChange p (fun s => setLane p (fun x => { x with blockLockAt := some s.now })
        (setPort p (fun x => { x with blockLock := true, fecLock := (s.portCfg p).fec }) s)) s
      if (s.port p).state = .up && !(s.port p).blockLock then logFault 1 6 p 11 0 0 0 s1 else s1

/-- M_LANE_POLARITY_CHECK: 1 ms after block lock the polarity is decided, once in a bring-up, and 1 ms later the lane is
READY (14 R429). With RX_POLARITY_FIXED no check is made. -/
def execMLanePolarityCheck (port : Fin 8) (inverted : Bool) (s : State) : Host.Outcome State Fault Refusal :=
  .next <|
    let p := port.val
    let x := s.lane p
    match x.blockLockAt with
    | some t =>
      if x.state = .training ∧ s.portRuns p then
        let s1 := advance (t + 1000000) s
        let fix := inverted && !x.polarityDone && !(s.laneCfg p).rxPolarityFixed
        let s2 := if fix then count (laneCtr p 4) (setLane p (fun x => { x with polarityInverted := true }) s1) else s1
        let s3 := setLane p (fun x => { x with polarityDone := true }) (advance (t + 2000000) s2)
        linkChange p (laneTo p .ready 1) s3
      else s
    | none => s

/-- PORT_LINK_UP_HOLD: link-good for 10 ms (12 R363). -/
def execPortLinkUpHold (port : Fin 8) (s : State) : Host.Outcome State Fault Refusal :=
  .next <|
    let p := port.val
    if (s.port p).state = .down ∧ s.linkGood p then
      portTo p .up 0 (advance ((s.port p).linkSince + 10000000) s)
    else s

/-- PORT_LINK_DOWN_HOLD: not link-good for 20 ms; the lane goes back to its bring-up (12 R363, 14 R429). -/
def execPortLinkDownHold (port : Fin 8) (s : State) : Host.Outcome State Fault Refusal :=
  .next <|
    let p := port.val
    let x := s.port p
    if x.state = .up ∧ !s.linkGood p then
      let cause := if x.hiBer then 2 else if x.localFault || x.remoteFault then 3 else 1
      let s1 := portTo p .down cause (advance (x.linkSince + 20000000) s)
      laneBringup p (if (s.lane p).cdrLocked then 8 else 2) (setPort p clearLink s1)
    else s

/-- LOCAL_FAULT and REMOTE_FAULT (12 R361, R371). -/
def execLocalFault (port : Fin 8) (on : Bool) (s : State) : Host.Outcome State Fault Refusal :=
  .next <|
    let p := port.val
    if !s.portRuns p then s
    else
      let entered := on && !(s.port p).localFault
      let s1 := linkChange p (setPort p fun x => { x with localFault := on }) s
      if entered then count (portCtr p 53) s1 else s1

def execRemoteFault (port : Fin 8) (on : Bool) (s : State) : Host.Outcome State Fault Refusal :=
  .next <|
    let p := port.val
    if !s.portRuns p then s
    else
      let entered := on && !(s.port p).remoteFault
      let s1 := linkChange p (setPort p fun x => { x with remoteFault := on }) s
      if entered then count (portCtr p 54) s1 else s1

/-- HI_BER (12 R362, R371). -/
def execHiBer (port : Fin 8) (on : Bool) (s : State) : Host.Outcome State Fault Refusal :=
  .next <|
    let p := port.val
    if !s.portRuns p then s
    else
      let entered := on && !(s.port p).hiBer
      let s1 := linkChange p (setPort p fun x => { x with hiBer := on }) s
      if entered then count (portCtr p 47) s1 else s1

/-- PTP_PORT_SET's parameters (13 Table 13-6). -/
def ptpPortChecks (c : Cmd) : List Check :=
  let udp := decide (prmByte c 19 ≠ 0)
  [within c 16 1 0 7, reservedBits c 17 1 3, within c 18 1 0 3, within c 19 1 0 2, within c 40 1 0 63,
   need 42 (!(prmNet c 42 6).testBit 40),
   need 24 (udp || prm c 24 16 == 0),
   need 41 (if udp then prmByte c 41 != 0 else prmByte c 41 == 0),
   need 42 (udp || prm c 42 6 == 0)]

def ptpPortOf (c : Cmd) : PtpPortCfg :=
  { enable := (prmByte c 17).testBit 0, nonForward := (prmByte c 17).testBit 1, tb := prmByte c 18,
    transport := prmByte c 19, outerTag := BitVec.ofNat 16 (prm c 20 2), innerTag := BitVec.ofNat 16 (prm c 22 2),
    localIp := BitVec.ofNat 128 (prmNet c 24 16), dscp := prmByte c 40, hopLimit := prmByte c 41,
    nextHopMac := BitVec.ofNat 48 (prmNet c 42 6), peerIp := BitVec.ofNat 128 (prmNet c 48 16) }

/-- PTP_PORT_SET (13 R409, R412). PEER_IP beside another profile than G.8275.2 is outside Table 13-6. -/
def ptpPortSetBegin (e : Entry) (s : State) : State :=
  let c := e.cmd
  checked e runModes (ptpPortChecks c)
    (fun s =>
      let p := prmByte c 16
      let new := ptpPortOf c
      let old := s.cfg.ptpPorts.getD p {}
      let tb := s.tbCfg new.tb
      let others := (List.range 8).any fun q => q != p
        && (s.cfg.ptpPorts.getD q {}).enable && (s.cfg.ptpPorts.getD q {}).tb == new.tb
      let conflict := (tb.profile == 1 && new.transport != 0) || (tb.profile == 2 && new.transport == 0)
      if !(prm c 48 16 == 0 || tb.profile == 2) then finishBadArg e 48 s
      else if new.enable && (old.enable && old.tb != new.tb || (tb.role == 1 && others) || conflict || tb.role == 0) then
        finish e stDenied [] s
      else finish e stDone [] { s with cfg := { s.cfg with ptpPorts := s.cfg.ptpPorts.set p new } }) s

def ptpObject (c : Cmd) : List Obj := [.ptpPort (prmByte c 16)]

def execPtpPortSet (src : Source) (c : Cmd) (s : State) : Host.Outcome State Fault Refusal :=
  .next (takeCommand .ptpPortSet src c (ptpObject c) ptpPortSetBegin s)

end Sys2Proof.Machine
end

