-- ==== Sys2Proof/Machine/Lanes.lean ====
section
/-!
DEFINITION. The lanes at work: T-lane bring-up, the starts of a Tylane link, eye scans, PRBS, injection, loopbacks and the
lane commands (14 R429 to R445; 15 R464, R466).
-/
namespace Sys2Proof.Machine



/-- A link is enabled: below d of SIZE 2^d in the modes with a member, or any link while the ROM boots over Tylane (14
R428; 15 R456, R475). -/
def State.linkEnabled (s : State) (k : Nat) : Bool :=
  if s.running then decide (2 ^ k < s.cfg.clusterSize)
  else s.mode.current = .loader && s.boot.straps.bootSrc = 1

/-- A half of a link without a retired lane (15 R466). -/
def State.halfWhole (s : State) (k half : Nat) : Bool :=
  (List.range 4).all fun j => !s.laneRetired (laneOfLink k (4 * half + j))

/-- A lane of an enabled link starts, unless it is retired or in a test (14 R428; 16 R500). -/
def startTLane (cause l : Nat) (s : State) : State :=
  if s.laneRetired l then laneOff l cause s
  else if (s.lane l).tested then s
  else laneBringup l cause s

/-- A link's bring-up starts anew; what awaits acknowledgement stays in its replay buffer (15 R460, R464, R466). -/
def linkStart (k cause : Nat) (s : State) : State :=
  let down := !s.halfWhole k 0 && !s.halfWhole k 1
  let s1 := setLink k (fun l => { l with state := if down then .down else .training, width := 0, half := 0xFF, probes := 0,
                                         trainingSince := s.now }) s
  (List.range 8).foldl (fun st j => startTLane cause (laneOfLink k j) st) s1

/-- A link is switched off (15 R456). -/
def linkStop (k cause : Nat) (s : State) : State :=
  (List.range 8).foldl (fun st j => laneOff (laneOfLink k j) cause st)
    (setLink k (fun _ => { state := .disabled }) s)

/-- Every link takes its state from the mode and SIZE. -/
def linksApply (cause : Nat) (s : State) : State :=
  (List.range 4).foldl (fun st k =>
    let on := st.linkEnabled k
    if on && (st.tyLink k).state == .disabled then linkStart k cause st
    else if !on && (st.tyLink k).state != .disabled then linkStop k cause st
    else st) s

/-- LANE_SIGNAL_DETECT: the CDR locks; a media lane starts to adapt (14 R424, R429). -/
def execLaneSignalDetect (lane : Fin 40) (s : State) : Host.Outcome State Fault Refusal :=
  .next <|
    let l := lane.val
    let x := s.lane l
    if x.state = .off ∨ x.state = .fault ∨ x.cdrLocked ∨ s.testPort.pinsTaken then s
    else
      let s1 := setLane l (fun x => { x with cdrLocked := true }) s
      if l < 8 ∧ x.state = .training then count (laneCtr l 5) s1 else s1

/-- A lane's CDR loses lock: the lane seeks it again, and a T-lane loses its alignment with it (14 R432; 16 Table 16-1). -/
def cdrLost (l : Nat) (s : State) : State :=
  let x := s.lane l
  if !x.cdrLocked then s
  else
    let s1 := count (laneCtr l 0)
      (setLane l (fun x => { x with cdrLocked := false, aligned := false, checkerLocked := false }) s)
    if 8 ≤ l ∧ x.state = .ready then logFault 1 1 l 11 0 0 0 s1 else s1

/-- LANE_CDR_LOSS (14 R432). -/
def execLaneCdrLoss (lane : Fin 40) (s : State) : Host.Outcome State Fault Refusal :=
  .next (cdrLost lane.val s)

/-- The aligned lanes of a link all read j, or all read 7 − j (14 R431, R450). -/
def State.mapStraight (s : State) (k : Nat) : Bool :=
  (List.range 8).all fun j => !(s.lane (laneOfLink k j)).aligned || (s.lane (laneOfLink k j)).laneId == j

def State.mapReversed (s : State) (k : Nat) : Bool :=
  (List.range 8).all fun j => !(s.lane (laneOfLink k j)).aligned || (s.lane (laneOfLink k j)).laneId == 7 - j

/-- A lane map fault: every lane of the link in FAULT, the link down (14 R431). -/
def mapFault (k l : Nat) (s : State) : State :=
  let s1 := count (laneCtr l 7)
    (setLink k (fun x => { x with state := .down, width := 0, half := 0xFF, trainingSince := s.now }) s)
  (List.range 8).foldl (fun st j =>
    let x := laneOfLink k j
    if (st.lane x).state = .off ∨ (st.lane x).state = .test then st else laneTo x .fault 4 st) s1

/-- T_LANE_COMMA_ALIGN (14 R430 to R432, R449, R450): polarity first, then the map. -/
def execTLaneCommaAlign (lane : Fin 32) (inverted : Bool) (laneId : Nat) (s : State) :
    Host.Outcome State Fault Refusal :=
  .next <|
    let l := tLane lane.val
    let k := linkOfLane l
    let x := s.lane l
    if !x.cdrLocked || x.aligned then s
    else if x.state = .ready then setLane l (fun x => { x with aligned := true }) s
    else if x.state = .training then
      let fix := inverted && !(s.laneCfg l).rxPolarityFixed
      let s1 := setLane l (fun x => { x with aligned := true, laneId := laneId, polarityDone := true,
                                             polarityInverted := x.polarityInverted || fix }) s
      let s2 := if fix then count (laneCtr l 4) s1 else s1
      if s2.mapStraight k then laneTo l .ready 1 s2
      else if s2.mapReversed k then laneTo l .ready 1 (setLane l (fun x => { x with mapReversed := true }) s2)
      else mapFault k l s2
    else s

/-- T_LANE_ALIGN_LOSS (14 R432; 16 Table 16-1). -/
def execTLaneAlignLoss (lane : Fin 32) (codeErrors disparityErrors : Nat) (s : State) :
    Host.Outcome State Fault Refusal :=
  .next <|
    let l := tLane lane.val
    if !(s.lane l).aligned then s
    else
      let s1 := countBy (laneCtr l 3) disparityErrors (countBy (laneCtr l 2) codeErrors s)
      let s2 := count (laneCtr l 1) (setLane l (fun x => { x with aligned := false }) s1)
      if (s.lane l).state = .ready then logFault 1 1 l 11 0 0 0 s2 else s2

/-- LANE_FAULT_RETRY: 100 ms later the link's lanes try again (14 Table 14-3). -/
def execLaneFaultRetry (link : Fin 4) (s : State) : Host.Outcome State Fault Refusal :=
  .next <|
    let k := link.val
    if (List.range 8).any fun j => (s.lane (laneOfLink k j)).state == .fault then
      linkStart k 8 (advance ((s.tyLink k).trainingSince + 100000000) s)
    else s

/-- The eight lanes of a link are READY, or the four of a half (15 R464). -/
def State.halfReady (s : State) (k half : Nat) : Bool :=
  (List.range 4).all fun j =>
    let l := laneOfLink k (4 * half + j)
    (s.lane l).state == .ready && !s.laneRetired l

/-- LANE_SET's parameters (14 Table 14-6): QUERY leaves every other field zero; a nonzero FFE field of a
T-lane is denied instead (14 Table 14-9). -/
def laneSetChecks (c : Cmd) : List Check :=
  let f := prmByte c 17
  let media := decide (prmByte c 16 < 8)
  let query := f.testBit 5
  [within c 16 1 0 39, reservedBits c 17 1 0x3F,
   need 18 (!media || prmByte c 18 == 0 || decide (16 ≤ prmByte c 18 ∧ prmByte c 18 ≤ 63)),
   need 19 (!media || decide (prmByte c 19 ≤ 15)), need 20 (!media || decide (prmByte c 20 ≤ 31)), reservedBytes c 21 64,
   need 17 (!query || f == 32), need 18 (!query || prmByte c 18 == 0), need 18 (query || !media || prmByte c 18 != 0),
   need 19 (!query || prmByte c 19 == 0), need 20 (!query || prmByte c 20 == 0),
   need 20 (!media || decide (prmByte c 18 + prmByte c 19 + prmByte c 20 ≤ 63))]

/-- The RESULT of LANE_SET (14 R439). -/
def laneReport (l : Nat) (s : State) : List Fld :=
  let x := s.lane l
  [⟨8, 1, x.state.code⟩,
   ⟨9, 1, bit x.polarityInverted + 2 * bit x.mapReversed + 4 * bit (s.laneCfg l).adaptFreeze⟩, ⟨10, 1, x.ctle⟩] ++
  ((List.range 5).map fun k => ⟨11 + k, 1, twos 1 (x.dfe.getD k 0)⟩) ++
  [⟨16, 1, x.txMain⟩, ⟨17, 1, x.txPre⟩, ⟨18, 1, x.txPost⟩, ⟨19, 1, x.eqSource⟩]

def finishLane (e : Entry) (l : Nat) (s : State) : State :=
  let s1 := adaptDraw l s
  finish e stDone (laneReport l s1) s1

/-- A lane's bring-up starts again: the port passes through DOWN, or the link restarts (14 R439). -/
def restartLane (l : Nat) (s : State) : State :=
  if l < 8 then
    if s.portRuns l then startPort l 4 8 s else s
  else if (s.tyLink (linkOfLane l)).state ≠ .disabled then linkStart (linkOfLane l) 8 s
  else s

/-- LANE_SET (14 R439, R446). EQ_SOURCE reads 0 where the values are the defaults (DEDUCED, log 108). -/
def laneSetBegin (e : Entry) (s : State) : State :=
  let c := e.cmd
  checked e runModes (laneSetChecks c)
    (fun s =>
      let l := prmByte c 16
      let f := prmByte c 17
      let media := decide (l < 8)
      if f.testBit 5 then finishLane e l s
      else if !media && (f.testBit 3 || prmByte c 18 != 0 || prmByte c 19 != 0 || prmByte c 20 != 0) then
        finish e stDenied [] s
      else
        let old := s.laneCfg l
        let new : LaneCfg := { txInvert := f.testBit 0, rxPolarityFixed := f.testBit 1, rxInvert := f.testBit 2,
                               adaptFreeze := f.testBit 3, txOff := f.testBit 4, txMain := prmByte c 18,
                               txPre := prmByte c 19, txPost := prmByte c 20 }
        let s0 := if new.adaptFreeze && !old.adaptFreeze then adaptDraw l s else s
        let s1 := { s0 with cfg := { s0.cfg with lanes := s0.cfg.lanes.set l new } }
        let s2 := if media then
            setLane l (fun x =>
              { x with txMain := new.txMain, txPre := new.txPre, txPost := new.txPost,
                       eqSource := if new.txMain = 54 ∧ new.txPre = 3 ∧ new.txPost = 6 then 0 else 2 }) s1
          else s1
        let restart := new.txInvert != old.txInvert || new.rxPolarityFixed != old.rxPolarityFixed
          || new.rxInvert != old.rxInvert || new.txOff != old.txOff
        finishLane e l (if restart then restartLane l s2 else s2)) s

def laneObject (c : Cmd) : List Obj := [.lane (prmByte c 16)]

def execLaneSet (src : Source) (c : Cmd) (s : State) : Host.Outcome State Fault Refusal :=
  .next (takeCommand .laneSet src c (laneObject c) laneSetBegin s)

/-- LANE_EQ_TABLE_SET's parameters (14 Tables 14-2, 14-7). -/
def eqTableChecks (c : Cmd) : List Check :=
  let erase := (prmByte c 17).testBit 1
  [within c 16 1 8 39, reservedBits c 17 1 3, reservedBytes c 18 20, reservedBytes c 36 64,
   need 20 (if erase then prm c 20 16 == 0
            else tableOk (prm c 20 4) (prm c 24 4) (prm c 28 4) (prm c 32 4))]

/-- LANE_EQ_TABLE_SET (14 R426, R440, R446): word 0 with VALID 0, words 1 to 3, then word 0. -/
def laneEqTableSetBegin (e : Entry) (s : State) : State :=
  let c := e.cmd
  checked e runModes (eqTableChecks c)
    (fun s =>
      let t := prmByte c 16 - 8
      let w (k : Nat) := prm c (20 + 4 * k) 4
      if (prmByte c 17).testBit 0 && s.mode.current ∉ [.standby, .diagnostic] then finish e stDenied [] s
      else
        let tail := [(tableWord t 1, w 1), (tableWord t 2, w 2), (tableWord t 3, w 3)]
        let words := if (prmByte c 17).testBit 1 then (tableWord t 0, 0) :: tail
                     else (tableWord t 0, w 0 % 2147483648) :: tail ++ [(tableWord t 0, w 0)]
        writeWords e words s) s

def execLaneEqTableSet (src : Source) (c : Cmd) (s : State) : Host.Outcome State Fault Refusal :=
  .next (takeCommand .laneEqTableSet src c (laneObject c) laneEqTableSetBegin s)

/-- After its last word is persistent LANE_EQ_TABLE_SET restarts the link when RESTART asks for it (14 R440). -/
def eqTableDone (e : Entry) (s : State) : State :=
  finish e stDone [] (if (prmByte e.cmd 17).testBit 0 then restartLane (prmByte e.cmd 16) s else s)

/-- A step of an eye scan's grid (14 Table 14-8). -/
def stepOk (n : Nat) : Bool :=
  n == 1 || n == 2 || n == 4 || n == 8

/-- The points of a grid (14 R441). -/
def gridPoints (phaseStep voltStep : Nat) : Nat :=
  (64 / phaseStep + 1) * (128 / voltStep + 1)

/-- EYE_SCAN (14 R441, R446). -/
def eyeScanBegin (e : Entry) (s : State) : State :=
  let c := e.cmd
  checked e runModes
    [within c 16 1 0 39, need 17 (stepOk (prmByte c 17)), need 18 (stepOk (prmByte c 18)), within c 19 1 20 36,
     hostAddr c 24 64, reservedBytes c 32 64]
    (fun s =>
      let l := prmByte c 16
      let points := gridPoints (prmByte c 17) (prmByte c 18)
      if !scannable (s.lane l).state then finish e stDenied [] s
      else if prm c 20 4 < 64 + 8 * points then finish e stNoResource [] s
      else
        let scan : EyeScan := { entry := e.id, lane := l, phaseStep := prmByte c 17, voltStep := prmByte c 18,
                                bitsLog2 := prmByte c 19, buffer := prm c 24 8, points := points, done := 0 }
        let s1 := accept e s
        { s1 with lanes := { s1.lanes with scans := s1.lanes.scans ++ [scan] } }) s

def execEyeScan (src : Source) (c : Cmd) (s : State) : Host.Outcome State Fault Refusal :=
  .next (takeCommand .eyeScan src c (laneObject c) eyeScanBegin s)

/-- The header that ends a scan (14 R441). -/
def scanHeader (x : EyeScan) (done : Nat) (aborted : Bool) (s : State) : State :=
  hostWrite x.buffer (natBytes 64 (layout 0 [⟨0, 2, x.lane⟩, ⟨2, 2, done⟩, ⟨4, 2, x.points⟩, ⟨6, 1, x.bitsLog2⟩,
    ⟨7, 1, bit aborted⟩])) s

def dropScan (x : EyeScan) (s : State) : State :=
  { s with lanes := { s.lanes with scans := s.lanes.scans.filter fun y => y.entry != x.entry } }

/-- The line rate of a lane: the ns that 2^n bits take (14 Table 14-1). -/
def State.bitsNs (s : State) (l n : Nat) : Nat :=
  if 8 ≤ l then 2 ^ n * 2 / 25 else if (s.portCfg l).speed = 0 then 2 ^ n * 32 / 330 else 2 ^ n * 32 / 825

/-- EYE_SCAN_POINT_DONE: the point is written; the next begins unless an abort, the end of the grid or the lane's leaving
READY and TEST ends the scan (14 R434, R441, R446). At phase 0 and voltage 0 no error is ever counted. -/
def execEyeScanPointDone (lane : Fin 40) (errors : Nat) (s : State) : Host.Outcome State Fault Refusal :=
  .next <|
    match s.lanes.scans.find? fun x => x.lane == lane.val with
    | none => s
    | some x =>
      match s.entry x.entry with
      | none => dropScan x s
      | some e =>
        if x.broken then
          finishJob e stDenied [] (scanHeader x x.done false (dropScan x s))
        else
          let volts := 128 / x.voltStep + 1
          let phase : Int := (x.done / volts * x.phaseStep : Nat) - 32
          let volt : Int := (x.done % volts * x.voltStep : Nat) - 64
          let n := if phase = 0 ∧ volt = 0 then 0 else min errors 0xFFFFFFFF
          let s1 := hostWrite (x.buffer + 64 + 8 * x.done)
            (natBytes 8 (layout 0 [⟨0, 1, twos 1 phase⟩, ⟨1, 1, twos 1 volt⟩, ⟨4, 4, n⟩]))
            (advance (s.now + s.bitsNs x.lane x.bitsLog2) s)
          let done := x.done + 1
          if done = x.points then finishJob e stDone [] (scanHeader x done false (dropScan x s1))
          else if !(s1.abortsOf x.entry).isEmpty then cancelJob e (scanHeader x done true (dropScan x s1))
          else { s1 with lanes := { s1.lanes with scans := s1.lanes.scans.map fun y =>
                   if y.entry = x.entry then { y with done := done } else y } }

/-- A lane enters TEST, or leaves it for its bring-up, as its tests now stand (14 R435, R438, R442, R443; 05 R140). -/
def testChanged (l : Nat) (s : State) : State :=
  let x := s.lane l
  if x.tested then
    let s1 := laneTo l .test 5 s
    if l < 8 then linkChange l (laneTo l .test 5) s
    else if (s1.tyLink (linkOfLane l)).state = .disabled then s1
    else setLink (linkOfLane l) (fun k => { k with state := .down, width := 0, half := 0xFF }) s1
  else if x.state = .test then
    let s1 := setLane l (fun x => { x with injectInterval := 0 }) s
    if l < 8 then
      if (s.portCfg l).enable then laneBringup l 5 (setPort l clearLink s1) else laneOff l 5 s1
    else if (s.tyLink (linkOfLane l)).state = .disabled then laneOff l 5 s1
    else linkStart (linkOfLane l) 5 s1
  else s

/-- LANE_LOOPBACK (14 R437, R438, R442): under LOOP 3 the generator cannot run. -/
def laneLoopbackBegin (e : Entry) (s : State) : State :=
  let c := e.cmd
  let l := prmByte c 16
  checked e [.diagnostic] [within c 16 1 0 39, within c 17 1 0 3, reservedBytes c 18 64]
    (fun s =>
      finish e stDone [] (testChanged l (setLane l (fun x =>
        { x with loop := prmByte c 17, prbsGen := if prmByte c 17 = 3 then 0 else x.prbsGen }) s))) s

def execLaneLoopback (src : Source) (c : Cmd) (s : State) : Host.Outcome State Fault Refusal :=
  .next (takeCommand .laneLoopback src c (laneObject c) laneLoopbackBegin s)

/-- PRBS_SET (14 R443, R446). -/
def prbsSetBegin (e : Entry) (s : State) : State :=
  let c := e.cmd
  let l := prmByte c 16
  checked e [.diagnostic] [within c 16 1 0 39, within c 17 1 0 6, reservedBits c 18 1 1, reservedBytes c 19 64]
    (fun s =>
      if (s.lane l).state = .off ∨ (s.lane l).loop = 3 then finish e stDenied [] s
      else finish e stDone [] (testChanged l (setLane l (fun x =>
        { x with prbsGen := prmByte c 17, prbsGenInvert := (prmByte c 18).testBit 0 }) s))) s

def execPrbsSet (src : Source) (c : Cmd) (s : State) : Host.Outcome State Fault Refusal :=
  .next (takeCommand .prbsSet src c (laneObject c) prbsSetBegin s)

/-- The RESULT of PRBS_CHECK (14 R444): counts since the checker started, modulo the counters' width. -/
def prbsReport (l : Nat) (s : State) : List Fld :=
  let x := s.lane l
  let since (n mark : Nat) := (s.counter (laneCtr l n) + 2 ^ 48 - mark) % 2 ^ 48
  [⟨8, 1, bit x.checkerRunning + 2 * bit x.checkerLocked⟩, ⟨12, 8, since 8 x.checkerBits⟩, ⟨20, 8, since 9 x.checkerErrs⟩]

/-- A locked checker has counted on since its last report: how many bits and errors is a free value (14 R435). -/
def prbsDraw (l : Nat) (s : State) : State :=
  if (s.lane l).checkerLocked then
    let bits := s.freeAt 41 % 1099511627776
    drawn (countBy (laneCtr l 9) (s.freeAt 42 % (bits + 1)) (countBy (laneCtr l 8) bits s))
  else s

/-- PRBS_CHECK (14 R444, R446). -/
def prbsCheckBegin (e : Entry) (s : State) : State :=
  let c := e.cmd
  let l := prmByte c 16
  let op := prmByte c 17
  checked e [.diagnostic]
    [within c 16 1 0 39, within c 17 1 0 2, within c 18 1 0 6, reservedBits c 19 1 1, reservedBytes c 20 64,
     need 18 (if op = 1 then prmByte c 18 != 0 else prmByte c 18 == 0), need 19 (op == 1 || prmByte c 19 == 0)]
    (fun s =>
      if op = 1 then
        let s1 := setLane l (fun x =>
          { x with checker := prmByte c 18, checkerInvert := (prmByte c 19).testBit 0, checkerRunning := true,
                   checkerStarted := true, checkerLocked := false, checkerBits := s.counter (laneCtr l 8),
                   checkerErrs := s.counter (laneCtr l 9) }) s
        let s2 := testChanged l s1
        finish e stDone (prbsReport l s2) s2
      else if !(s.lane l).checkerStarted then finish e stDenied [] s
      else if op = 0 then finish e stDone (prbsReport l (prbsDraw l s)) (prbsDraw l s)
      else
        let s1 := setLane l (fun x => { x with checkerRunning := false, checkerLocked := false }) (prbsDraw l s)
        let report := prbsReport l s1
        finish e stDone report (testChanged l s1)) s

def execPrbsCheck (src : Source) (c : Cmd) (s : State) : Host.Outcome State Fault Refusal :=
  .next (takeCommand .prbsCheck src c (laneObject c) prbsCheckBegin s)

/-- One inverted bit (14 R436), which the lane's own locked checker sees in a near-end loopback (R454). -/
def injectBit (l : Nat) (s : State) : State :=
  let s1 := count (laneCtr l 11) s
  let x := s.lane l
  if (x.loop = 1 ∨ x.loop = 2) ∧ x.checkerLocked then count (laneCtr l 9) s1 else s1

/-- ERROR_INJECT (14 R445, R446). A single error ends a repeated injection (DEDUCED, log 108). -/
def errorInjectBegin (e : Entry) (s : State) : State :=
  let c := e.cmd
  let l := prmByte c 16
  let op := prmByte c 17
  checked e [.diagnostic]
    [within c 16 1 0 39, within c 17 1 0 2, reservedBytes c 18 24,
     need 24 (prm c 24 8 == 0 || decide (1000 ≤ prm c 24 8 ∧ prm c 24 8 ≤ 1000000000000)), reservedBytes c 32 64,
     need 24 (if op = 2 then prm c 24 8 != 0 else prm c 24 8 == 0)]
    (fun s =>
      if (s.lane l).state = .off then finish e stDenied [] s
      else
        let s1 := setLane l (fun x => { x with injectInterval := if op = 2 then prm c 24 8 else 0 }) s
        finish e stDone [] (if op = 1 then injectBit l s1 else s1)) s

def execErrorInject (src : Source) (c : Cmd) (s : State) : Host.Outcome State Fault Refusal :=
  .next (takeCommand .errorInject src c (laneObject c) errorInjectBegin s)

/-- ERROR_INJECT_INTERVAL (14 R436). -/
def execErrorInjectInterval (lane : Fin 40) (s : State) : Host.Outcome State Fault Refusal :=
  .next <|
    let x := s.lane lane.val
    if x.injectInterval = 0 ∨ x.state = .off then s else injectBit lane.val s

/-- PRBS_CHECKER_LOCK (14 R435). -/
def execPrbsCheckerLock (lane : Fin 40) (s : State) : Host.Outcome State Fault Refusal :=
  .next <|
    if (s.lane lane.val).checkerRunning then setLane lane.val (fun x => { x with checkerLocked := true }) s else s

/-- PRBS_LOCK_LOSS: the bits and errors counted while it was locked, then the loss (14 R435). -/
def execPrbsLockLoss (lane : Fin 40) (bits errors : Nat) (s : State) : Host.Outcome State Fault Refusal :=
  .next <|
    let l := lane.val
    if (s.lane l).checkerLocked then
      count (laneCtr l 10) (countBy (laneCtr l 9) errors (countBy (laneCtr l 8) bits
        (setLane l (fun x => { x with checkerLocked := false }) s)))
    else s

end Sys2Proof.Machine
end

