-- ==== Sys2Proof/Machine/Governor.lean ====
section
/-!
DEFINITION. The pace governor (02 R41 to R46, R57 to R67) and the rail watch (02 R36).
-/
namespace Sys2Proof.Machine

/-- The rated-point voltage of the configuration. -/
def State.pointVoltage (s : State) : Nat :=
  pointMv s.cfg.governor.point

/-- The lowest rated point, at or below the configured one, whose coins cover every engine, and never below the floor (02
R41, Table 2-3). -/
def State.ratedTarget (s : State) : Nat :=
  let busiest := (List.range 64).foldl (fun n e => max n (s.coinsOn e)) 0
  max s.cfg.governor.floorMv
    (pointMv (((List.range (s.cfg.governor.point + 1)).find? fun p => decide (busiest ≤ ratedCoins p)).getD
      s.cfg.governor.point))

/-- The write at the governor's start still waits for its check, before which no mode rule acts (02 R42). -/
def State.startUnchecked (s : State) : Bool :=
  decide (s.gov.ackedMv = 0) && !s.gov.checks.isEmpty

/-- An AVSBus target written: its check falls due 200 µs later (02 R45) (DEDUCED, log 61). -/
def writeTarget (mv : Nat) (s : State) : State :=
  { s with gov := { s.gov with targetMv := mv, checks := s.gov.checks ++ [(s.now + 200000, mv)] } }

/-- A voltage step, counted by its direction (02 R46). -/
def stepTarget (mv : Nat) (s : State) : State :=
  if mv = s.gov.targetMv then s
  else
    let up := decide (s.gov.targetMv < mv)
    let s1 := writeTarget mv s
    let s2 := if up then { s1 with gov := { s1.gov with spareSince := none } }
              else { s1 with gov := { s1.gov with lastStepDown := s1.now } }
    count (devCtr (if up then 2 else 3)) s2

/-- 25 mV toward a target, the step of 02 R44 (DEDUCED, log 57). -/
def toward (from_ goal : Nat) : Nat :=
  if from_ < goal then min (from_ + 25) goal else max (from_ - 25) goal

/-- The governor starts as Rhoper enters STANDBY: the rated-point voltage at once, counted as no step (02 R42). -/
def governorStart (s : State) : State :=
  let s1 := writeTarget s.pointVoltage s
  { s1 with gov := { s1.gov with started := true, spareSince := none } }

/-- PACE_LOW for one monitor, at most once a second (02 R61). -/
def paceLow (m : Nat) (s : State) : State :=
  let quiet := match s.gov.paceLowAt.getD m none with
    | some t => decide (s.now < t + 1000000000)
    | none => false
  if quiet then s
  else raise evPaceLow
    [⟨16, 1, m⟩, ⟨17, 1, bit (s.gateFallback m)⟩, ⟨18, 2, s.paceIndex m⟩, ⟨20, 2, s.monitorReq m⟩,
     ⟨22, 2, s.tele.rails.getD 0 0⟩, ⟨24, 2, s.gov.targetMv⟩]
    { s with gov := { s.gov with paceLowAt := s.gov.paceLowAt.set m (some s.now) } }

/-- The target that a command's raise goes to: the rated point, or where a GOVERNOR_SET waits in RATED its rated target (02
R58, R64). -/
def State.raiseGoal (s : State) : Nat :=
  if !s.gov.raiseWaiters.isEmpty || s.cfg.governor.mode = 0 then s.pointVoltage
  else if s.cfg.governor.mode = 1 then s.ratedTarget
  else max s.cfg.governor.floorMv (min s.gov.targetMv s.pointVoltage)

/-- A command waits for a raise that has not reached its goal: 25 mV in each period, so that the rated point is reached
within the 750 µs of 02 R44. -/
def State.raiseUnderWay (s : State) : Bool :=
  (s.gov.setEntry.isSome || !s.gov.raiseWaiters.isEmpty) && decide (s.gov.targetMv < s.raiseGoal)

/-- The governor's rule for one period (02 R41, R43, R44, R61, R63 to R65); a target that a change of the settings has left
outside the floor and the point comes back between them (DEDUCED, log 57). -/
def governorPeriod (s : State) : State :=
  if !s.gov.started || !s.rhoper then s
  else
    let short := s.shortMonitors
    let atPoint := s.gov.targetMv = s.pointVoltage
    let s1 := if atPoint then short.foldl (fun st m => paceLow m st) s else s
    let s2 := { s1 with gov := { s1.gov with
      spareSince := if s.spare && short.isEmpty && decide (s.cfg.governor.mode = 2) then
        (s.gov.spareSince.orElse fun _ => some s.now) else none,
      loadChangedIn := s1.gov.loadChangedIn - 1 } }
    if s2.gov.fault && s2.gov.setEntry.isNone || s2.startUnchecked then s2
    else if s2.raiseUnderWay then stepTarget (toward s2.gov.targetMv s2.raiseGoal) s2
    else match s2.cfg.governor.mode with
      | 0 => stepTarget (toward s2.gov.targetMv s2.pointVoltage) s2
      | 1 =>
        let want := s2.ratedTarget
        if want < s2.gov.targetMv ∧ s2.gov.loadChangedIn ≠ 0 then s2
        else stepTarget (toward s2.gov.targetMv want) s2
      | _ =>
        if s2.pointVoltage < s2.gov.targetMv then stepTarget s2.pointVoltage s2
        else if s2.gov.targetMv < s2.cfg.governor.floorMv then stepTarget (toward s2.gov.targetMv s2.cfg.governor.floorMv) s2
        else if short.isEmpty then s2 else stepTarget (min (s2.gov.targetMv + 25) s2.pointVoltage) s2

/-- GOVERNOR_STEP_DOWN: in TRACKING, spare held for 1 s and no step down in the last 100 ms (02 R43, R64). -/
def execGovernorStepDown (s : State) : Host.Outcome State Fault Refusal :=
  .next <|
    match s.gov.spareSince with
    | none => s
    | some t =>
      if s.rhoper && s.gov.started && !s.gov.fault && decide (s.cfg.governor.mode = 2) && decide (s.gov.loadChangedIn = 0)
          && !s.raiseUnderWay then
        let s1 := advance (max (t + 1000000000) (s.gov.lastStepDown + 100000000)) s
        stepTarget (max (s1.gov.targetMv - 5) s1.cfg.governor.floorMv) s1
      else s

/-- GOVERNOR_FAULT's DATA (02 R61). -/
def governorFaultData (kind target rail held : Nat) : List Fld :=
  [⟨16, 1, kind⟩, ⟨17, 1, 3⟩, ⟨18, 2, target⟩, ⟨20, 2, rail⟩, ⟨22, 2, held⟩]

/-- A failed AVSBus check (02 R45, R61, R63) of the write of `failed`: the third in a row is a governor fault, which ends a
waiting raise (DEDUCED, log 61). HELD_MV is the failed target itself while none was ever acknowledged
(DESIGN CHOICE, log 84). -/
def avsFail (kind failed rail : Nat) (s : State) : State :=
  let s1 := count (devCtr 1) { s with gov := { s.gov with failures := s.gov.failures + 1 } }
  if s1.gov.failures < 3 then
    if (s1.gov.setEntry.isSome || !s1.gov.raiseWaiters.isEmpty) && s1.gov.checks.isEmpty then
      writeTarget s1.gov.targetMv s1
    else s1
  else
    let held := if s1.gov.ackedMv = 0 then failed else s1.gov.ackedMv
    let s2 := { s1 with gov := { s1.gov with fault := true, failures := 0, targetMv := held, setEntry := none, checks := [] } }
    let s3 := match s1.gov.setEntry.bind s1.entry with
      | some e => finish e stHwFault [] s2
      | none => s2
    raise evGovernorFault (governorFaultData kind failed rail held) s3

/-- The waiting GOVERNOR_SET is complete once its raise is made and every write of it is checked (02 R58, R63). -/
def raiseOn (s : State) : State :=
  match s.gov.setEntry.bind s.entry with
  | none => s
  | some e =>
    if s.raiseUnderWay || !s.gov.checks.isEmpty then s
    else finish e stDone [] { s with gov := { s.gov with setEntry := none, fault := false } }

/-- How far the rail lies from the targets between that of the write and the present one (02 R45) (DEDUCED, log 61). -/
def railOff (rail written target : Nat) : Nat :=
  max (min written target - rail) (rail - max written target)

/-- AVS_CHECK's part that concerns the governor: 200 µs after each write the rail is compared with the target (02 R45)
(DEDUCED, log 61). -/
def avsCheck (acknowledged : Bool) (reading : Nat) (s : State) : State :=
  match s.gov.checks with
  | [] => s
  | (due, written) :: rest =>
    let railMv := s.effectiveRail 0 reading
    let s1 := advance due s
    let acked := if acknowledged then written else s1.gov.ackedMv
    let s2 := { s1 with gov := { s1.gov with checks := rest, ackedMv := acked },
                        tele := { s1.tele with rails := s1.tele.rails.set 0 railMv } }
    if !acknowledged then avsFail 0 written railMv s2
    else if 15 < railOff railMv written s2.gov.targetMv then avsFail 1 written railMv s2
    else raiseOn { s2 with gov := { s2.gov with failures := 0 } }

/-- RAIL_LOW, at most once a second; falls while no Rhoper runs count toward the next (02 R36). -/
def railLow (railMv : Nat) (s : State) : State :=
  let g := s.gov
  let first := g.railLowCount = 0
  let s1 := count (devCtr 0) { s with
    gov := { g with railLowCount := g.railLowCount + 1,
                    railLowMin := if first then railMv else min g.railLowMin railMv,
                    railLowTarget := if first ∨ railMv < g.railLowMin then g.targetMv else g.railLowTarget },
    tele := { s.tele with rails := s.tele.rails.set 0 railMv } }
  let quiet := !s.rhoper || (match g.railLowAt with | some t => decide (s.now < t + 1000000000) | none => false)
  if quiet then s1
  else raise evRailLow
    [⟨16, 1, 0⟩, ⟨18, 2, s1.gov.railLowMin⟩, ⟨20, 2, s1.gov.railLowTarget⟩, ⟨24, 4, s1.gov.railLowCount⟩]
    { s1 with gov := { s1.gov with railLowAt := some s.now, railLowCount := 0 } }

/-- VDD_CORE_LOW (02 R36): below 0.64 V, by the rail's effective reading (17 R521), the fall is counted and reported; below
0.60 V, by the supply itself, the core's behaviour is undefined. A reading of 0.64 V or more is no fall
(DESIGN CHOICE, log 71). -/
def execVddCoreLow (railMv : Nat) (s : State) : Host.Outcome State Fault Refusal :=
  if railMv < 600 then .fault .undefinedSupply
  else .next (if s.effectiveRail 0 railMv < 640 then railLow (s.effectiveRail 0 railMv) s else s)

/-- GOVERNOR_SET (02 R57, R58, R63). The new configuration stays in the running settings when the raise then fails and the
command ends in HW_FAULT (DESIGN CHOICE, log 85). -/
def governorSetBegin (e : Entry) (s : State) : State :=
  let c := e.cmd
  let point := prmByte c 17
  let floor := prm c 18 2
  checked e [.standby, .service, .drain]
    [within c 16 1 0 2, within c 17 1 0 2,
     need 18 (decide (650 ≤ floor) && decide (floor ≤ 800) && decide (floor % 5 = 0)), within c 20 1 16 128,
     reservedBytes c 21 64, need 18 (decide (floor ≤ pointMv point))]
    (fun s =>
      if !(List.range 64).all fun n => decide (s.coinsOn n ≤ ratedCoins point) then finish e stNoResource [] s
      else
        let s1 := { s with cfg := { s.cfg with governor :=
          { mode := prmByte c 16, point := point, floorMv := floor, margin := prmByte c 20 } } }
        let low := if s1.cfg.governor.mode = 0 then s1.pointVoltage
                   else if s1.cfg.governor.mode = 1 then s1.ratedTarget
                   else min (max s1.gov.targetMv floor) s1.pointVoltage
        if !s1.gov.started then finish e stDone [] s1
        else if s1.gov.targetMv < low then
          stepTarget (toward s1.gov.targetMv low)
            { s1 with gov := { s1.gov with setEntry := some e.id } }
        else finish e stDone []
          (stepTarget (min s1.gov.targetMv s1.pointVoltage) { s1 with gov := { s1.gov with fault := false } })) s

def governorSetObjects (_ : Cmd) : List Obj := [.governor]

def execGovernorSet (src : Source) (c : Cmd) (s : State) : Host.Outcome State Fault Refusal :=
  .next (takeCommand .governorSet src c (governorSetObjects c) governorSetBegin s)

/-- The pace report (02 Table 2-9). -/
def paceReport (s : State) : List Byte :=
  let g := s.cfg.governor
  let any := (List.range 72).any fun m => s.gateFallback m
  natBytes 16 (layout 0
    [⟨0, 2, s.tele.rails.getD 0 0⟩, ⟨2, 2, s.gov.targetMv⟩, ⟨4, 1, g.mode⟩, ⟨5, 1, g.point⟩, ⟨6, 1, g.margin⟩,
     ⟨7, 1, bit any + 2 * bit s.gov.fault + 4 * bit (s.gov.targetMv == s.pointVoltage)⟩, ⟨8, 2, g.floorMv⟩]) ++
  ((List.range 72).map fun m => natBytes 2 (s.paceIndex m)).flatten ++
  ((List.range 64).map fun e => natBytes 2 (s.monitorReq e)).flatten ++
  natBytes 2 s.fabricReq ++ List.replicate 222 0

/-- PACE_REPORT (02 R59). -/
def paceReportBegin (e : Entry) (s : State) : State :=
  let c := e.cmd
  checked e runModes [hostAddr c 16 64, reservedBytes c 24 64]
    (fun s => finish e stDone [] (hostWrite (prm c 16 8) (paceReport s) s)) s

def execPaceReport (src : Source) (c : Cmd) (s : State) : Host.Outcome State Fault Refusal :=
  .next (takeCommand .paceReport src c [] paceReportBegin s)

/-- New work may be admitted at the present supply: no governor fault with the rail more than 15 mV below the rated
point (02 R63). -/
def State.supplyAdmits (s : State) : Bool :=
  !(s.gov.fault && decide (s.tele.rails.getD 0 0 + 15 < s.pointVoltage))

/-- Admitting `more` coins on an engine needs VDD_CORE raised first: in RATED as in TRACKING, the measured pace indices say
whether the new requirement is short (02 R64) (DEDUCED, log 86). -/
def State.needsRaise (s : State) (e more : Nat) : Bool :=
  s.gov.started && decide (s.cfg.governor.mode ≠ 0) && decide (s.gov.targetMv < s.pointVoltage)
    && (decide (s.paceIndex e < ceilDiv ((s.coinsOn e + more) * (256 + s.cfg.governor.margin)) 256)
        || (List.range' 64 8).any fun m =>
          decide (s.paceIndex m < ceilDiv ((s.deviceCoins + more) * (256 + s.cfg.governor.margin)) 16384))

/-- The raise to the rated point begins (02 R64). -/
def raiseRail (s : State) : State :=
  stepTarget (toward s.gov.targetMv s.pointVoltage) s

/-- A command waits for the raise to the rated point (02 R64). -/
def waitRaise (e : Entry) (s : State) : State :=
  let s1 := raiseRail s
  { s1 with gov := { s1.gov with raiseWaiters := s1.gov.raiseWaiters ++ [e.id] } }

/-- An admission or release: a step down waits for the second following period (02 R64). -/
def loadChanged (s : State) : State :=
  { s with gov := { s.gov with loadChangedIn := 2 } }

end Sys2Proof.Machine
end

