-- ==== Sys2Proof/Machine/Program.lean ====
section
/-!
DEFINITION. Channel programs (09 Tables 9-1, 9-2, 9-5; R259 to R262, R269, R270): their checks, coins, rates and payloads.
A program is bytes 24 to 43 of CHANNEL_OPEN or CHANNEL_MODIFY.
-/
namespace Sys2Proof.Machine

/-- Byte `o` (24 to 43) of a program. -/
def pb (p : BitVec 160) (o : Nat) : Nat :=
  bitsOf p.toNat (8 * (o - 24)) 8

/-- The program that a command carries. -/
def programOf (c : Cmd) : BitVec 160 :=
  BitVec.ofNat 160 (prm c 24 20)

/-- The modes of a codec (09 Table 9-1). -/
def codecModes (codec : Nat) : Nat :=
  match codec with
  | 3 => 3
  | 4 => 4
  | 6 => 8
  | 7 => 9
  | 8 => 7
  | 9 => 3
  | _ => 1

/-- Audio rate in kHz of a codec and mode (09 Table 9-1). -/
def codecRate (codec mode : Nat) : Nat :=
  match codec with
  | 3 | 7 => 16
  | 8 => if mode ≤ 3 then 16 else 32
  | 9 => if mode = 0 then 8 else if mode = 1 then 16 else 24
  | _ => 8

/-- RTP clock rate in kHz of a codec: that of its payload format. -/
def codecClock (codec : Nat) : Nat :=
  match codec with
  | 7 | 8 => 16
  | 9 => 48
  | _ => 8

/-- Leg coins (09 Table 9-1). -/
def legCoins (codec mode : Nat) : Nat :=
  match codec with
  | 3 | 4 => 4
  | 5 => 10
  | 6 => 12
  | 7 => 20
  | 8 => if mode ≤ 3 then 36 else 40
  | 9 => if mode = 0 then 20 else if mode = 1 then 26 else 30
  | _ => 1

/-- A packet time that a codec allows (09 Table 9-1). -/
def ptimeOk (codec ptime : Nat) : Bool :=
  if codec = 0 ∨ codec = 0x10 ∨ codec = 0x11 then ptime == 0
  else if codec = 6 ∨ codec = 7 ∨ codec = 8 then ptime == 20 || ptime == 40 || ptime == 60
  else ptime == 10 || ptime == 20 || ptime == 30 || ptime == 40 || ptime == 60

/-- Echo canceller coins (09 Table 9-2). -/
def tailCoins (tail : Nat) : Option Nat :=
  match tail with
  | 0 => some 0
  | 16 => some 1
  | 32 => some 2
  | 48 => some 2
  | 64 => some 3
  | 96 => some 4
  | 128 => some 5
  | _ => none

/-- Leg B of these codecs has no RTP program of its own. -/
def noRtp (codec : Nat) : Bool :=
  codec == 0 || codec == 0x10 || codec == 0x11

/-- The coins of a program (09 R262); `conf` that the channel is a conference leg. -/
def programCoins (p : BitVec 160) (conf : Bool) : Nat :=
  if pb p 25 = 0x10 then 20
  else legCoins (pb p 24) (pb p 26) + legCoins (pb p 25) (pb p 27) + (tailCoins (pb p 36)).getD 0 + 3 * bit conf

/-- OPTS bits (09 Table 9-5). -/
def vadA (p : BitVec 160) : Bool := (pb p 40).testBit 0
def vadB (p : BitVec 160) : Bool := (pb p 40).testBit 1
def vbd (p : BitVec 160) : Bool := (pb p 40).testBit 5

/-- Leg-wise fields of a program; `l` is 0 for A and 1 for B. -/
def legCodec (p : BitVec 160) (l : Nat) : Nat := pb p (24 + l)
def legMode (p : BitVec 160) (l : Nat) : Nat := pb p (26 + l)
def legPtime (p : BitVec 160) (l : Nat) : Nat := pb p (28 + l)
def legPt (p : BitVec 160) (l : Nat) : Nat := pb p (30 + l)
def legTelPt (p : BitVec 160) (l : Nat) : Nat := pb p (32 + l)
def legCnPt (p : BitVec 160) (l : Nat) : Nat := pb p (34 + l)
def legVad (p : BitVec 160) (l : Nat) : Bool := (pb p 40).testBit l
def legDtmf (p : BitVec 160) (l : Nat) : Nat := bitsOf (pb p 39) (2 * l) 2

/-- The level of a program: 0 selects 4 (09 Table 9-5). -/
def programLevel (p : BitVec 160) : Nat :=
  if pb p 38 = 0 then 4 else pb p 38

/-- The internal rate in kHz (09 R259); `wide` that the conference mixes at 16 kHz. -/
def internalRate (p : BitVec 160) (conf wide : Bool) : Nat :=
  let a := codecRate (pb p 24) (pb p 26)
  let b := if noRtp (pb p 25) then 8 else codecRate (pb p 25) (pb p 27)
  if conf && wide then 16 else max a b

/-- Comfort noise needs a CN payload type: VAD on codecs 0x01 to 0x04 (09 Table 9-5). -/
def cnMissing (p : BitVec 160) (l : Nat) : Bool :=
  legVad p l && decide (1 ≤ legCodec p l ∧ legCodec p l ≤ 4) && legCnPt p l == 0xFF

/-- What OPTS.VBD requires (09 R269). A mixer leg is left to the DENIED of Table 9-11 (DEDUCED, log 30). -/
def vbdOk (p : BitVec 160) : Bool :=
  !vbd p || ((pb p 24 == 1 || pb p 24 == 2) && (pb p 25 == 1 || pb p 25 == 2 || pb p 25 == 0x11) && pb p 36 == 0
    && !vadA p && !vadB p && pb p 39 == 0)

def telPtOk (v : Nat) : Bool := v == 0xFF || decide (96 ≤ v ∧ v ≤ 127)
def cnPtOk (v : Nat) : Bool := v == 0xFF || decide (v ≤ 127)
def kbpsOk (v : Nat) : Bool := v == 0 || decide (6 ≤ v ∧ v ≤ 64)
def ptimeOwn (v : Nat) : Bool := v == 10 || v == 20 || v == 30 || v == 40 || v == 60

/-- Bytes 24 to 43 against their own ranges (09 Table 9-5) (DEDUCED, log 30). -/
def programOwn (p : BitVec 160) (mixer : Bool) : List Check :=
  [need 24 (decide (1 ≤ pb p 24 ∧ pb p 24 ≤ 9)),
   need 25 (decide (pb p 25 ≤ 9) || pb p 25 == 0x10 || (mixer && pb p 25 == 0x11)),
   need 26 (decide (pb p 26 ≤ 8)), need 27 (decide (pb p 27 ≤ 8)), need 28 (ptimeOwn (pb p 28)),
   need 29 (pb p 29 == 0 || ptimeOwn (pb p 29)), need 30 (decide (pb p 30 ≤ 127)), need 31 (decide (pb p 31 ≤ 127)),
   need 32 (telPtOk (pb p 32)), need 33 (telPtOk (pb p 33)), need 34 (cnPtOk (pb p 34)), need 35 (cnPtOk (pb p 35)),
   need 36 (tailCoins (pb p 36)).isSome, need 37 (decide (pb p 37 ≤ 15)), need 38 (decide (pb p 38 ≤ 7))] ++
  [need 39 (decide (pb p 39 ≤ 15) && decide (legDtmf p 0 ≠ 3) && decide (legDtmf p 1 ≠ 3)),
   need 40 (decide (pb p 40 ≤ 63)), need 41 (kbpsOk (pb p 41)), need 42 (kbpsOk (pb p 42)),
   need 43 (decide (pb p 43 ≤ 63) && decide (bitsOf (pb p 43) 0 3 ≤ 5) && decide (bitsOf (pb p 43) 3 2 ≤ 2))]

/-- The limits that join fields of a program, in the order of their highest offsets (07 R196, R201). -/
def programJoined (p : BitVec 160) : List Check :=
  let b := pb p 25
  [need 26 (decide (pb p 26 < codecModes (pb p 24))), need 27 (decide (pb p 27 < codecModes b)),
   need 28 (ptimeOk (pb p 24) (pb p 28)), need 29 (ptimeOk b (pb p 29)), need 31 (!noRtp b || pb p 31 == 0),
   need 33 (!noRtp b || pb p 33 == 0xFF), need 35 (!noRtp b || pb p 35 == 0xFF),
   need 36 (b != 0x10 || pb p 36 == 0),
   need 39 ((legDtmf p 0 == 0 || pb p 32 != 0xFF) && (legDtmf p 1 == 0 || pb p 33 != 0xFF)),
   need 40 (!cnMissing p 0 && !cnMissing p 1 && vbdOk p),
   need 41 (if pb p 24 = 9 then pb p 41 != 0 else pb p 41 == 0),
   need 42 (if b = 9 then pb p 42 != 0 else pb p 42 == 0), need 43 (b == 0x10 || pb p 43 == 0)]

/-- CODEC_B 0x10 stands beside a G.711 leg A only (09 Table 9-5). -/
def t38Beside (p : BitVec 160) : Check :=
  need 25 (pb p 25 != 0x10 || pb p 24 == 1 || pb p 24 == 2)

/-- Speech bits of an AMR frame of 20 ms (the payload format of 09 R261). -/
def amrBits (mode : Nat) : Nat :=
  [95, 103, 118, 134, 148, 159, 204, 244].getD mode 244

def amrWbBits (mode : Nat) : Nat :=
  [132, 177, 253, 285, 317, 365, 397, 461, 477].getD mode 477

/-- The bytes of an AMR payload: octet-aligned, or bandwidth-efficient (09 R261). -/
def amrPayload (octet : Bool) (bits frames : Nat) : Nat :=
  if octet then 1 + frames * (1 + (bits + 7) / 8) else (4 + frames * (6 + bits) + 7) / 8

/-- The Opus frames of a packet, and their length in ms (09 R261). -/
def opusFrames (ptime : Nat) : Nat × Nat :=
  match ptime with
  | 10 => (1, 10)
  | 20 => (1, 20)
  | 30 => (3, 10)
  | t => (t / 20, 20)

/-- The bytes of an Opus packet: its frames at OPUS_KBPS, one TOC byte of a code 1 packet for its two frames, or a TOC and a count
byte of a code 3 one for more (09 R261; the payload format). -/
def opusPayload (kbps ptime : Nat) : Nat :=
  let n := opusFrames ptime
  let frame := kbps * n.2 / 8
  if n.1 = 1 then frame else if n.1 = 2 then 1 + 2 * (frame - 1) else 2 + n.1 * (frame - 1)

/-- The mode that an encoder sends in: of AMR and AMR-WB the lower of MODE and the last received CMR (09 R261). -/
def sendMode (p : BitVec 160) (l : Nat) (cmr : Option Nat) : Nat :=
  if legCodec p l = 6 ∨ legCodec p l = 7 then min (legMode p l) (cmr.getD (legMode p l)) else legMode p l

/-- The payload that a codec produces in a mode at a packet time (09 R261, Table 9-1; the payload formats). EVS packets are of
the compact format, one frame for each 20 ms. -/
def voiceBytes (p : BitVec 160) (l mode : Nat) : Nat :=
  let t := legPtime p l
  let octet := (pb p 40).testBit (2 + l)
  match legCodec p l with
  | 1 | 2 => 8 * t
  | 3 => (8 - mode) * t
  | 4 => (2 + mode) * t
  | 5 => t
  | 6 => amrPayload octet (amrBits mode) (t / 20)
  | 7 => amrPayload octet (amrWbBits mode) (t / 20)
  | 8 => t / 20 * [24, 33, 41, 61, 33, 41, 61].getD mode 61
  | 9 => opusPayload (pb p (41 + l)) t
  | _ => 0

/-- The largest payload that a codec and mode produce at a packet time (11 R337). -/
def payloadBytes (p : BitVec 160) (l : Nat) : Nat :=
  voiceBytes p l (legMode p l)

/-- The depth-pool reservation of a leg in granules (11 R337). -/
def granules (p : BitVec 160) (l maxMs : Nat) : Nat :=
  let t := legPtime p l
  if t = 0 then 0 else (maxMs + t - 1) / t * ((payloadBytes p l + 32 + 255) / 256)

end Sys2Proof.Machine
end

