-- ==== Sys2Proof/Machine/Jitter.lean ====
section
/-!
DEFINITION. The jitter buffers (11 R336 to R341, R347, R357): reservation, playout, drops, target delay and the glide
request.
-/
namespace Sys2Proof.Machine

/-- Granules of the depth pool (11 R337). -/
def depthPool : Nat := 63438848

/-- Granules reserved by every leg on this device. -/
def State.reservedGranules (s : State) : Nat :=
  s.voice.channels.foldl (fun n ch => n + ch.legA.jb.reserved + ch.legB.jb.reserved) 0

/-- A leg has a jitter buffer: it is bound to an RTP session (11, before R336). -/
def hasBuffer (ch : Channel) (l : Leg) : Bool :=
  (ch.legOf l).session != 0 && legCodec ch.program (legNum l) != 0x10

/-- The channel's frames are concealed or played by this program once its `next` is in force. -/
def Channel.latest (ch : Channel) : BitVec 160 :=
  match ch.next with
  | some p => p
  | none => ch.program

/-- The present instant in µs. -/
def State.nowUs (s : State) : Nat := s.now / 1000

/-- The 32-bit difference of two RTP timestamps in µs at a clock of `khz`. -/
def stampUs (ts anchor khz : Nat) : Int :=
  signed 32 (ts + 4294967296 - anchor) * 1000 / (khz : Int)

/-- The playout instant of a timestamp on a leg's playout point (11 R338). -/
def JitterBuffer.playout (b : JitterBuffer) (ts khz : Nat) : Option Int :=
  b.anchor.map fun a => (a.2 : Int) + stampUs ts a.1.toNat khz

/-- The frame whose task takes a packet of a playout instant: the first boundary at or after it. -/
def State.frameOfPlayout (s : State) (playoutUs : Int) : Int :=
  (s.alw.frame : Int) + (playoutUs - (s.alw.frameAt / 1000 : Nat) + 9999) / 10000

/-- The frame task of a channel's present frame still waits for its grant. -/
def State.taskWaiting (s : State) (ch : Channel) : Bool :=
  (s.engine ch.engine).ready.any fun t => t.channel == ch.id && t.frame == s.alw.frame && t.kind != .retry

/-- A packet comes too late: the task that needed it has been granted (11 R338). -/
def State.tooLate (s : State) (ch : Channel) (frame : Int) : Bool :=
  decide (frame < s.alw.frame) || (decide (frame = s.alw.frame) && !s.taskWaiting ch)

/-- Bytes of the hot window that a packet takes (11 R336). -/
def windowBytes (bytes : Nat) : Nat :=
  16 + (bytes + 15) / 16 * 16

/-- Bytes that a channel's legs hold in its hot window. -/
def windowUsed (ch : Channel) : Nat :=
  (ch.legA.jb.packets ++ ch.legB.jb.packets).foldl (fun n p => if p.inPool then n else n + windowBytes p.bytes) 0

/-- A leg's playout point is reset (11 R338, R340): the next packet sets it, and the minima are cleared. -/
def resync (b : JitterBuffer) : JitterBuffer :=
  { b with anchor := none, lateEarlyRun := 0, minima := [], secondMinimum := none, lastTs := none }

/-- The least-squares line through minima one second apart, as slope and value one second after the last, in µs
(DEDUCED, log 65). -/
def fitLine (ys : List Int) : Int × Int :=
  let n : Int := ys.length
  let sx : Int := n * (n - 1) / 2
  let sxx : Int := (n - 1) * n * (2 * n - 1) / 6
  let sy := ys.foldl (· + ·) 0
  let sxy := (ys.zipIdx.map fun p => p.1 * (p.2 : Int)).foldl (· + ·) 0
  let den := n * sxx - sx * sx
  if den = 0 then (0, ys.getLast?.getD 0)
  else
    let slope := (n * sxy - sx * sy) / den
    (slope, (sy - slope * sx) / n + slope * n)

/-- How far a transit lies above the line (11 R339) (DEDUCED, log 65). -/
def JitterBuffer.lateness (b : JitterBuffer) (transitUs : Int) : Nat :=
  let base := if b.minima.isEmpty then b.secondMinimum.getD transitUs else (fitLine b.minima).2
  (transitUs - base).toNat

/-- A timestamp extended beyond its 32 bits, by the nearest to the latest one (11 R340) (DEDUCED, log 65). -/
def JitterBuffer.extended (b : JitterBuffer) (ts : Nat) : Int :=
  match b.lastTs with
  | some t => t + signed 32 (ts + 4294967296 - (t % 4294967296).toNat)
  | none => ts

/-- The first packet of a talkspurt (11 R339): the gap runs from the end of the packet before it (DEDUCED, log 65). -/
def talkspurt (marker vad : Bool) (b : JitterBuffer) (stamp : Int) (ptime khz : Nat) : Bool :=
  marker || (vad && match b.lastTs with
    | some t => decide (60000 ≤ (stamp - t) * 1000 / (khz : Int) - 1000 * ptime)
    | none => false)

/-- What an accepted RTP packet is to a leg's buffer. -/
structure MediaPacket where
  seq : Nat
  ts : Nat
  marker : Bool
  ssrc : Word32
  bytes : Nat
  cn : Bool

/-- The counter of a drop, one more late or early packet, and the resync after the eighth (11 R338). -/
def dropPacket (id : Nat) (l : Leg) (ctr : Nat) (run : Bool) (s : State) : State :=
  let s1 := count (legCtr id (legNum l) ctr) s
  if run then setLeg id l (fun x => { x with jb := { x.jb with lateEarlyRun := x.jb.lateEarlyRun + 1 } }) s1 else s1

/-- A packet that its buffer keeps: in the hot window, or in the depth pool (11 R336). The average of R340 moves by the
packet time over 1 s. -/
def keepPacket (ch : Channel) (l : Leg) (m : MediaPacket) (frame : Int) (playoutUs : Int) (s : State) : State :=
  let far := decide ((s.nowUs : Int) + 160000 ≤ playoutUs)
  let full := decide (2048 < windowUsed ch + windowBytes m.bytes)
  let p : HeldPacket := { seq := m.seq, bytes := m.bytes, playoutFrame := frame.toNat, inPool := far || full, cn := m.cn }
  let delay := playoutUs - (s.nowUs : Int)
  let ms : Int := legPtime ch.program (legNum l)
  setLeg ch.id l (fun x =>
    let b := x.jb
    { x with jb := { b with packets := b.packets ++ [p], lateEarlyRun := 0,
                            playedSeqs := (m.seq :: b.playedSeqs).take 512,
                            delayUs := b.delayUs + (delay - b.delayUs) * ms / 1000 } }) s

/-- The jitter buffer manager takes a packet (11 R338 to R341). -/
def jbPacket (ch : Channel) (l : Leg) (m : MediaPacket) (s : State) : State :=
  let khz := codecClock (legCodec ch.program (legNum l))
  let b0 := (ch.legOf l).jb
  let changed := match b0.ssrc with | some x => x != m.ssrc | none => false
  let again := decide (8 ≤ b0.lateEarlyRun) || changed
  let b1 := { (if again then resync b0 else b0) with ssrc := some m.ssrc }
  let s0 := if again then count (legCtr ch.id (legNum l) 21) s else s
  let v := vbd ch.program
  let nominal := b1.cfg.nominalMs
  let stamp := b1.extended m.ts
  let transit : Int := (s.nowUs : Int) - stamp * 1000 / (khz : Int)
  let place :=
    if b1.anchor.isNone then some nominal
    else if !v && talkspurt m.marker (legVad ch.program (legNum l)) b1 stamp (legPtime ch.program (legNum l)) khz then some b1.targetMs
    else none
  let b2 := match place with
    | some ms => { b1 with anchor := some ((m.ts : Int), s.nowUs + 1000 * ms) }
    | none => b1
  let late := b2.lateness transit
  let b3 := { b2 with lastTs := some (max stamp (b1.lastTs.getD stamp)), secondMinimum := some (min transit (b2.secondMinimum.getD transit)),
                      latenessMs := (s.now, (late + 999) / 1000) ::
                        b2.latenessMs.filter fun p => decide (s.now < p.1 + 2000000000),
                      delayUs := if b1.anchor.isNone then 1000 * nominal else b2.delayUs }
  let s1 := setLeg ch.id l (fun x => { x with jb := b3 }) s0
  let play := (b3.playout m.ts khz).getD s.nowUs
  let frame := s1.frameOfPlayout play
  if m.seq ∈ b3.playedSeqs then dropPacket ch.id l 20 false s1
  else if s1.tooLate ch frame then dropPacket ch.id l 18 true s1
  else if (s.nowUs : Int) + 1000 * b3.cfg.maxMs < play then dropPacket ch.id l 19 true s1
  else keepPacket ch l m frame play s1

/-- The skew in ppm: minus the slope of the line through 16 minima (11 R340) (DEDUCED, log 65). -/
def JitterBuffer.skew (b : JitterBuffer) : Int :=
  if b.minima.length < 16 then 0 else -(fitLine b.minima).1

/-- The glide that the manager asks for, in 1/16 ppm (11 R340, R341). -/
def JitterBuffer.glide (b : JitterBuffer) (v : Bool) : Int :=
  let pull := clampInt (-3200) 3200 (160 * (b.delayUs - 1000 * b.targetMs) / 1000)
  16 * b.skew + (if v then 0 else pull)

/-- A packet moves from the depth pool to the hot window. -/
def moveToWindow (id : Nat) (l : Leg) (seq : Nat) (s : State) : State :=
  setLeg id l (fun x => { x with jb := { x.jb with packets := x.jb.packets.map fun q =>
    if q.seq = seq then { q with inPool := false } else q } }) s

/-- The packets due, in order, while the hot window has room and their MEDIA accesses of the Vault are granted; what is
granted of the next stands to its credit while the rest waits for another period (03 R18, R76). -/
def refillPackets (id : Nat) (l : Leg) : List HeldPacket → State → State
  | [], s => s
  | p :: rest, s =>
    match s.channel id with
    | none => s
    | some ch =>
      if 2048 < windowUsed ch + windowBytes p.bytes then refillPackets id l rest s
      else
        let n := ceilDiv p.bytes 64
        let r := pay 0 0 (n - s.alw.mediaCredit) s
        let s1 := { r.1 with alw := { r.1.alw with mediaCredit := if r.2 = 0 then 0 else n - r.2 } }
        if r.2 = 0 then refillPackets id l rest (moveToWindow id l p.seq s1) else s1

/-- Packets of the depth pool move to the hot window in playout order: those due within 160 ms for which there is room,
each when its accesses of the Vault are granted (11 R336; 03 R76) (DESIGN CHOICE, log 17). -/
def refill (id : Nat) (l : Leg) (s : State) : State :=
  match s.channel id with
  | none => s
  | some ch =>
    refillPackets id l
      ((ch.legOf l).jb.packets.filter fun p => p.inPool && decide (p.playoutFrame ≤ s.alw.frame + 16)) s

/-- The frames that a packet of a leg spans. -/
def packetFrames (p : BitVec 160) (l : Nat) : Nat :=
  max 1 (legPtime p l / 10)

/-- What stands in for a lost frame of a leg (09 R261, R269). -/
def concealment (p : BitVec 160) (l : Nat) : DecoderOutput :=
  if vbd p then .silence
  else match legCodec p l with
    | 1 | 2 | 4 => .appendixI 8
    | 3 => .appendixI 16
    | _ => .codecOwn

/-- What a leg's decoder gives for a frame: that of the packet which covers it; without one, comfort noise while the far end may
have stopped sending, silence before the first packet, or concealment (09 R261, R269; 11 R338). -/
def decoderOutput (ch : Channel) (l : Leg) (cover : Option HeldPacket) : DecoderOutput :=
  let n := legNum l
  match cover with
  | some p => if p.cn && decide (legCodec ch.program n ≤ 4) then .comfortNoise else .decoded
  | none =>
    if (ch.legOf l).jb.anchor.isNone then .silence
    else if legVad ch.program n then .comfortNoise
    else concealment ch.program n

/-- A frame that its decoder conceals counts in CONCEALED; silence and comfort noise do not (09 R269, Table 9-7). -/
def DecoderOutput.conceals : DecoderOutput → Bool
  | .appendixI _ | .codecOwn => true
  | _ => false

/-- A frame task takes its leg's packet, or the frame is concealed (11 R338; 09 R261, R269). -/
def playFrame (ch : Channel) (l : Leg) (frame : Nat) (s : State) : State :=
  if !hasBuffer ch l then s
  else
    let n := packetFrames ch.program (legNum l)
    let b := (ch.legOf l).jb
    let covers (p : HeldPacket) : Bool := decide (p.playoutFrame ≤ frame) && decide (frame < p.playoutFrame + n)
    let kept := b.packets.filter fun p => decide (frame + 1 < p.playoutFrame + n)
    let out := decoderOutput ch l (b.packets.find? covers)
    let s1 := setLeg ch.id l (fun x => { x with output := out, jb := { x.jb with packets := kept } }) s
    if out.conceals then count (legCtr ch.id (legNum l) 4) s1 else s1

/-- A changed setting comes into force at a frame boundary; packets beyond the new MAX_MS are dropped, and the
reservation shrinks after them (11 R347, R357). -/
def jbBoundary (ch : Channel) (l : Leg) (s : State) : State :=
  match (ch.legOf l).jb.next with
  | none => s
  | some cfg =>
    let tooLate (p : HeldPacket) : Bool := decide (s.alw.frame + cfg.maxMs / 10 < p.playoutFrame)
    let dropped := ((ch.legOf l).jb.packets.filter tooLate).length
    countBy (legCtr ch.id (legNum l) 19) dropped (setLeg ch.id l (fun x =>
      { x with jb := { x.jb with cfg := cfg, next := none, packets := x.jb.packets.filter fun p => !tooLate p,
                                 reserved := granules ch.program (legNum l) cfg.maxMs,
                                 targetMs := if cfg.fixed then cfg.nominalMs
                                             else max cfg.minMs (min cfg.maxMs x.jb.targetMs) } }) s)

/-- JB_TARGET_UPDATE: each second D_target is set anew and the second's transit minimum joins the last 16 (11 R339,
R340) (DEDUCED, log 65). -/
def execJbTargetUpdate (channel : Word32) (leg : Leg) (s : State) : Host.Outcome State Fault Refusal :=
  .next <|
    match s.channel channel.toNat with
    | none => s
    | some ch =>
      if !hasBuffer ch leg || !s.running then s
      else
        let b := (ch.legOf leg).jb
        let late := (b.latenessMs.filter fun p => decide (s.now < p.1 + 2000000000)).foldl (fun n p => max n p.2) 0
        let want := (legPtime ch.program (legNum leg) + 2 * late + 9) / 10 * 10
        let target := if b.cfg.fixed || vbd ch.program then b.cfg.nominalMs
                      else max b.cfg.minMs (min b.cfg.maxMs want)
        let minima := match b.secondMinimum with | some m => b.minima ++ [m] | none => b.minima
        let recent := minima.drop (minima.length - 16)
        setLeg ch.id leg (fun x =>
          { x with jb := { x.jb with targetMs := target, secondMinimum := none, minima := recent } }) s

/-- The members that are asked for a channel or conference that is not here: the one that a session bound to it here names, the one
whose number it carries, and the others in ascending order (01 R27) (DESIGN CHOICE, log 13). -/
def State.searchOrder (s : State) (id : Nat) : List Nat :=
  let bound := (s.tables.sessions.find? fun x => x.channel == id && id != 0).bind (·.runNode)
  let all := bound.toList ++ id % 16 :: s.otherMembers
  all.eraseDups.filter fun n => decide (n ∈ s.otherMembers) && (s.route n).isSome

/-- The next member is asked to carry the command out; with none left its channel or conference is unknown (01 R27). `aux` keeps those
that remain, and the data that goes with the command stands in `reply`. -/
def askNext (e : Entry) (nodes : List Nat) (s : State) : State :=
  match nodes with
  | [] => finish e stNotFound [] s
  | n :: rest => askRemote e e.cmd n e.reply [] (setEntry e.id (fun x => { x with aux := 9 :: rest }) s)

/-- A channel on this device, or on another member whose Steward is asked (01 R27). -/
def onChannel (e : Entry) (id : Nat) (here : Channel → State → State) (s : State) : State :=
  match s.channel id with
  | some ch => here ch s
  | none => if e.fromPeer then finish e stNotFound [] s else askNext e (s.searchOrder id) s

/-- The program of the suspended is not touched: every other command on such a channel is DENIED (16 R496). -/
def unlessSuspended (e : Entry) (ch : Channel) (go : State → State) (s : State) : State :=
  if ch.state = .suspended then finish e stDenied [] s else go s

/-- JITTER_SET's parameters (11 R347). -/
def jitterChecks (c : Cmd) : List Check :=
  let ten (o : Nat) := need o (decide (prm c o 2 % 10 = 0) && decide (prm c o 2 ≤ 2000))
  [within c 20 1 0 1, within c 21 1 0 1, ten 22, ten 24, ten 26, reservedBytes c 28 64,
   need 24 (decide (prm c 24 2 ≤ prm c 22 2)), need 26 (decide (prm c 22 2 ≤ prm c 26 2) && decide (10 ≤ prm c 26 2))]

def jitterOf (c : Cmd) : JitterCfg :=
  { fixed := prmByte c 21 == 1, nominalMs := prm c 22 2, minMs := prm c 24 2, maxMs := prm c 26 2 }

def legParam (c : Cmd) (o : Nat) : Leg :=
  if prmByte c o = 0 then .a else .b

/-- JITTER_SET (11 R337, R347, R349). -/
def jitterSetBegin (e : Entry) (s : State) : State :=
  let c := e.cmd
  let new := jitterOf c
  checked e serviceModes (jitterChecks c)
    (fun s =>
      if prm c 16 4 = 0 then
        finish e stDone [] { s with cfg := { s.cfg with jitter := s.cfg.jitter.set (prmByte c 20) new } }
      else onChannel e (prm c 16 4) (fun ch => unlessSuspended e ch fun s =>
        let l := legParam c 20
        let n := legNum l
        let p := ch.latest
        if !hasBuffer ch l || flagUdptl (ch.legOf l).flags || (vbd p && !new.fixed) then finish e stDenied [] s
        else if new.maxMs < legPtime p n then finishBadArg e 26 s
        else
          let want := granules p n new.maxMs
          let old := (ch.legOf l).jb.reserved
          if depthPool < s.reservedGranules - old + want then finish e stNoResource [] (count (devCtr 37) s)
          else finish e stDone []
            (setLeg ch.id l (fun x => { x with jb := { x.jb with next := some new, reserved := max old want } }) s)) s) s

def channelObject (c : Cmd) : List Obj := [.channel (prm c 16 4)]

/-- The object of a command that sets defaults with CHANNEL_ID 0. -/
def channelOrDefaults (kind : Nat) (c : Cmd) : List Obj :=
  if prm c 16 4 = 0 then [.defaults kind] else channelObject c

def execJitterSet (src : Source) (c : Cmd) (s : State) : Host.Outcome State Fault Refusal :=
  .next (takeCommand .jitterSet src c (channelOrDefaults 0 c) jitterSetBegin s)

end Sys2Proof.Machine
end

