-- ==== Sys2Proof/Machine/Fcu.lean ====
section
/-!
DEFINITION. The filter and decimation chain (10): group delay, alignment, glide, the level meter and the FCU commands.
-/
namespace Sys2Proof.Machine

/-- Leg B is a conference mixer (09 Table 9-1). -/
def isMixer (p : BitVec 160) : Bool :=
  pb p 25 == 0x11

/-- The conference of a channel mixes at 16 kHz (09 R285). -/
def State.mixesWide (s : State) (ch : Channel) : Bool :=
  match ch.conference with
  | some (id, _) => s.voice.conferences.any fun c => c.id == id && c.wideband
  | none => false

/-- The internal rate of a channel in kHz (09 R259). -/
def State.rateOf (s : State) (ch : Channel) : Nat :=
  internalRate ch.program (isMixer ch.program) (s.mixesWide ch)

/-- The audio rate of a leg in kHz: that of its codec, or of the mixer. -/
def State.legRate (s : State) (ch : Channel) (l : Leg) : Nat :=
  let codec := legCodec ch.program (legNum l)
  if codec = 0x11 then (if s.mixesWide ch then 16 else 8) else codecRate codec (legMode ch.program (legNum l))

/-- A leg has FCU paths (10 R297). -/
def hasPaths (p : BitVec 160) (l : Leg) : Bool :=
  l == .a || (pb p 25 != 0 && pb p 25 != 0x10)

/-- A row of Table 10-1: L and M, the prototype's taps and the rate in kHz that they stand at, and the group delays in ns: of the
linear phase, and of the minimum phase at 1 kHz and at most over the passband (10 R298, R300). -/
structure Stage1 where
  l : Nat
  m : Nat
  taps : Nat
  tapRate : Nat
  linearNs : Nat
  minimumNs : Nat
  minimumMaxNs : Nat

/-- Stage 1 between two rates in kHz, in either direction; none where it is bypassed (10 R297, Table 10-1). -/
def stage1Of (a b : Nat) : Option Stage1 :=
  match min a b, max a b with
  | 8, 16 => some ⟨2, 1, 64, 16, 1968750, 560000, 1150000⟩
  | 8, 24 => some ⟨3, 1, 96, 24, 1979170, 565000, 1160000⟩
  | 8, 32 => some ⟨4, 1, 128, 32, 1984380, 570000, 1170000⟩
  | 16, 24 => some ⟨3, 2, 144, 48, 1489580, 430000, 870000⟩
  | 16, 32 => some ⟨2, 1, 96, 32, 1484380, 425000, 860000⟩
  | 24, 32 => some ⟨4, 3, 288, 96, 1494790, 440000, 880000⟩
  | _, _ => none

/-- The magnitude response that both prototypes of a pair meet (10 R299): ripple in 0.01 dB from 100 Hz to the passband edge, and
rejection in dB from the stopband edge, in Hz. -/
structure Magnitude where
  ripple : Nat
  fromHz : Nat
  passHz : Nat
  stopHz : Nat
  rejectDb : Nat

def stage1Magnitude (lowerKHz : Nat) : Magnitude :=
  { ripple := 5, fromHz := 100, passHz := 450 * lowerKHz, stopHz := 500 * lowerKHz, rejectDb := 75 }

/-- The stage 1 group delay at 1 kHz in ns (10 R300). -/
def stage1Ns (minimum : Bool) (a b : Nat) : Nat :=
  match stage1Of a b with
  | some x => if minimum then x.minimumNs else x.linearNs
  | none => 0

/-- Its maximum over the passband (10 R300). -/
def stage1MaxNs (minimum : Bool) (a b : Nat) : Nat :=
  match stage1Of a b with
  | some x => if minimum then x.minimumMaxNs else x.linearNs
  | none => 0

/-- The stage 2 fixed delay in ns: 7.5 samples (10 R301, Table 10-2). -/
def stage2Ns (rate : Nat) : Nat :=
  7500000 / rate

/-- An alignment delay in ns (10 R302). -/
def alignNs (units : Nat) : Nat :=
  units * 125000 / 65536

/-- An alignment delay in 1/65,536 sample at an internal rate in kHz, as stage 2 applies it (10 R302). -/
def alignSamples (units khz : Nat) : Nat :=
  units * khz / 8

/-- The leg's stage 1 uses the minimum phase: voice-band data forces the linear one (10 R299). -/
def FcuPath.minimum (f : FcuPath) (p : BitVec 160) : Bool :=
  f.cfg.minimumPhase && !vbd p

/-- The transmit path's group delay of a leg at 1 kHz: stage 1 alone (10 R297, R301). -/
def State.txGroupDelay (s : State) (ch : Channel) (l : Leg) : Nat :=
  stage1Ns ((ch.legOf l).fcu.minimum ch.program) (s.legRate ch l) (s.rateOf ch)

/-- The phase of stage 2 in 1/65,536 sample: the fraction of the accumulator on that of the alignment delay (10 R298, R306). -/
def FcuPath.phase (f : FcuPath) (khz : Nat) : Nat :=
  (alignSamples f.current khz + (f.accumulator % 65536).toNat) % 65536

/-- The receive path group delay of a leg (10 R301); voice-band data forces the linear phase (R299)
(DEDUCED, log 52). -/
def State.groupDelay (s : State) (ch : Channel) (l : Leg) : Nat :=
  let f := (ch.legOf l).fcu
  stage1Ns (f.minimum ch.program) (s.legRate ch l) (s.rateOf ch) + stage2Ns (s.rateOf ch) + alignNs f.current

/-- The alignment slew in 1/16 ppm (10 R305). -/
def FcuPath.slew16 (f : FcuPath) : Nat :=
  min (16 * f.cfg.slewPpm) (8000 - f.rho.natAbs)

/-- One frame's move toward the alignment target (10 R303): 10 ms at the slew, in units of 125 µs / 65,536, with the part of a
unit that is left over; at the target the move is over. -/
def FcuPath.moved (f : FcuPath) : Nat × Nat :=
  let total := f.slew16 * 524288 + f.slewRest
  let d := total / 1600000
  let next := if f.current < f.cfg.delay then min (f.current + d) f.cfg.delay else max (f.current - d) f.cfg.delay
  (next, if next = f.cfg.delay then 0 else total % 1600000)

/-- ρ after a request, in 1/16 ppm: at most 20 ppm a frame and within GLIDE_LIMIT_PPM (10 R305). -/
def FcuPath.glideTo (f : FcuPath) (request : Int) : Int :=
  let limit : Int := 16 * f.cfg.glideLimitPpm
  clampInt (f.rho - 320) (f.rho + 320) (clampInt (-limit) limit request)

/-- The last `n` of a list. -/
def lastOf {α : Type} (n : Nat) (l : List α) : List α :=
  l.drop (l.length - n)

/-- The filter histories after a frame of samples: stage 1's over its prototype's taps, stage 2's over 16 of what stage 1 gives it,
and the transmit stage's (10 R297, R298). A bypassed stage keeps none. -/
def FcuPath.filtered (f : FcuPath) (p : BitVec 160) (leg internal : Nat) (x : LegSamples) : FcuPath :=
  match stage1Of leg internal with
  | none => { f with rxStage1 := [], txStage1 := [], rxStage2 := lastOf 16 (f.rxStage2 ++ x.decoded) }
  | some st =>
    let out := Config.stage1 (f.minimum p) leg internal f.rxStage1 x.decoded
    { f with rxStage1 := lastOf st.taps (f.rxStage1 ++ x.decoded), rxStage2 := lastOf 16 (f.rxStage2 ++ out),
             txStage1 := lastOf st.taps (f.txStage1 ++ x.toward) }

/-- A frame of the FCU paths of a leg: the samples pass the filters, the alignment moves, the accumulator advances at the ρ that the
frame began with and carries whole samples out, by which the playout point moves (in 1/96 µs), and ρ follows the request for the
next frame (10 R297, R298, R303, R305, R306). -/
def fcuFrame (id : Nat) (l : Leg) (samples : Option LegSamples) (s : State) : State :=
  match s.channel id with
  | none => s
  | some ch =>
    if !hasPaths ch.program l then s
    else
      let leg := ch.legOf l
      let khz := s.rateOf ch
      let f := match samples with
        | some x => leg.fcu.filtered ch.program (s.legRate ch l) khz x
        | none => leg.fcu
      let request := if hasBuffer ch l then leg.jb.glide (vbd ch.program) else 0
      let rho := f.glideTo request
      let clamped := rho != request
      let advance : Int := f.rho * (10 * khz * 65536 : Nat) + f.glideRest
      let total : Int := f.accumulator + advance / 16000000
      let moved : Int := total / 65536 * (96000 / khz : Nat) + f.playoutRest
      let f' := { f with current := f.moved.1, slewRest := f.moved.2, rho := rho, clamped := clamped, accumulator := total % 65536,
                         glideRest := advance % 16000000, playoutRest := moved % 96 }
      let anchor := leg.jb.anchor.map fun a => (a.1, ((a.2 : Int) - moved / 96).toNat)
      let s1 := setLeg id l (fun x => { x with fcu := f', jb := { x.jb with anchor := anchor } }) s
      if clamped then count (legCtr id (legNum l) 15) s1 else s1

/-- The filter histories at a change of the internal rate (10 R320). -/
def FcuPath.atRate (f : FcuPath) (old new : Nat) : FcuPath :=
  if old = new then f
  else { f with rxStage1 := Config.resampled old new f.rxStage1, rxStage2 := Config.resampled old new f.rxStage2,
                txStage1 := Config.resampled old new f.txStage1 }

/-- A changed setting of an FCU path comes into force at a frame boundary (10 R303, R313). -/
def fcuBoundary (id : Nat) (l : Leg) (s : State) : State :=
  setLeg id l (fun x =>
    match x.fcu.next with
    | none => x
    | some (cfg, step) =>
      { x with fcu := { x.fcu with cfg := cfg, next := none, current := if step then cfg.delay else x.fcu.current,
                                   slewRest := if step then 0 else x.fcu.slewRest } }) s

/-- FCU_LEVEL (10 R316). -/
def raiseLevel (id : Nat) (l : Leg) (point edge block : Nat) (level : Int) (s : State) : State :=
  raise evFcuLevel [⟨16, 4, id⟩, ⟨20, 1, legNum l⟩, ⟨21, 1, point⟩, ⟨22, 1, edge⟩, ⟨23, 1, block⟩,
    ⟨24, 2, twos 2 level⟩] s

/-- A meter ends: EDGE 2 when it is HIGH (10 R311). -/
def meterEnd (id : Nat) (l : Leg) (s : State) : State :=
  match s.channel id with
  | none => s
  | some ch =>
    let m := (ch.legOf l).meter
    if m.high then raiseLevel id l m.cfg.point 2 0 m.lastLevel s else s

/-- A meter starts anew, LOW, from the floor (10 R308, R309). -/
def meterStart (id : Nat) (l : Leg) (cfg : LevelCfg) (s : State) : State :=
  setLeg id l (fun x => { x with meter := { cfg := cfg, edgeTimes := x.meter.edgeTimes } }) s

/-- A changed meter restarts at a frame boundary (10 R311). -/
def meterBoundary (id : Nat) (l : Leg) (s : State) : State :=
  match (s.channel id).bind fun ch => (ch.legOf l).meter.next with
  | none => s
  | some cfg => meterStart id l cfg (meterEnd id l s)

/-- An edge of a meter: at most ten events a second (10 R309). -/
def meterEdge (id : Nat) (l : Leg) (edge block : Nat) (level : Int) (s : State) : State :=
  match s.channel id with
  | none => s
  | some ch =>
    let m := (ch.legOf l).meter
    let recent := m.edgeTimes.filter fun t => decide (s.now < t + 1000000000)
    let high := edge == 0
    if recent.length < 10 then
      raiseLevel id l m.cfg.point edge block level
        (setLeg id l (fun x => { x with meter := { x.meter with high := high, edgeTimes := recent ++ [s.now] } }) s)
    else
      count (legCtr id (legNum l) 16)
        (setLeg id l (fun x => { x with meter := { x.meter with high := high, edgeTimes := recent } }) s)

/-- The smoothed power of a meter, which starts at the floor (10 R308). -/
def Meter.at_ (m : Meter) : Nat :=
  m.power.getD Config.floorPower

/-- The power after a millisecond of mean square `p` (10 R308). -/
def Meter.smooth (m : Meter) (p : Nat) : Nat :=
  Config.smoothed (if m.at_ < p then m.cfg.attackMs else m.cfg.releaseMs) p m.at_

/-- One millisecond of a meter with the mean square of its samples (10 R308, R309); the level is in 1/16 dBm0. -/
def meterMs (id : Nat) (l : Leg) (block p : Nat) (s : State) : State :=
  match s.channel id with
  | none => s
  | some ch =>
    let m := (ch.legOf l).meter
    let power := m.smooth p
    let v := max (-1440) (Config.decibels16 power)
    let s1 := setLeg id l (fun x => { x with meter := { x.meter with power := some power, lastLevel := v } }) s
    if !m.high && decide (m.cfg.threshold ≤ v) then meterEdge id l 0 block v s1
    else if m.high && decide (v < m.cfg.threshold - 16 * m.cfg.hysteresisDb) then meterEdge id l 1 block v s1
    else s1

/-- The meter of a leg over a frame whose milliseconds had these mean squares at its point (10 R308 to R310, R312)
(DEDUCED, log 52; DESIGN CHOICE, log 67). -/
def meterFrame (id : Nat) (l : Leg) (powers : List Nat) (s : State) : State :=
  match s.channel id with
  | none => s
  | some ch =>
    let m := (ch.legOf l).meter
    if !m.cfg.enable || !hasPaths ch.program l then s
    else
      let s1 := ((powers.take 10).zipIdx).foldl (fun st p => meterMs id l p.2 p.1 st) s
      let n := m.frames + 1
      let s2 := setLeg id l (fun x => { x with meter := { x.meter with frames := n } }) s1
      if m.cfg.reportFrames ≠ 0 ∧ n % m.cfg.reportFrames = 0 then
        raiseLevel id l m.cfg.point 3 9 (((s2.channel id).map fun c => (c.legOf l).meter.lastLevel).getD 0) s2
      else s2

/-- FCU_PHASE_SET's parameters (10 Table 10-3). -/
def phaseChecks (c : Cmd) : List Check :=
  let f := prmByte c 21
  let limits := f.testBit 4
  [within c 20 1 0 1, need 21 (decide (f < 32) && (!f.testBit 1 || f == 2)), within c 22 1 0 1, reservedBytes c 23 24,
   within c 24 4 0 0x2000000, need 28 (prm c 28 2 == 0 || decide (10 ≤ prm c 28 2 ∧ prm c 28 2 ≤ 500)),
   need 30 (prm c 30 2 == 0 || decide (50 ≤ prm c 30 2 ∧ prm c 30 2 ≤ 500)), reservedBytes c 32 64,
   need 22 (f.testBit 2 || prmByte c 22 == 0), need 24 (f.testBit 3 || prm c 24 4 == 0),
   need 28 (limits == (prm c 28 2 != 0)), need 30 (limits == (prm c 30 2 != 0))]

/-- The configuration after an FCU_PHASE_SET (10 R313) (DEDUCED, log 52). -/
def phaseWith (c : Cmd) (p : PhaseCfg) : PhaseCfg :=
  let f := prmByte c 21
  { minimumPhase := if f.testBit 2 then prmByte c 22 == 1 else p.minimumPhase,
    delay := if f.testBit 3 then prm c 24 4 else p.delay,
    slewPpm := if f.testBit 4 then prm c 28 2 else p.slewPpm,
    glideLimitPpm := if f.testBit 4 then prm c 30 2 else p.glideLimitPpm }

/-- The RESULT of FCU_PHASE_SET for a leg (10 R313). -/
def phaseReport (ch : Channel) (l : Leg) (s : State) : List Fld :=
  let f := (ch.legOf l).fcu
  let cfg := match f.next with | some (cfg, _) => cfg | none => f.cfg
  [⟨8, 4, cfg.delay⟩, ⟨12, 4, f.current⟩, ⟨16, 2, twos 2 f.rho⟩, ⟨18, 1, bit (cfg.minimumPhase && !vbd ch.latest)⟩,
   ⟨19, 1, bit (f.current != cfg.delay) + 2 * bit f.clamped⟩, ⟨20, 4, s.groupDelay ch l⟩]

/-- The RESULT of FCU_PHASE_SET for the defaults (10 R313). -/
def phaseDefaultReport (p : PhaseCfg) : List Fld :=
  [⟨8, 4, p.delay⟩, ⟨12, 4, p.delay⟩, ⟨18, 1, bit p.minimumPhase⟩]

/-- FCU_PHASE_SET (10 R313, R315, R318). -/
def fcuPhaseSetBegin (e : Entry) (s : State) : State :=
  let c := e.cmd
  let f := prmByte c 21
  let l := legParam c 20
  checked e serviceModes (phaseChecks c)
    (fun s =>
      if prm c 16 4 = 0 then
        let new := phaseWith c (s.cfg.phase.getD (legNum l) {})
        finish e stDone (phaseDefaultReport new) { s with cfg := { s.cfg with phase := s.cfg.phase.set (legNum l) new } }
      else onChannel e (prm c 16 4) (fun ch => unlessSuspended e ch fun s =>
        if !hasPaths ch.latest l || (f.testBit 2 && prmByte c 22 == 1 && vbd ch.latest) then finish e stDenied [] s
        else if f.testBit 1 then finish e stDone (phaseReport ch l s) s
        else
          let path := (ch.legOf l).fcu
          let base := path.next.getD (path.cfg, false)
          let step := if f.testBit 3 then f.testBit 0 else base.2
          let s1 := setLeg ch.id l (fun x => { x with fcu := { x.fcu with next := some (phaseWith c base.1, step) } }) s
          finish e stDone (((s1.channel ch.id).map fun ch => phaseReport ch l s1).getD []) s1) s) s

def execFcuPhaseSet (src : Source) (c : Cmd) (s : State) : Host.Outcome State Fault Refusal :=
  .next (takeCommand .fcuPhaseSet src c (channelOrDefaults 1 c) fcuPhaseSetBegin s)

/-- FCU_LEVEL_SET's parameters (10 Table 10-4). -/
def levelChecks (c : Cmd) : List Check :=
  let on := decide (prmByte c 22 % 2 = 1)
  let threshold := prmInt c 24 2
  let off (o n : Nat) := need o (on || prm c o n == 0)
  [within c 20 1 0 1, within c 21 1 0 1, reservedBits c 22 1 1, within c 23 1 0 20,
   need 24 (decide (-1120 ≤ threshold) && decide (threshold ≤ 0)), within c 26 2 0 1000,
   need 28 (prm c 28 2 == 0 || decide (10 ≤ prm c 28 2 ∧ prm c 28 2 ≤ 10000)), within c 30 2 0 1000,
   reservedBytes c 32 64,
   off 23 1, need 23 (!on || prmByte c 23 != 0), off 24 2, off 26 2, need 26 (!on || prm c 26 2 != 0), off 28 2,
   need 28 (!on || prm c 28 2 != 0), off 30 2]

def levelOf (c : Cmd) : LevelCfg :=
  { enable := decide (prmByte c 22 % 2 = 1), point := prmByte c 21, hysteresisDb := prmByte c 23,
    threshold := prmInt c 24 2, attackMs := prm c 26 2, releaseMs := prm c 28 2, reportFrames := prm c 30 2 }

/-- FCU_LEVEL_SET (10 R311, R314, R315, R318). -/
def fcuLevelSetBegin (e : Entry) (s : State) : State :=
  let c := e.cmd
  let l := legParam c 20
  let new := levelOf c
  checked e serviceModes (levelChecks c)
    (fun s =>
      if prm c 16 4 = 0 then
        finish e stDone [] { s with cfg := { s.cfg with level := s.cfg.level.set (legNum l) new } }
      else onChannel e (prm c 16 4) (fun ch => unlessSuspended e ch fun s =>
        if !hasPaths ch.latest l then finish e stDenied [] s
        else
          let m := (ch.legOf l).meter
          finish e stDone [] (setLeg ch.id l (fun x =>
            { x with meter := { x.meter with next := if new = m.cfg then none else some new } }) s)) s) s

def execFcuLevelSet (src : Source) (c : Cmd) (s : State) : Host.Outcome State Fault Refusal :=
  .next (takeCommand .fcuLevelSet src c (channelOrDefaults 2 c) fcuLevelSetBegin s)

end Sys2Proof.Machine
end

