-- ==== Sys2Proof/Machine/Rtcp.lean ====
section
/-!
DEFINITION. What a leg sends besides voice: the protection of its packets (09 R276), its RTCP reports (R278, R279) and RFC 4733
events (R271).
-/
namespace Sys2Proof.Machine

/-- The master key of a direction is used up (09 R276). -/
def SrtpContext.expired (k : SrtpContext) : Bool :=
  decide (2 ^ 48 ≤ k.packets) || decide (2 ^ 31 ≤ k.rtcpPackets)

/-- The bytes that a suite appends (RFC 3711, RFC 7714). -/
def srtpTag (suite : Nat) : Nat :=
  if suite = 1 then 10 else if suite = 0 then 0 else 16

/-- The same to an RTCP packet, with the word of E and the SRTCP index (RFC 3711, RFC 7714). -/
def srtcpTag (suite : Nat) : Nat :=
  if suite = 0 then 0 else 4 + srtpTag suite

/-- What the SRTP unit does with a packet that a leg is to send (09 R276): withheld without a key on a protected session
or under a used-up key, else counted against its key. The second component is the number of bytes that protection adds, none
where the packet is withheld. -/
def protectOut (ch : Channel) (l : Leg) (rtcp : Bool) (s : State) : State × Option Nat :=
  let leg := ch.legOf l
  match leg.txSrtp with
  | some k =>
    if k.expired then (count (legCtr ch.id (legNum l) 12) s, none)
    else
      let k' := if rtcp then { k with rtcpPackets := k.rtcpPackets + 1 } else { k with packets := k.packets + 1 }
      (setLeg ch.id l (fun x => { x with txSrtp := some k' }) s, some (if rtcp then srtcpTag k.suite else srtpTag k.suite))
  | none =>
    if flagProtected leg.flags then (count (legCtr ch.id (legNum l) 11) s, none) else (s, some 0)

/-- The NTP time of an instant of the model's clock, in 2⁻³² s. -/
def ntpOf (ns : Nat) : Nat :=
  (Config.ntpEpochNs + ns) * 4294967296 / 1000000000

/-- The middle 32 bits of an NTP time, in 2⁻¹⁶ s (RFC 3550). -/
def ntpMid (ntp : Nat) : Nat :=
  ntp / 65536 % 4294967296

/-- Packets expected from a source (RFC 3550). -/
def RtpStats.expected (r : RtpStats) : Nat :=
  r.top - r.base + 1

/-- Packets of a source lost so far (RFC 3550). -/
def RtpStats.lost (r : RtpStats) : Int :=
  (r.expected : Int) - (r.received : Int)

/-- FRACTION LOST of a report: of the packets expected since the last one (RFC 3550). -/
def RtpStats.fraction (r : RtpStats) : Nat :=
  let expected := r.expected - r.expectedPrior
  let lost : Int := (expected : Int) - ((r.received - r.receivedPrior : Nat) : Int)
  if expected = 0 ∨ lost ≤ 0 then 0 else min 255 (256 * lost.toNat / expected)

/-- The report block of a leg's source (RFC 3550; 09 R278). -/
def reportBlock (x : LegState) (now : Nat) : List Byte :=
  match x.stats with
  | none => []
  | some r =>
    let lost := clampInt (-8388608) 8388607 r.lost
    let lsr := match x.lastSr with | some (mid, _) => mid | none => 0
    let dlsr := match x.lastSr with | some (_, t) => (now - t) * 65536 / 1000000000 | none => 0
    netBytes 4 x.remoteSsrc.toNat ++ netBytes 1 r.fraction ++ netBytes 3 (twos 3 lost) ++ netBytes 4 r.top
      ++ netBytes 4 (r.jitter16 / 16) ++ netBytes 4 lsr ++ netBytes 4 dlsr

/-- An RTCP packet of version 2 with its count field, type and body (RFC 3550). -/
def rtcpPacket (countField type : Nat) (body : List Byte) : List Byte :=
  netBytes 1 (128 + countField) ++ netBytes 1 type ++ netBytes 2 (body.length / 4) ++ body

/-- SR when the leg has sent RTP since the last report, else RR (09 R278). The RTP timestamp of a sender report is a free value. -/
def reportPacket (x : LegState) (s : State) : List Byte :=
  let block := reportBlock x s.now
  let n := bit x.stats.isSome
  if x.sentSinceReport then
    rtcpPacket n 200 (netBytes 4 x.localSsrc.toNat ++ netBytes 8 (ntpOf s.now) ++ netBytes 4 (s.freeAt 126)
      ++ netBytes 4 x.sentPackets ++ netBytes 4 x.sentOctets ++ block)
  else rtcpPacket n 201 (netBytes 4 x.localSsrc.toNat ++ block)

/-- A hexadecimal digit in ASCII. -/
def hexChar (upper : Bool) (v : Nat) : Byte :=
  BitVec.ofNat 8 (if v < 10 then 48 + v else if upper then 55 + v else 87 + v)

/-- The eight hexadecimal digits of a number, in capitals (DESIGN CHOICE, log 98). -/
def hexText (v : Nat) : List Byte :=
  (List.range 8).map fun k => hexChar true (v / 16 ^ (7 - k) % 16)

/-- A byte in decimal. -/
def decText (v : Nat) : List Byte :=
  let digits := if v < 10 then [v] else if v < 100 then [v / 10, v % 10] else [v / 100, v / 10 % 10, v % 10]
  digits.map (hexChar false)

/-- A group of an IPv6 address without leading zeros. -/
def groupText (v : Nat) : List Byte :=
  let all := (List.range 4).map fun k => v / 16 ^ (3 - k) % 16
  let left := all.dropWhile fun d => d == 0
  (if left.isEmpty then [0] else left).map (hexChar false)

/-- Texts with a separator between them. -/
def joinText (sep : Byte) : List (List Byte) → List Byte
  | [] => []
  | [t] => t
  | t :: rest => t ++ sep :: joinText sep rest

/-- An address in text form: dotted decimal, or eight groups of lower-case hexadecimal (DESIGN CHOICE, log 98). -/
def addressText (ipv6 : Bool) (ip : Nat) : List Byte :=
  if ipv6 then joinText 58 ((List.range 8).map fun k => groupText (ip / 65536 ^ (7 - k) % 65536))
  else joinText 46 ((List.range 4).map fun k => decText (ip / 2 ^ (120 - 8 * k) % 256))

/-- The CNAME of a leg: "ch", CHANNEL_ID in hexadecimal, "@" and the leg's local address (09 R278). -/
def cname (id : Nat) (x : SessionCopy) : List Byte :=
  [99, 104] ++ hexText id ++ 64 :: addressText (x.flags.getLsbD 0) x.localIp.toNat

/-- The SDES packet of a leg: one chunk with its CNAME, ended and padded by zeros (RFC 3550; 09 R278). -/
def sdesPacket (ssrc : Nat) (name : List Byte) : List Byte :=
  let chunk := netBytes 4 ssrc ++ [1, BitVec.ofNat 8 name.length] ++ name
  rtcpPacket 1 202 (chunk ++ List.replicate (4 - chunk.length % 4) 0)

/-- A rate in 1/256 of the packets expected, at most 255 (RFC 3611). -/
def rate256 (n expected : Nat) : Nat :=
  if expected = 0 then 0 else min 255 (256 * n / expected)

/-- The leg is the echo leg of a canceller (09 R263, Table 9-5). -/
def isEchoLeg (p : BitVec 160) (l : Leg) : Bool :=
  pb p 36 != 0 && ((pb p 37).testBit 0 == (l == .b))

/-- RX config: PLC disabled under VBD and standard else, the jitter buffer's kind, and a rate that is a free value
(RFC 3611; 09 R279) (DESIGN CHOICE, log 98). -/
def rxConfig (ch : Channel) (l : Leg) (s : State) : Nat :=
  64 * (if vbd ch.program then 1 else 3) + 16 * (if (ch.legOf l).jb.cfg.fixed then 2 else 3) + s.freeAt 133 % 16

/-- The VoIP Metrics block of a leg (09 R279; RFC 3611): Gmin 16, and 127 for what is unavailable. The burst and gap figures and
the levels are measurements of the leg's signal and packet history, which are free values. -/
def voipMetrics (ch : Channel) (l : Leg) (s : State) : List Byte :=
  let x := ch.legOf l
  let n := legNum l
  let expected := match x.stats with | some r => r.expected | none => 0
  let lost := match x.stats with | some r => r.lost.toNat | none => 0
  let discarded := s.counter (legCtr ch.id n 18) + s.counter (legCtr ch.id n 19)
  let rtt := if x.rttUs = 0xFFFFFFFF then 0 else min 65535 (x.rttUs / 1000)
  let delay := x.jb.cfg.nominalMs + 10 + Config.lookaheadMs (legCodec ch.program n) (legMode ch.program n)
  let rerl := if isEchoLeg ch.program l then (clampInt 0 126 (ch.ecErl + ch.ecErle)).toNat else 127
  netBytes 1 7 ++ netBytes 1 0 ++ netBytes 2 8 ++ netBytes 4 x.remoteSsrc.toNat ++ netBytes 1 (rate256 lost expected)
    ++ netBytes 1 (rate256 discarded expected) ++ netBytes 1 (s.freeAt 127) ++ netBytes 1 (s.freeAt 128) ++ netBytes 2 (s.freeAt 129)
    ++ netBytes 2 (s.freeAt 130) ++ netBytes 2 rtt ++ netBytes 2 delay ++ netBytes 1 (s.freeAt 131) ++ netBytes 1 (s.freeAt 132)
    ++ netBytes 1 rerl ++ [16, 127, 127, 127, 127] ++ netBytes 1 (rxConfig ch l s) ++ netBytes 1 0
    ++ netBytes 2 x.jb.cfg.nominalMs ++ netBytes 2 x.jb.cfg.maxMs ++ netBytes 2 x.jb.cfg.maxMs

/-- The compound packet of a leg: SR or RR, SDES, XR when OPTS.XR is set, and BYE at the close (09 R278). -/
def compound (ch : Channel) (l : Leg) (entry : SessionCopy) (bye : Bool) (s : State) : List Byte :=
  let x := ch.legOf l
  let ssrc := x.localSsrc.toNat
  reportPacket x s ++ sdesPacket ssrc (cname ch.id entry)
    ++ (if (pb ch.program 40).testBit 4 then rtcpPacket 0 207 (netBytes 4 ssrc ++ voipMetrics ch l s) else [])
    ++ (if bye then rtcpPacket 1 203 (netBytes 4 ssrc) else [])

/-- The next report of a leg is due 2.5 s to 7.5 s on; how long is random, a free value (09 R278). -/
def State.nextReport (s : State) (l : Leg) : Nat :=
  s.now + 2500000000 + s.freeAt (134 + 100 * legNum l) % 5000000001

/-- A report has been made (RFC 3550). -/
def LegState.reported (x : LegState) (due : Nat) : LegState :=
  { x with sentSinceReport := false, reportDue := due,
           stats := x.stats.map fun r => { r with expectedPrior := r.expected, receivedPrior := r.received } }

/-- A leg's compound packet goes to the egress builder (09 R278, R279): a leg without an RTP session sends none. -/
def sendRtcp (ch : Channel) (l : Leg) (bye : Bool) (s : State) : State :=
  match s.entryOf (ch.legOf l) with
  | none => s
  | some entry =>
    if !hasBuffer ch l then s
    else
      let r := protectOut ch l true s
      let bytes := compound ch l entry bye s
      let s1 := match r.2 with
        | some extra => sendPacket ch l false (bytes.length + extra) bytes s.alw.frame r.1
        | none => r.1
      drawn (setLeg ch.id l (fun x => x.reported (s.nextReport l)) s1)

/-- An RFC 4733 payload: event, E and VOLUME, duration in timestamp units. -/
def eventPayload (d : DigitOut) (duration : Nat) : List Byte :=
  netBytes 1 d.digit ++ netBytes 1 (128 * bit d.ended + min 63 d.volume) ++ netBytes 2 duration

/-- An RFC 4733 packet that a frame task sends: its marker bit, its timestamp and its payload. -/
structure EventPacket where
  marker : Bool
  timestamp : Word32
  payload : List Byte

/-- A packet of an event that has lasted `units`, in the segment that this falls in (09 R271; RFC 4733). -/
def DigitOut.packet (d : DigitOut) (units : Nat) : EventPacket :=
  let segment := (units - 1) / 65535
  { marker := d.frames == 0 && d.ends == 0, timestamp := d.timestamp + BitVec.ofNat 32 (65535 * segment),
    payload := eventPayload d (units - 65535 * segment) }

/-- The packets that a digit sends in a frame: the first with the marker bit, one every 50 ms, one at the end of each segment of
65,535 timestamp units, and three end packets 10 ms apart (09 R271). -/
def DigitOut.packets (d : DigitOut) : List EventPacket :=
  if !d.events then []
  else if d.ended then [d.packet (max 80 (80 * d.frames))]
  else
    let units := 80 * (d.frames + 1)
    let full := (units - 1) / 65535
    (if 0 < full ∧ (80 * d.frames - 1) / 65535 < full then [d.packet (65535 * full)] else []) ++
      (if d.frames % 5 = 0 then [d.packet units] else [])

/-- A digit after a frame; none once its end packets are out (09 R271). -/
def DigitOut.next (d : DigitOut) : Option DigitOut :=
  if !d.ended then some { d with frames := d.frames + 1 }
  else if d.events ∧ d.ends < 2 then some { d with ends := d.ends + 1 }
  else none

/-- An RTP packet of a leg goes out: protected, counted for its sender reports, and handed to its queue (09 R276, R278). -/
def sendRtp (ch : Channel) (l : Leg) (bytes : Nat) (payload : List Byte) (frame : Nat) (s : State) : State :=
  let r := protectOut ch l false s
  match r.2 with
  | none => r.1
  | some extra =>
    sendPacket ch l true (12 + bytes + extra) payload frame (setLeg ch.id l (fun x =>
      { x with sentSinceReport := true, sentPackets := x.sentPackets + 1, sentOctets := x.sentOctets + bytes }) r.1)

/-- The RFC 4733 packets of a leg for a frame (09 R271). -/
def sendDigits (id : Nat) (l : Leg) (frame : Nat) (s : State) : State :=
  match s.channel id with
  | none => s
  | some ch =>
    let digits := (ch.legOf l).digitsOut
    let s1 := (digits.flatMap (·.packets)).foldl (fun st p => sendRtp ch l p.payload.length p.payload frame st) s
    setLeg id l (fun x => { x with digitsOut := digits.filterMap (·.next) }) s1

end Sys2Proof.Machine
end

