-- ==== Sys2Proof/Machine/Channels.lean ====
section
/-!
DEFINITION. Channels (09 R280 to R284, R278): opening, placement, modification, closing, the query, SRTP keys and the RTCP
timer.
-/
namespace Sys2Proof.Machine

/-- The reservation of a leg at a depth (11 R337): a leg without an RTP session reserves nothing. -/
def legGranules (p : BitVec 160) (l : Leg) (maxMs : Nat) : Nat :=
  if l = .b ∧ noRtp (pb p 25) then 0 else granules p (legNum l) maxMs

/-- A leg as it starts when it is bound (09 R278, R288; 10 R302, R307; 11 R331, R337, R346, R347): with the address of its session's
entry, which is this home's or among those that other homes have sent. The SSRC is random (DEDUCED, log 52;
DESIGN CHOICE, log 69). -/
def freshLeg (h : Nat) (l : Leg) (p : BitVec 160) (sent : List SessionCopy) (s : State) : LegState :=
  let n := legNum l
  let jcfg := s.cfg.jitter.getD n {}
  let fcu := s.voice.phaseInForce.getD n {}
  let x := s.sessionCopy h sent
  { session := BitVec.ofNat 32 h, copy := if handleNode h = s.node then none else x,
    localSsrc := BitVec.ofNat 32 (s.freeAt (39 + 100 * n)), detect := s.cfg.detect.getD n {},
    meter := { cfg := s.voice.levelInForce.getD n {} }, fcu := { cfg := fcu, current := fcu.delay },
    jb := { cfg := jcfg, reserved := if h = 0 then 0 else legGranules p l jcfg.maxMs, targetMs := jcfg.nominalMs },
    latched := x.bind (·.remote), epoch := (x.map (·.epoch)).getD 0, flags := (x.map (·.flags)).getD 0,
    lastAcceptedAt := s.now, reportDue := s.nextReport l }

/-- The counters of a channel's legs cease, and start from zero (12 R372). -/
def eraseLegCounters (id : Nat) (s : State) : State :=
  { s with tally := s.tally.filter fun p => !((keyCtr p.1).group == 3 && (keyCtr p.1).inst == id) }

/-- A CHANNEL_ID that no open channel holds: the node in its low 4 bits and a count above (DESIGN CHOICE, log 31). -/
def freshId (s : State) : Nat → Nat → Nat
  | 0, n => n % 268435456 * 16 + s.node
  | fuel + 1, n =>
    let id := n % 268435456 * 16 + s.node
    if id = 0 || s.voice.channels.any fun ch => ch.id == id then freshId s fuel (n + 1) else id

/-- SESSION_A, SESSION_B and the program of a CHANNEL_OPEN. -/
def openA (c : Cmd) : Nat := prm c 16 4
def openB (c : Cmd) : Nat := prm c 20 4

/-- The RESULT of CHANNEL_OPEN (09 R280). -/
def openResult (ch : Channel) (node : Nat) : List Fld :=
  [⟨8, 4, ch.id⟩, ⟨12, 1, node⟩, ⟨13, 1, ch.engine⟩, ⟨14, 1, ch.slot⟩, ⟨15, 1, ch.level⟩, ⟨16, 2, ch.coins⟩]

/-- A channel as it starts on an engine (09 R280). -/
def newChannel (id engine slot : Nat) (p : BitVec 160) (a b : Nat) (sent : List SessionCopy) (s : State) : Channel :=
  { id := id, engine := engine, slot := slot, level := programLevel p, coins := programCoins p (isMixer p),
    state := .running, program := p, next := none, conference := none, firstFrame := s.alw.frame + 1, closing := none,
    ecConverged := false, ecDisabled := false, nlpActive := false, ecErl := 0, ecErle := 0,
    checkpointFrame := s.alw.frame, move := none, outMove := none,
    legA := freshLeg a .a p sent s, legB := freshLeg b .b p sent s }

/-- The channel is admitted: slot, counters, and at the home of session A the bindings; another member's home of session A binds them
when the answer has come (08 R233, R236; 09 R280; 11 R330). -/
def admitChannel (e : Entry) (engine : Nat) (s : State) : State :=
  let p := programOf e.cmd
  let a := openA e.cmd
  let b := openB e.cmd
  let id := freshId s 8192 s.voice.nextChannel
  let ch := newChannel id engine (s.freeSlot engine) p a b e.sessions s
  let s1 := loadChanged (eraseLegCounters id (drawn { s with voice := { s.voice with
    channels := s.voice.channels ++ [ch], nextChannel := id / 16 + 1 } }))
  let result := resultOf (openResult ch s.node)
  finishCommitted e result
    (if handleNode a = s.node then bindRequest a id .a s.node ++ bindRequest b id .b s.node else []) s1

/-- The other members in SERVICE that this node can reach (15 R472). -/
def State.servicePeers (s : State) : List Nat :=
  s.otherMembers.filter fun n => decide ((s.cluster.peers.getD n {}).mode = 4) && (s.route n).isSome

/-- The free coins of this device (09 R274; 15 R472): those of its engines in service. -/
def State.deviceFree (s : State) : Int :=
  ((List.range 64).filter fun e => s.inService e).foldl (fun n e => n + s.freeCoins e) 0

/-- More free coins, or the lower node on a tie (09 R274; 15 R472). -/
def roomier (a b : Nat × Int) : Bool :=
  decide (b.2 < a.2) || (decide (a.2 = b.2) && decide (a.1 ≤ b.1))

/-- Those members, the one with the most free coins first and the lowest node on a tie (15 R472) (DEDUCED, log 58;
DESIGN CHOICE, log 96). -/
def State.roomyPeers (s : State) : List Nat :=
  (sortBy roomier (s.servicePeers.map fun n => (n, (s.cluster.peers.getD n {}).freeCoins))).map (·.1)

def State.choosePeer (s : State) : Option Nat :=
  s.roomyPeers.head?

/-- The other member that 15 R472 chooses for a channel: the home of its session A while that is in SERVICE, else the one with the most
free coins. -/
def State.peerFor (s : State) (ch : Channel) : Option Nat :=
  let home := handleNode ch.legA.session.toNat
  if home ∈ s.servicePeers then some home else s.choosePeer

/-- The members are asked in turn to place the channel: they get the entries of its sessions with the request. With none left the
command is refused; `counted` that the refusal is one of 08 R235 (05 R149; 15 R472) (DEDUCED, log 55). -/
def askPlace (e : Entry) (nodes : List Nat) (counted : Bool) (s : State) : State :=
  match nodes with
  | [] => finish e stNoResource [] (if counted then count (devCtr 25) s else s)
  | n :: rest =>
    let copies := (s.sessionCopy (openA e.cmd) e.sessions).toList
      ++ (if openB e.cmd = 0 then [] else (s.sessionCopy (openB e.cmd) e.sessions).toList)
    askRemote e e.cmd n [] copies (setEntry e.id (fun x => { x with aux := 5 :: n :: rest }) s)

/-- No room here: the home of session A asks the other members in SERVICE, unless this device is one that was asked (05 R149; 15
R472). -/
def placeAway (e : Entry) (counted : Bool) (s : State) : State :=
  askPlace e (if e.fromPeer ∧ handleNode (openA e.cmd) ≠ s.node then [] else s.roomyPeers) counted s

/-- The channel is placed here, on another member, or refused (05 R139, R149, R155; 08 R235, R236; 02 R63, R64; 11 R337).
`service` that the command began in SERVICE, which it may outlive by a MODE_SET to DRAIN only (DEDUCED, log 55). -/
def openPlace (e : Entry) (service : Bool) (s : State) : State :=
  let p := programOf e.cmd
  let coins := programCoins p (isMixer p)
  if !service || decide (s.mode.current ∉ serviceModes) then placeAway e false s
  else match s.chooseEngine coins [] with
    | none => placeAway e true s
    | some engine =>
      let want := legGranules p .a ((s.cfg.jitter.getD 0 {}).maxMs)
        + (if openB e.cmd = 0 then 0 else legGranules p .b ((s.cfg.jitter.getD 1 {}).maxMs))
      if !s.supplyAdmits || (s.needsRaise engine coins && s.gov.fault) then placeAway e false s
      else if depthPool < s.reservedGranules + want then finish e stNoResource [] (count (devCtr 37) s)
      else if s.needsRaise engine coins then
        waitRaise e (setEntry e.id (fun x => { x with aux := [4, bit service] }) s)
      else admitChannel e engine s

/-- CHANNEL_OPEN's parameters (09 Table 9-5). -/
def openChecks (c : Cmd) : List Check :=
  let p := programOf c
  programOwn p false ++ [reservedBytes c 44 64, t38Beside p, need 25 ((pb p 25 == 0) == (openB c == 0))]
    ++ programJoined p

/-- Session B of a CHANNEL_OPEN or CHANNEL_MODIFY is another member's: its home is asked whether it can be bound (01 R27; 09 Table
9-11). Without a route its handle is unknown (DESIGN CHOICE, log 13). -/
def askSession (e : Entry) (h : Nat) (aux : List Nat) (s : State) : State :=
  if (s.route (handleNode h)).isNone then finish e stNotFound [] s
  else tell (handleNode h) (.sessionAsk e.id (BitVec.ofNat 32 h))
    (setEntry e.id (fun x => { x with phase := .remote, aux := aux }) s)

/-- CHANNEL_OPEN at the home of session A (09 R280, Table 9-11). -/
def openHome (e : Entry) (x : Session) (service : Bool) (s : State) : State :=
  let a := openA e.cmd
  let b := openB e.cmd
  let away := b != 0 && handleNode b != s.node
  if b ≠ 0 ∧ !away ∧ (s.session b).isNone then finish e stNotFound [] s
  else if x.bound || a == b || ((s.session b).any fun y => y.bound) then finish e stExists [] s
  else if away then askSession e b [3, bit service] s
  else openPlace e service s

/-- CHANNEL_OPEN (09 R280, R289; 05 R149, R155; 15 R472): at its home, or at the member where that home places it, which has sent the
entry of session A along. -/
def channelOpenBegin (e : Entry) (s : State) : State :=
  let a := openA e.cmd
  checked e e.homeModes (openChecks e.cmd)
    (fun s =>
      let service := decide (s.mode.current = .service)
      if handleNode a ≠ s.node then
        if e.fromPeer then
          if (s.sessionCopy a e.sessions).isSome then openPlace e service s else finish e stNotFound [] s
        else atHome e (handleNode a) stNotFound id s
      else
        let s := tellerDrain s
        match s.session a with
        | none => finish e stNotFound [] s
        | some x => openHome e x service s) s

def channelOpenObjects (c : Cmd) : List Obj :=
  .session (openA c) :: if openB c = 0 then [] else [.session (openB c)]

def execChannelOpen (src : Source) (c : Cmd) (s : State) : Host.Outcome State Fault Refusal :=
  .next (takeCommand .channelOpen src c (channelOpenObjects c) channelOpenBegin s)

/-- CHANNEL_OPEN goes on after another member has answered: the home of session A binds what a member has placed, or asks the next
(15 R472; 11 R330). -/
def channelOpenReply (e : Entry) (status : Byte) (result : Nat) (s : State) : State :=
  match e.aux with
  | 5 :: n :: rest =>
    if status = stDone then
      let id := result % 4294967296
      finishCommitted e result (bindRequest (openA e.cmd) id .a n ++ bindRequest (openB e.cmd) id .b n) s
    else if status = stNoResource then askPlace e rest true s
    else finish e status [] s
  | _ => finish e status [⟨8, 20, result⟩] s

/-- A voice event (09 Table 9-12). -/
def raiseVoice (code id : Nat) (l : Leg) (kind : Byte) (edge : Nat) (level : Byte) (durationMs : Nat) (s : State) :
    State :=
  raise code [⟨16, 4, id⟩, ⟨20, 1, legNum l⟩, ⟨21, 1, kind.toNat⟩, ⟨22, 1, edge⟩, ⟨23, 1, level.toNat⟩,
    ⟨24, 2, durationMs⟩] s

/-- The digits carried toward a leg are over: the events get their end packets (09 R271). `which` says which. -/
def endDigits (id : Nat) (l : Leg) (which : DigitOut → Bool) (s : State) : State :=
  setLeg id l (fun x => { x with digitsOut := x.digitsOut.map fun d => if which d then { d with ended := true } else d }) s

def otherLeg : Leg → Leg
  | .a => .b
  | .b => .a

/-- Milliseconds of a received event so far: its units are of 8 kHz (09 R271). -/
def OpenEvent.ms (x : OpenEvent) : Nat :=
  min 65535 ((x.before + x.duration) / 8)

/-- The tones that a leg's detectors hold open end with EDGE 2, and with them the digits carried from it (09 R266, R294, Table
9-12). -/
def endTones (id : Nat) (l : Leg) (s : State) : State :=
  match s.channel id with
  | none => s
  | some ch =>
    let leg := ch.legOf l
    let ms (t : Nat) := min 65535 ((s.now - t) / 1000000)
    let tone (t : Option OpenTone) (s : State) : State :=
      match t with
      | some t => raiseVoice evToneDetected id l t.kind 2 t.level (ms t.since) s
      | none => s
    let s1 := tone leg.openUser (tone leg.openDtmf s)
    let s2 := match leg.openTel with
      | some x => raiseVoice evTelephoneEvent id l x.code 2 (-x.volume) x.ms s1
      | none => s1
    endDigits id (otherLeg l) (fun d => !d.generated)
      (setLeg id l (fun x => { x with openDtmf := none, openUser := none, openTel := none }) s2)

/-- Every task of a channel leaves the engines; a transient one frees its descriptor (08 R243). -/
def dropTasks (id : Nat) (s : State) : State :=
  let mine (t : Task) : Bool := t.channel == id
  let transient := s.board.engines.foldl (fun n x =>
    n + ((x.ready ++ x.parked.toList).filter fun t => mine t && t.kind != .frame).length) 0
  { s with board := { s.board with
      transientFree := min 8192 (s.board.transientFree + transient),
      engines := s.board.engines.map fun x =>
        { x with ready := x.ready.filter fun t => !mine t,
                 parked := match x.parked with | some t => if mine t then none else some t | none => none } } }

/-- A channel's conference forgets it (09 R282, R285). -/
def leaveConference (id : Nat) (s : State) : State :=
  { s with voice := { s.voice with conferences := s.voice.conferences.map fun c =>
      { c with legs := c.legs.filter fun x => x.channel != id } } }

/-- A channel is gone without a word toward the far end (15 R469; 05). -/
def removeChannel (ch : Channel) (s : State) : State :=
  let s1 := leaveConference ch.id (dropTasks ch.id s)
  let s2 := { s1 with voice := { s1.voice with channels := s1.voice.channels.filter fun x => x.id != ch.id } }
  loadChanged (eraseLegCounters ch.id s2)

/-- The sessions of a channel with the legs that they are bound to, the one that waits for leg B included (11 R330). -/
def Channel.bindings (ch : Channel) : List (Nat × Leg) :=
  [(ch.legA.session.toNat, Leg.a), (ch.legB.session.toNat, Leg.b)] ++ (ch.nextB.toList.map fun c => (c.handle.toNat, Leg.b))

/-- The requests that let every session of a channel go. -/
def Channel.releases (ch : Channel) : List (Nat × TellerRequest) :=
  ch.bindings.flatMap fun b => releaseRequest b.1 ch.id

/-- A channel stops (09 R278, R282, R294; 10 R311): events, BYE, then slot and counters. -/
def stopChannel (ch : Channel) (s : State) : State :=
  let id := ch.id
  let s1 := endTones id .b (endTones id .a s)
  let s2 := meterEnd id .b (meterEnd id .a s1)
  removeChannel ch (if ch.state = .suspended then s2 else sendRtcp ch .b true (sendRtcp ch .a true s2))

/-- The channel's tasks still run or stand parked. -/
def State.taskRunning (s : State) (id : Nat) : Bool :=
  s.board.engines.any fun x =>
    (x.running.any fun t => t.channel == id) || (x.parked.any fun t => t.channel == id)

/-- Close requests whose frame boundary has come are carried out, or wait for the end of a task that ran over it (09 R282). -/
def closeDue (s : State) : State :=
  s.voice.channels.foldl (fun st ch =>
    match ch.closing with
    | none => st
    | some (entry, frame) =>
      if st.alw.frame ≤ frame || st.taskRunning ch.id || ch.outMove.isSome then st
      else
        let s1 := stopChannel ch st
        match entry.bind s1.entry with
        | some e => finishCommitted e 0 ch.releases s1
        | none => commitAll ch.releases s1) s

/-- CHANNEL_CLOSE (09 R282, R289; 16 R496). -/
def channelCloseBegin (e : Entry) (s : State) : State :=
  let c := e.cmd
  checked e serviceModes [reservedBytes c 20 64]
    (fun s => onChannel e (prm c 16 4) (fun ch s =>
      setChannel ch.id (fun x => { x with closing := some (some e.id, s.alw.frame) }) s) s) s

def execChannelClose (src : Source) (c : Cmd) (s : State) : Host.Outcome State Fault Refusal :=
  .next (takeCommand .channelClose src c (channelObject c) channelCloseBegin s)

/-- A leg's codec or mode differs between two programs (09 R281). -/
def legChanges (p q : BitVec 160) (l : Nat) : Bool :=
  legCodec p l != legCodec q l || legMode p l != legMode q l

/-- A leg at a new session: it starts as a new one does, but for what a CHANNEL_MODIFY leaves alone, its settings, its SSRC, its tone
generator, its SRTP contexts and its FCU path with ρ at 0; its meter starts anew (09 R281; 10 R307, R308, R320; 11 R338)
(DESIGN CHOICE, log 101). -/
def LegState.rebound (x new : LegState) : LegState :=
  { new with
    localSsrc := x.localSsrc, rxSrtp := x.rxSrtp, rxPending := x.rxPending, txSrtp := x.txSrtp, tone := x.tone,
    toneStopFrame := x.toneStopFrame, digitsOut := x.digitsOut, detect := x.detect, detectNext := x.detectNext,
    meter := { cfg := x.meter.cfg, edgeTimes := x.meter.edgeTimes, next := x.meter.next },
    fcu := { x.fcu with rho := 0, clamped := false },
    jb := { cfg := x.jb.cfg, next := x.jb.next, reserved := x.jb.reserved, targetMs := x.jb.cfg.nominalMs } }

/-- Leg B moves to another session: the old one is released, and the leg starts anew (09 R281; 10 R311). -/
def rebindB (ch : Channel) (c : SessionCopy) (p : BitVec 160) (s : State) : State :=
  let s1 := commitAll (releaseRequest ch.legB.session.toNat ch.id) (meterEnd ch.id .b (endTones ch.id .b s))
  let new := freshLeg c.handle.toNat .b p [c] s1
  drawn (setLeg ch.id .b (fun x => x.rebound new) s1)

/-- What of a leg starts anew with a program: its codec state where its codec or mode changes (09 R281), its filters at another
internal rate (10 R320), and its reservation (11 R337). A T.38 leg has no generator (09 R273). -/
def LegState.withProgram (x : LegState) (changed fax : Bool) (old new reserved : Nat) : LegState :=
  { x with cmr := if changed then none else x.cmr, output := if changed then .decoded else x.output,
           tone := if fax then none else x.tone, digitsOut := if fax then [] else x.digitsOut,
           fcu := x.fcu.atRate old new, jb := { x.jb with reserved := if x.session = 0 then 0 else reserved } }

/-- The meter of leg B starts anew where the leg joins a conference or leaves it (10 R323). -/
def LegState.mixerMeter (x : LegState) (anew : Bool) : LegState :=
  if anew then { x with meter := { cfg := x.meter.cfg, next := x.meter.next, edgeTimes := x.meter.edgeTimes } } else x

/-- The canceller after a change of program: EC_TAIL or ECHO_LEG resets it (09 R264). -/
def Channel.withCanceller (x : Channel) (p : BitVec 160) : Channel :=
  if pb x.program 36 != pb p 36 || (pb x.program 37).testBit 0 != (pb p 37).testBit 0 then
    { x with ecConverged := false, ecDisabled := false, nlpActive := false, ecErl := 0, ecErle := 0 }
  else x

/-- The new program of a channel, and leg B's new session, come into force (09 R264, R266, R281, R291; 11 R337): at a frame boundary,
or at the end of a task that ran over it. -/
def programBoundary (id : Nat) (s : State) : State :=
  match s.channel id with
  | none => s
  | some ch =>
    match ch.next with
    | none => s
    | some p =>
      if s.taskRunning id then s
      else
        let a := legChanges ch.program p 0
        let b := legChanges ch.program p 1
        let s1 := if a then endTones id .a s else s
        let s2 := match ch.nextB with
          | some c => rebindB ch c p s1
          | none => if b then endTones id .b s1 else s1
        let old := s.rateOf ch
        let new := internalRate p (isMixer p) (s.mixesWide ch)
        setChannel id (fun x =>
          { x.withCanceller p with
            program := p, next := none, nextB := none,
            legA := x.legA.withProgram a false old new (legGranules p .a x.legA.jb.cfg.maxMs),
            legB := (x.legB.withProgram b (pb p 25 == 0x10) old new (legGranules p .b x.legB.jb.cfg.maxMs)).mixerMeter
              (isMixer ch.program != isMixer p) }) s2

/-- CHANNEL_MODIFY's parameters (09 R281, Table 9-5). -/
def modifyChecks (c : Cmd) : List Check :=
  let p := programOf c
  programOwn p true ++ [reservedBytes c 44 64, t38Beside p] ++ programJoined p

/-- What R281 denies: leg B of a conference leg or a single-leg channel keeps its codec and binding; a two-leg channel
never takes 0x00 or 0x11; a conference leg never T.38 or VBD (09 R281, Table 9-11) (DEDUCED, log 30). -/
def modifyDenied (cur p : BitVec 160) (newB : Nat) : Bool :=
  let b := pb p 25
  if isMixer cur || pb cur 25 == 0 then b != pb cur 25 || newB != 0 || (isMixer cur && vbd p)
  else b == 0 || b == 0x11

/-- The admission of a modified channel and its effect (08 R236; 02 R63, R64; 11 R337; 09 R281): the home of a new session B binds it
before the command completes, and it acts from the frame boundary on, as the program does (DEDUCED, log 55;
DESIGN CHOICE, log 101). -/
def modifyPlace (e : Entry) (ch : Channel) (s : State) : State :=
  let c := e.cmd
  let p := programOf c
  let h := prm c 20 4
  let coins := programCoins p (isMixer p)
  let more := coins - ch.coins
  let reserve (l : Leg) := legGranules p l ((ch.legOf l).jb.cfg.maxMs)
  let bHeld := h != 0 || ch.legB.session != 0
  let want := reserve .a + (if bHeld then reserve .b else 0)
  let held := ch.legA.jb.reserved + ch.legB.jb.reserved
  let raise_ := decide (0 < more) && s.needsRaise ch.engine more
  if (decide (ch.coins < coins) && !s.admits ch.engine coins (some ch.id)) || (raise_ && s.gov.fault) then
    finish e stNoResource [] (count (devCtr 25) s)
  else if depthPool < s.reservedGranules - held + want then finish e stNoResource [] (count (devCtr 37) s)
  else if raise_ then
    waitRaise e (setEntry e.id (fun x => { x with aux := [4, 0] }) s)
  else
    let new := if h = 0 then none else s.sessionCopy h e.sessions
    let s1 := setChannel ch.id (fun x =>
      { x with next := some p, nextB := if h = 0 then x.nextB else new, coins := coins, level := programLevel p,
               legA := { x.legA with jb := { x.legA.jb with reserved := max x.legA.jb.reserved (reserve .a) } },
               legB := { x.legB with jb := { x.legB.jb with
                 reserved := if bHeld then max x.legB.jb.reserved (reserve .b) else 0 } } }) s
    let dropped := if h = 0 then [] else ch.nextB.toList.flatMap fun c => releaseRequest c.handle.toNat ch.id
    finishCommitted e 0 (dropped ++ bindRequest h ch.id .b s.node) (loadChanged s1)

/-- CHANNEL_MODIFY (09 R281, R289, R291; 16 R496). -/
def channelModifyBegin (e : Entry) (s : State) : State :=
  let c := e.cmd
  checked e serviceModes (modifyChecks c)
    (fun s => onChannel e (prm c 16 4) (fun ch => unlessSuspended e ch fun s =>
      let h := prm c 20 4
      let s := tellerDrain s
      if modifyDenied ch.latest (programOf c) h then finish e stDenied [] s
      else if h = 0 then modifyPlace e ch s
      else if handleNode h ≠ s.node then askSession e h [10] s
      else if (s.session h).isNone then finish e stNotFound [] s
      else if (s.session h).any fun y => y.bound then finish e stExists [] s
      else modifyPlace e ch s) s) s

def channelModifyObjects (c : Cmd) : List Obj :=
  .channel (prm c 16 4) :: if prm c 20 4 = 0 then [] else [.session (prm c 20 4)]

def execChannelModify (src : Source) (c : Cmd) (s : State) : Host.Outcome State Fault Refusal :=
  .next (takeCommand .channelModify src c (channelModifyObjects c) channelModifyBegin s)

/-- Cumulative loss and interarrival jitter of a leg (RFC 3550; 09 Table 9-7). -/
def LegState.lost (x : LegState) : Int :=
  match x.stats with
  | some r => r.lost
  | none => 0

def LegState.jitter (x : LegState) : Nat :=
  match x.stats with
  | some r => r.jitter16 / 16
  | none => 0

/-- Leg statistics (09 Table 9-7). -/
def legBytes (ch : Channel) (l : Leg) (s : State) : List Byte :=
  let x := ch.legOf l
  let n (k : Nat) := s.counter (legCtr ch.id (legNum l) k)
  if x.session = 0 then List.replicate 96 0
  else natBytes 96 (layout 0
    [⟨0, 4, n 0⟩, ⟨4, 4, n 1⟩, ⟨8, 4, twos 4 x.lost⟩, ⟨12, 4, x.jitter⟩, ⟨16, 4, x.rttUs⟩, ⟨20, 4, n 2⟩, ⟨24, 4, n 3⟩,
     ⟨28, 4, n 4⟩, ⟨32, 4, n 5⟩, ⟨36, 4, n 6⟩, ⟨40, 4, x.remoteSsrc.toNat⟩, ⟨44, 4, x.localSsrc.toNat⟩, ⟨48, 4, n 7⟩,
     ⟨52, 4, n 8⟩])

/-- STATE of CHANNEL_QUERY (09 Table 9-6). -/
def ChannelState.code : ChannelState → Nat
  | .running => 0
  | .suspended => 1
  | .moving => 2

/-- The 256 bytes of CHANNEL_QUERY (09 Tables 9-6, 9-7; 16 R496) (DEDUCED, log 62). -/
def channelBytes (ch : Channel) (s : State) : List Byte :=
  let away := decide (ch.state = .suspended)
  let state := if ch.outMove.isSome then ChannelState.moving.code else ch.state.code
  natBytes 64 (layout 0
    [⟨0, 4, ch.id⟩, ⟨4, 1, s.node⟩, ⟨5, 1, if away then 0xFF else ch.engine⟩, ⟨6, 1, if away then 0xFF else ch.slot⟩,
     ⟨7, 1, ch.level⟩, ⟨8, 2, if away then 0 else ch.coins⟩, ⟨10, 1, state⟩,
     ⟨11, 1, bit ch.ecConverged + 2 * bit ch.ecDisabled + 4 * bit ch.nlpActive⟩,
     ⟨12, 4, (ch.conference.map (·.1)).getD 0⟩, ⟨16, 20, ch.latest.toNat⟩, ⟨36, 1, twos 1 ch.ecErl⟩,
     ⟨37, 1, ch.ecErle⟩]) ++
  legBytes ch .a s ++ legBytes ch .b s

/-- CHANNEL_QUERY (09 R283). -/
def channelQueryBegin (e : Entry) (s : State) : State :=
  let c := e.cmd
  checked e serviceModes [reservedBytes c 20 24, hostAddr c 24 64, reservedBytes c 32 64]
    (fun s => onChannel e (prm c 16 4) (fun ch s => finishData e (prm c 24 8) (channelBytes ch s) s) s) s

def execChannelQuery (src : Source) (c : Cmd) (s : State) : Host.Outcome State Fault Refusal :=
  .next (takeCommand .channelQuery src c (channelObject c) channelQueryBegin s)

/-- A new context of a leg and direction: a receive context is pending at first (09 R277). -/
def installKey (c : Cmd) (id : Nat) (k : Option SrtpContext) (s : State) : State :=
  setLeg id (legParam c 20) (fun x =>
    if prmByte c 21 = 1 then { x with txSrtp := k }
    else match k with
      | some k => { x with rxPending := some k }
      | none => { x with rxSrtp := none, rxPending := none }) s

/-- The context that a key block gives (09 R284): the key at byte 0, the salt at byte 32. -/
def keyContext (c : Cmd) (block : List Byte) : SrtpContext :=
  let suite := prmByte c 22
  let key := bytesNat (block.take (if suite = 3 then 32 else 16))
  let salt := bytesNat ((block.drop 32).take (if suite = 1 then 14 else 12))
  { suite := suite, key := BitVec.ofNat 256 key, salt := BitVec.ofNat 112 salt, roc := BitVec.ofNat 32 (prm c 32 4),
    srtcpClear := (prmByte c 23).testBit 0 }

/-- SRTP_KEY_SET on a channel that runs here, with its key block (09 R276, R277, R284, Table 9-11). -/
def keyHere (e : Entry) (ch : Channel) (block : List Byte) (s : State) : State :=
  if legParam e.cmd 20 = .b ∧ noRtp (pb ch.latest 25) then finish e stDenied [] s
  else finish e stDone []
    (installKey e.cmd ch.id (if prmByte e.cmd 22 = 0 then none else some (keyContext e.cmd block)) s)

/-- The key block has arrived (09 R284): the key is set here, or goes to the member that runs the channel (01 R27). -/
def keyData (e : Entry) (block : List Byte) (s : State) : State :=
  match s.channel (prm e.cmd 16 4) with
  | some ch => unlessSuspended e ch (keyHere e ch block) s
  | none => askNext { e with reply := block } (s.searchOrder (prm e.cmd 16 4)) (setEntry e.id (fun x => { x with reply := block }) s)

/-- SRTP_KEY_SET (09 R276, R277, R284, R289): the device that the host has sent it to reads the key block, before it asks another
member; a command that another member has carried here brings the block with it (01 R27). -/
def srtpKeySetBegin (e : Entry) (s : State) : State :=
  let c := e.cmd
  let ask (s : State) : State := setEntry e.id (fun x => { x with aux := [1] }) s
  checked e serviceModes
    [within c 20 1 0 1, within c 21 1 0 1, within c 22 1 0 3, reservedBits c 23 1 1, need 24 (decide (prm c 24 8 % 64 = 0)),
     reservedBytes c 36 64, need 24 ((prmByte c 22 == 0) == (prm c 24 8 == 0))]
    (fun s =>
      if prmByte c 22 = 0 ∨ e.fromPeer ∨ (s.searchOrder (prm c 16 4)).isEmpty ∧ (s.channel (prm c 16 4)).isNone then
        onChannel e (prm c 16 4) (fun ch => unlessSuspended e ch (keyHere e ch e.given)) s
      else match s.channel (prm c 16 4) with
        | none => ask s
        | some ch => unlessSuspended e ch (fun s =>
            if legParam c 20 = .b ∧ noRtp (pb ch.latest 25) then finish e stDenied [] s else ask s) s) s

def execSrtpKeySet (src : Source) (c : Cmd) (s : State) : Host.Outcome State Fault Refusal :=
  .next (takeCommand .srtpKeySet src c (channelObject c) srtpKeySetBegin s)

/-- RTCP_REPORT_TIMER: the leg sends its compound packet when its interval is over (09 R278). A suspended channel sends nothing (16
R496). -/
def execRtcpReportTimer (channel : Word32) (leg : Leg) (s : State) : Host.Outcome State Fault Refusal :=
  .next <|
    match s.channel channel.toNat with
    | none => s
    | some ch =>
      if ch.state ≠ .running ∨ s.mode.current ∉ serviceModes ∨ !hasBuffer ch leg then s
      else sendRtcp ch leg false (advance (ch.legOf leg).reportDue s)

end Sys2Proof.Machine
end

