-- ==== Sys2Proof/Machine/Voice.lean ====
section
/-!
DEFINITION. Conferences, tones and detectors (09 R265 to R275, R285 to R290, R293 to R295).
-/
namespace Sys2Proof.Machine

def State.conference (s : State) (id : Nat) : Option Conference :=
  s.voice.conferences.find? fun c => c.id == id

/-- A conference that CONF_DESTROY has not named (09 R285). -/
def State.openConference (s : State) (id : Nat) : Option Conference :=
  (s.conference id).filter fun c => !c.ending

def setConference (id : Nat) (f : Conference → Conference) (s : State) : State :=
  { s with voice := { s.voice with conferences := s.voice.conferences.map fun c => if c.id = id then f c else c } }

/-- The lowest free leg index of a conference (09 R285). -/
def Conference.freeIndex (c : Conference) : Nat :=
  ((List.range 64).find? fun k => !c.legs.any fun x => x.index == k).getD 0

/-- A channel is a leg of its conference, and stays one beyond the next frame boundary (09 R285). -/
def State.isLeg (s : State) (ch : Channel) : Bool :=
  match ch.conference with
  | none => false
  | some (id, k) => (s.openConference id).any fun c => c.legs.any fun x => x.index == k && !x.leaving

/-- Leg `a` is heard before leg `b`: louder in the previous frame, the lower index on a tie (09 R275). -/
def louder (a b : ConferenceLeg) : Bool :=
  match a.previous, b.previous with
  | some x, some y => decide (y.level < x.level) || (decide (x.level = y.level) && decide (a.index < b.index))
  | some _, none => true
  | _, _ => false

/-- The legs that the mix includes: those that contributed in the previous frame, listen-only ones never, and at most
LOUDEST of them (09 R275). -/
def Conference.chosen (c : Conference) : List ConferenceLeg :=
  let able := c.legs.filter fun x => !x.listenOnly && x.previous.isSome
  able.filter fun x => decide ((able.filter fun y => louder y x).length < c.loudest)

/-- The sum of two signals. -/
def addSamples : List Int → List Int → List Int
  | [], ys => ys
  | xs, [] => xs
  | x :: xs, y :: ys => (x + y) :: addSamples xs ys

/-- The mix that a leg hears: the chosen legs other than itself, saturated to 16 bits (09 R275). -/
def Conference.mixFor (c : Conference) (k : Nat) : List Int :=
  let others := c.chosen.filter fun x => x.index != k
  (others.foldl (fun sum x => addSamples sum ((x.previous.map (·.samples)).getD [])) []).map (clampInt (-32768) 32767)

/-- The mix of every leg. -/
def Conference.mixed (c : Conference) : Conference :=
  { c with legs := c.legs.map fun x => { x with heard := c.mixFor x.index } }

/-- A frame of a conference is over: legs that leave are gone, and what the others contributed is what the next frame's mix is built
from (09 R275, R285). -/
def Conference.nextFrame (c : Conference) : Conference :=
  Conference.mixed { c with legs := (c.legs.filter fun x => !x.leaving).map fun x =>
    { x with previous := x.contribution, contribution := none } }

/-- The conferences at a frame boundary (09 R275, R285). -/
def mixBoundary (s : State) : State :=
  { s with voice := { s.voice with
      channels := s.voice.channels.map fun ch =>
        if ch.conference.isSome && !s.isLeg ch then { ch with conference := none } else ch,
      conferences := (s.voice.conferences.filter fun c => !c.ending).map Conference.nextFrame } }

/-- A leg's task contributes to its conference's present frame, after its gain (09 R275). -/
def contribute (ch : Channel) (level : Int) (samples : List Int) (s : State) : State :=
  match ch.conference with
  | none => s
  | some (id, k) => setConference id (fun c => { c with legs := c.legs.map fun x =>
      if x.index = k ∧ x.firstFrame ≤ s.alw.frame ∧ isMixer ch.program then
        { x with contribution := some { level := level + 16 * x.gainDb,
                                        samples := if x.gainDb = 0 then samples else samples.map (Config.gained x.gainDb) } }
      else x }) s

/-- A suspended leg contributes silence from now on (09 R295). -/
def silenceLeg (ch : Channel) (s : State) : State :=
  match ch.conference with
  | none => s
  | some (id, k) => setConference id (fun c => Conference.mixed { c with legs := c.legs.map fun x =>
      if x.index = k then { x with contribution := none, previous := none } else x }) s

/-- The conference commands of a conference that is not here go to the members in turn (01 R27). -/
def onConference (e : Entry) (id : Nat) (here : Conference → State → State) (s : State) : State :=
  match s.openConference id with
  | some c => here c s
  | none => if e.fromPeer then finish e stNotFound [] s else askNext e (s.searchOrder id) s

/-- A conference begins on this node (09 R274, R285, Table 9-11) (DESIGN CHOICE, log 31). -/
def createConference (e : Entry) (s : State) : State :=
  let c := e.cmd
  let id := (s.voice.nextConference % 268435456) * 16 + s.node
  let loudest := if prmByte c 17 = 0 then 3 else prmByte c 17
  let conf : Conference := { id := id, maxLegs := prmByte c 16, loudest := loudest,
                             wideband := (prmByte c 18).testBit 0, legs := [] }
  finish e stDone [⟨8, 4, id⟩, ⟨12, 1, s.node⟩]
    { s with voice := { s.voice with conferences := s.voice.conferences ++ [conf],
                                     nextConference := s.voice.nextConference + 1 } }

/-- This device is in SERVICE and has a conference free (09 R274, Table 9-11). -/
def State.confRoom (s : State) : Bool :=
  decide (s.mode.current = .service) && decide (s.voice.conferences.length < 1024)

/-- The members in turn are asked for the conference, or it begins here (09 R274). -/
def confPlace (e : Entry) (nodes : List Nat) (s : State) : State :=
  match nodes with
  | [] => finish e stNoResource [] s
  | n :: rest =>
    if n = s.node then createConference e s
    else askRemote e e.cmd n [] [] (setEntry e.id (fun x => { x with aux := 13 :: rest }) s)

/-- The nodes in the order in which a new conference tries them: the most free coins first, the lowest node on a tie (09 R274)
(DESIGN CHOICE, log 96). -/
def State.confOrder (s : State) : List Nat :=
  (sortBy roomier ((if s.confRoom then [(s.node, s.deviceFree)] else [])
    ++ s.servicePeers.map fun n => (n, (s.cluster.peers.getD n {}).freeCoins))).map (·.1)

/-- CONF_CREATE (09 R274, R285; 05 R149). -/
def confCreateBegin (e : Entry) (s : State) : State :=
  let c := e.cmd
  checked e serviceModes
    [within c 16 1 3 64, within c 17 1 0 8, reservedBits c 18 1 1, reservedBytes c 19 64]
    (fun s => confPlace e (if e.fromPeer then (if s.confRoom then [s.node] else []) else s.confOrder) s) s

def execConfCreate (src : Source) (c : Cmd) (s : State) : Host.Outcome State Fault Refusal :=
  .next (takeCommand .confCreate src c [] confCreateBegin s)

/-- A program with one byte replaced. -/
def putByte (p : BitVec 160) (o v : Nat) : BitVec 160 :=
  BitVec.ofNat 160 (withBits p.toNat (8 * (o - 24)) 8 v)

/-- The program of a channel whose leg B is a mixer, or nothing (09 R283, R285). -/
def withCodecB (p : BitVec 160) (codec : Nat) : BitVec 160 :=
  putByte (putByte (putByte (putByte p 25 codec) 27 0) 29 0) 31 0

/-- A channel becomes a leg: its leg B the mixer, from the next frame boundary (09 R285; 10 R323). -/
def joinConference (e : Entry) (conf : Conference) (ch : Channel) (s : State) : State :=
  let c := e.cmd
  let k := conf.freeIndex
  let p := withCodecB ch.latest 0x11
  let leg : ConferenceLeg := { index := k, channel := ch.id, listenOnly := (prmByte c 24).testBit 0,
                               gainDb := prmInt c 25 1, firstFrame := s.alw.frame + 1 }
  let s1 := setConference conf.id (fun x => { x with legs := x.legs ++ [leg] }) s
  let s2 := setChannel ch.id (fun x =>
    { x with conference := some (conf.id, k), next := some p, coins := programCoins p true }) s1
  finish e stDone [⟨8, 1, k⟩] (loadChanged s2)

/-- The coins of a channel as a conference leg (09 R262, R285). -/
def legCoinsOf (ch : Channel) : Nat :=
  programCoins (withCodecB ch.latest 0x11) true

/-- Why a channel cannot become a leg (09 Table 9-11; 16 R496). -/
def State.legDenied (s : State) (ch : Channel) : Option Byte :=
  if ch.state = .suspended then some stDenied
  else if s.isLeg ch then some stExists
  else if pb ch.latest 25 ≠ 0 ∨ vbd ch.latest then some stDenied
  else none

/-- CONF_ADD_LEG on a channel that runs here (09 R285, Table 9-11; 02 R63, R64) (DEDUCED, log 55). -/
def confAddHere (e : Entry) (conf : Conference) (ch : Channel) (s : State) : State :=
  let coins := legCoinsOf ch
  let raise_ := s.needsRaise ch.engine (coins - ch.coins)
  match s.legDenied ch with
  | some st => finish e st [] s
  | none =>
    if conf.maxLegs ≤ conf.legs.length then finish e stNoResource [] s
    else if !s.admits ch.engine coins (some ch.id) || (raise_ && s.gov.fault) then
      finish e stNoResource [] (count (devCtr 25) s)
    else if raise_ then waitRaise e (setEntry e.id (fun x => { x with aux := [4, 0] }) s)
    else joinConference e conf ch s

/-- The entry of a conference leg that goes with its channel (15 R474): what it has contributed does not. -/
def State.placeOf (s : State) (ch : Channel) : Option ConferencePlace :=
  ch.conference.bind fun p => (s.conference p.1).bind fun c =>
    (c.legs.find? fun x => x.index == p.2).map fun x =>
      { id := c.id, maxLegs := c.maxLegs, loudest := c.loudest, wideband := c.wideband,
        leg := { x with contribution := none, previous := none, heard := [] } }

/-- A channel as another device is told of it: with the entries of its sessions (15 R473). -/
def State.sentChannel (s : State) (ch : Channel) : Channel :=
  { ch with outMove := none, legA := { ch.legA with copy := s.entryOf ch.legA },
            legB := { ch.legB with copy := s.entryOf ch.legB } }

/-- A move to another device begins: the destination is asked to admit the channel (15 R473). `lost` counts the frames that
a retirement has already cost it. -/
def startMove (ch : Channel) (target cause lost : Nat) (entry : Option Nat) (s : State) : State :=
  tell target (.moveAsk (s.sentChannel ch) cause lost (s.placeOf ch)) (setChannel ch.id (fun x =>
    { x with outMove := some { entry := entry, target := target, admitted := false, engine := 0, slot := 0, lastFrame := 0,
                               copied := false, cause := cause, lost := lost } }) s)

/-- The conference node asks for a channel that runs here: it moves there, with cause 4, when it can become a leg and the conference
has room, and the answer follows the move (09 R285, Table 9-11; 16 R509). The request is a CONF_ADD_LEG of conference 0 with one byte
of data (DESIGN CHOICE, log 13). -/
def giveChannel (e : Entry) (node : Nat) (s : State) : State :=
  match s.channel (prm e.cmd 20 4) with
  | none => finish e stNotFound [] s
  | some ch =>
    match s.legDenied ch with
    | some st => finish e st [] s
    | none => if e.given = [1] then startMove ch node 4 0 (some e.id) s else finish e stNoResource [] s

/-- The members that may run the channel are asked for it in turn. -/
def askChannel (e : Entry) (conf : Conference) (nodes : List Nat) (s : State) : State :=
  match nodes with
  | [] => finish e stNotFound [] s
  | n :: rest =>
    let c := { e.cmd with params := e.cmd.params &&& ~~~(0xFFFFFFFF#384) }
    askRemote e c n [BitVec.ofNat 8 (bit (decide (conf.legs.length < conf.maxLegs)))] []
      (setEntry e.id (fun x => { x with aux := 6 :: rest }) s)

/-- CONF_ADD_LEG at the conference (09 R285): a channel of another node is moved here first. -/
def confAddLegAt (e : Entry) (conf : Conference) (s : State) : State :=
  match s.channel (prm e.cmd 20 4) with
  | some ch => confAddHere e conf ch s
  | none => askChannel e conf (s.searchOrder (prm e.cmd 20 4)) s

/-- CONF_ADD_LEG (09 R285, Table 9-11). -/
def confAddLegBegin (e : Entry) (s : State) : State :=
  let c := e.cmd
  checked e serviceModes
    [reservedBits c 24 1 1, need 25 (decide (-12 ≤ prmInt c 25 1) && decide (prmInt c 25 1 ≤ 12)), reservedBytes c 26 64]
    (fun s =>
      match e.source with
      | .peer n _ =>
        if prm c 16 4 = 0 then giveChannel e n.val s else onConference e (prm c 16 4) (confAddLegAt e) s
      | _ => onConference e (prm c 16 4) (confAddLegAt e) s) s

def confLegObjects (c : Cmd) : List Obj :=
  [.conference (prm c 16 4), .channel (prm c 20 4)]

def execConfAddLeg (src : Source) (c : Cmd) (s : State) : Host.Outcome State Fault Refusal :=
  .next (takeCommand .confAddLeg src c (confLegObjects c) confAddLegBegin s)

/-- CONF_ADD_LEG goes on after the channel's move, or after a member's answer (09 R285). -/
def confAddReply (e : Entry) (status : Byte) (result : Nat) (s : State) : State :=
  match e.aux, s.openConference (prm e.cmd 16 4) with
  | 6 :: rest, some conf =>
    let e' := { e with phase := .executing }
    if status = stDone then confAddLegAt e' conf (setEntry e.id (fun _ => e') s)
    else if status = stNotFound then askChannel e conf rest s
    else finish e status [] s
  | _, _ => finish e status [⟨8, 20, result⟩] s

/-- A leg becomes single-leg again from the next frame boundary (09 R285; 10 R323). -/
def makeSingle (id : Nat) (s : State) : State :=
  setChannel id (fun x =>
    let p := withCodecB x.latest 0
    { x with next := some p, coins := programCoins p false }) s

/-- CONF_REMOVE_LEG (09 R285, Table 9-11; 16 R496). -/
def confRemoveLegBegin (e : Entry) (s : State) : State :=
  let c := e.cmd
  checked e serviceModes [reservedBytes c 24 64]
    (fun s => onConference e (prm c 16 4) (fun conf s =>
      let id := prm c 20 4
      if conf.legs.any fun x => x.channel == id && !x.leaving then
        finish e stDone [] (loadChanged (makeSingle id
          (setConference conf.id (fun x => { x with legs := x.legs.map fun l =>
            if l.channel = id then { l with leaving := true } else l }) s)))
      else finish e stNotFound [] s) s) s

def execConfRemoveLeg (src : Source) (c : Cmd) (s : State) : Host.Outcome State Fault Refusal :=
  .next (takeCommand .confRemoveLeg src c (confLegObjects c) confRemoveLegBegin s)

/-- CONF_DESTROY (09 R285). -/
def confDestroyBegin (e : Entry) (s : State) : State :=
  let c := e.cmd
  checked e serviceModes [reservedBytes c 20 64]
    (fun s => onConference e (prm c 16 4) (fun conf s =>
      let s1 := (conf.legs.filter fun x => !x.leaving).foldl (fun st x => makeSingle x.channel st) s
      finish e stDone [] (loadChanged (setConference conf.id (fun x => { x with ending := true }) s1))) s) s

def confObject (c : Cmd) : List Obj := [.conference (prm c 16 4)]

def execConfDestroy (src : Source) (c : Cmd) (s : State) : Host.Outcome State Fault Refusal :=
  .next (takeCommand .confDestroy src c (confObject c) confDestroyBegin s)

/-- A frequency of a tone is one that a leg of some rate could carry (09 R286). -/
def toneHz (v : Nat) : Bool := v == 0 || decide (100 ≤ v ∧ v ≤ 7000)

def toneLevel (v : Int) : Bool := decide (-40 ≤ v) && decide (v ≤ 0)

/-- ON_MS and OFF_MS of a segment (09 Table 9-9). -/
def segOn (c : Cmd) (k : Nat) : Nat := prm c (32 + 4 * k) 2
def segOff (c : Cmd) (k : Nat) : Nat := prm c (34 + 4 * k) 2

/-- TONE_GENERATE's parameters (09 R286, Table 9-9). -/
def toneChecks (c : Cmd) : List Check :=
  let digit := decide (prmByte c 21 = 0)
  let used (k : Nat) := decide (k < prmByte c 31)
  let seg (k : Nat) : List Check :=
    [need (32 + 4 * k) (decide (segOn c k ≤ 10000) && decide (segOn c k % 10 = 0)),
     need (34 + 4 * k) (decide (segOff c k ≤ 10000) && decide (segOff c k % 10 = 0))]
  let joined (k : Nat) : List Check :=
    [need (32 + 4 * k) (if used k then segOn c k != 0 else segOn c k == 0), need (34 + 4 * k) (used k || segOff c k == 0)]
  [within c 20 1 0 1, within c 21 1 0 1, within c 22 1 0 15, reservedBits c 23 1 1, need 24 (toneHz (prm c 24 2)),
   need 26 (toneHz (prm c 26 2)), need 28 (toneLevel (prmInt c 28 1)), need 29 (toneLevel (prmInt c 29 1)),
   within c 31 1 1 4] ++ ((List.range 4).map seg).flatten ++
  [reservedBytes c 48 64, need 22 (digit || prmByte c 22 == 0), need 24 (digit || prm c 24 2 != 0),
   need 29 (digit || prm c 26 2 != 0 || prmByte c 29 == 0),
   need 32 (!digit || decide (40 ≤ segOn c 0 ∧ segOn c 0 ≤ 2000))] ++ ((List.range 4).map joined).flatten

/-- LEG 1 of a T.38, single-leg or conference-leg channel has no generator (09 Table 9-11). -/
def noGenerator (p : BitVec 160) (l : Leg) : Bool :=
  l == .b && noRtp (pb p 25)

/-- TONE_GENERATE: begun at the next frame boundary, when the command completes (09 R272, R286). -/
def toneGenerateBegin (e : Entry) (s : State) : State :=
  let c := e.cmd
  let l := legParam c 20
  checked e serviceModes (toneChecks c)
    (fun s => onChannel e (prm c 16 4) (fun ch => unlessSuspended e ch fun s =>
      let top := if s.legRate ch l = 8 then 3400 else 7000
      if noGenerator ch.latest l then finish e stDenied [] s
      else if prmByte c 21 = 1 ∧ top < prm c 24 2 then finishBadArg e 24 s
      else if prmByte c 21 = 1 ∧ top < prm c 26 2 then finishBadArg e 26 s
      else setEntry e.id (fun x => { x with aux := [7] }) s) s) s

def execToneGenerate (src : Source) (c : Cmd) (s : State) : Host.Outcome State Fault Refusal :=
  .next (takeCommand .toneGenerate src c (channelObject c) toneGenerateBegin s)

/-- The generator that a TONE_GENERATE describes (09 R286) (DEDUCED, log 53). -/
def toneOf (c : Cmd) (frame : Nat) : ToneGenerator :=
  let digit := decide (prmByte c 21 = 0)
  { isDigit := digit, digit := prmByte c 22, mix := (prmByte c 23).testBit 0, f1 := prm c 24 2, f2 := prm c 26 2,
    level1 := prmInt c 28 1, level2 := prmInt c 29 1, plays := if digit then 1 else prmByte c 30,
    cadence := if digit then [(segOn c 0, 0)] else (List.range (prmByte c 31)).map fun k => (segOn c k, segOff c k),
    startFrame := frame }

/-- Milliseconds of one cadence. -/
def ToneGenerator.cadenceMs (g : ToneGenerator) : Nat :=
  g.cadence.foldl (fun n p => n + p.1 + p.2) 0

/-- A generator that has played all its cadences by a frame (DEDUCED, log 53). -/
def ToneGenerator.runOut (g : ToneGenerator) (frame : Nat) : Bool :=
  g.plays != 0 && decide (g.cadenceMs * g.plays ≤ 10 * (frame - g.startFrame))

/-- A DTMF digit goes toward a leg in the leg's DTMF_MODE (09 R270); its RTP timestamp is a free value. -/
def startDigit (id : Nat) (l : Leg) (generated : Bool) (digit volume : Nat) (s : State) : State :=
  match s.channel id with
  | none => s
  | some ch =>
    let mode := legDtmf ch.program (legNum l)
    let d : DigitOut := { digit := digit, volume := volume, inband := mode != 1, events := mode != 0, generated := generated,
                          timestamp := BitVec.ofNat 32 (s.freeAt 135) }
    drawn (setLeg id l (fun x => { x with digitsOut := x.digitsOut ++ [d] }) s)

/-- A digit from `l` is carried toward the other leg, unless a generated tone goes there: then it is dropped (09 R270,
R272). -/
def carryDigit (id : Nat) (l : Leg) (digit volume : Nat) (s : State) : State :=
  match s.channel id with
  | none => s
  | some ch =>
    let o := otherLeg l
    if !hasPaths ch.program o then s
    else if (ch.legOf o).tone.isSome then count (legCtr id (legNum o) 10) s
    else startDigit id o false digit volume s

/-- The digit that `l` sent is over on the other leg (09 R270, R271, R293): a digit that is still heard in its other form goes
on. -/
def digitOver (id : Nat) (l : Leg) (digit : Nat) (s : State) : State :=
  match s.channel id with
  | none => s
  | some ch =>
    let leg := ch.legOf l
    if (leg.openDtmf.any fun t => t.kind.toNat == digit) || (leg.openTel.any fun x => x.code.toNat == digit) then s
    else endDigits id (otherLeg l) (fun d => !d.generated && d.digit == digit) s

/-- Stops and ends of a leg's generator at a frame boundary; a generated digit gets its end packets (09 R272, R286, R287). -/
def toneStops (id : Nat) (l : Leg) (s : State) : State :=
  match s.channel id with
  | none => s
  | some ch =>
    let x := ch.legOf l
    let stop := x.toneStopFrame.isSome || (x.tone.any fun g => g.runOut s.alw.frame)
    let s1 := setLeg id l (fun x => { x with tone := if stop then none else x.tone, toneStopFrame := none }) s
    if stop then endDigits id l (·.generated) s1 else s1

/-- A tone begins toward a leg: it replaces the one that runs, and drops the digits carried there (09 R272, R286). -/
def beginTone (id : Nat) (l : Leg) (g : ToneGenerator) (s : State) : State :=
  match s.channel id with
  | none => s
  | some ch =>
    let carried := ((ch.legOf l).digitsOut.filter fun d => !d.generated && !d.ended).length
    let s1 := countBy (legCtr id (legNum l) 10) carried
      (setLeg id l (fun x => { x with tone := some g, digitsOut := x.digitsOut.filter fun d => d.generated || d.ended }) s)
    let s2 := endDigits id l (·.generated) s1
    if g.isDigit then startDigit id l true g.digit (-g.level1).toNat s2 else s2

/-- The TONE_GENERATEs that wait for this boundary begin and complete (09 R286). -/
def toneStarts (s : State) : State :=
  (s.cmds.entries.filter fun e => e.op = .toneGenerate && e.phase = .executing && e.aux == [7]).foldl (fun st e =>
    match st.channel (prm e.cmd 16 4) with
    | none => finish e stNotFound [] st
    | some ch => finish e stDone [] (beginTone ch.id (legParam e.cmd 20) (toneOf e.cmd st.alw.frame) st)) s

/-- TONE_STOP (09 R287). -/
def toneStopBegin (e : Entry) (s : State) : State :=
  let c := e.cmd
  let l := legParam c 20
  checked e serviceModes [within c 20 1 0 1, reservedBytes c 21 64]
    (fun s => onChannel e (prm c 16 4) (fun ch => unlessSuspended e ch fun s =>
      if noGenerator ch.latest l then finish e stDenied [] s
      else
        let on := (ch.legOf l).tone.isSome
        finish e stDone [⟨8, 1, bit on⟩]
          (if on then setLeg ch.id l (fun x => { x with toneStopFrame := some (s.alw.frame + 1) }) s else s)) s) s

def execToneStop (src : Source) (c : Cmd) (s : State) : Host.Outcome State Fault Refusal :=
  .next (takeCommand .toneStop src c (channelObject c) toneStopBegin s)

/-- TONE_DETECT_SET's parameters (09 Table 9-10). -/
def detectChecks (c : Cmd) : List Check :=
  let signedIn (o : Nat) (lo hi : Int) := need o (decide (lo ≤ prmInt c o 1) && decide (prmInt c o 1 ≤ hi))
  [reservedBits c 20 1 3, reservedBits c 21 1 7, within c 22 1 30 60, signedIn 23 (-45) (-25), within c 24 2 300 3400,
   need 26 (prm c 26 2 == 0 || decide (300 ≤ prm c 26 2 ∧ prm c 26 2 ≤ 3400)), within c 28 1 1 5,
   signedIn 29 (-45) (-10), within c 30 2 20 5000, reservedBytes c 32 64]

def detectOf (c : Cmd) : DetectCfg :=
  { enable := BitVec.ofNat 3 (prmByte c 21), dtmfMinMs := prmByte c 22, dtmfMinDbm0 := prmInt c 23 1,
    userF1 := prm c 24 2, userF2 := prm c 26 2, userTol := prmByte c 28, userMinDbm0 := prmInt c 29 1,
    userMinMs := prm c 30 2 }

/-- TONE_DETECT_SET (09 R288). -/
def toneDetectSetBegin (e : Entry) (s : State) : State :=
  let c := e.cmd
  let new := detectOf c
  let mask := prmByte c 20
  checked e serviceModes (detectChecks c)
    (fun s =>
      if prm c 16 4 = 0 then
        let all := s.cfg.detect.mapIdx fun i x => if mask.testBit i then new else x
        finish e stDone [] { s with cfg := { s.cfg with detect := all } }
      else onChannel e (prm c 16 4) (fun ch => unlessSuspended e ch fun s =>
        let put (l : Leg) (s : State) : State :=
          if mask.testBit (legNum l) then setLeg ch.id l (fun x => { x with detectNext := some new }) s else s
        finish e stDone [] (put .b (put .a s))) s) s

def execToneDetectSet (src : Source) (c : Cmd) (s : State) : Host.Outcome State Fault Refusal :=
  .next (takeCommand .toneDetectSet src c (channelOrDefaults 3 c) toneDetectSetBegin s)

/-- The part of a detector's settings that two configurations share: DTMF, fax and user detection (09 Table 9-10). -/
def DetectCfg.sameDtmf (a b : DetectCfg) : Bool :=
  a.enable.getLsbD 0 == b.enable.getLsbD 0 && a.dtmfMinMs == b.dtmfMinMs && a.dtmfMinDbm0 == b.dtmfMinDbm0

def DetectCfg.sameFax (a b : DetectCfg) : Bool :=
  a.enable.getLsbD 1 == b.enable.getLsbD 1

def DetectCfg.sameUser (a b : DetectCfg) : Bool :=
  a.enable.getLsbD 2 == b.enable.getLsbD 2 && a.userF1 == b.userF1 && a.userF2 == b.userF2 && a.userTol == b.userTol
    && a.userMinDbm0 == b.userMinDbm0 && a.userMinMs == b.userMinMs

/-- A changed detector restarts at a frame boundary: what it held open is forgotten (09 R288). -/
def detectBoundary (id : Nat) (l : Leg) (s : State) : State :=
  setLeg id l (fun x =>
    match x.detectNext with
    | none => x
    | some d =>
      { x with detect := d, detectNext := none, openDtmf := if d.sameDtmf x.detect then x.openDtmf else none,
               openUser := if d.sameUser x.detect then x.openUser else none,
               faxRaised := if d.sameFax x.detect then x.faxRaised else [] }) s

/-- A judgement of a measured value: accepted, rejected, or in between, where Table 9-3 leaves it open. -/
def judged (accept reject : Bool) : Option Bool :=
  if reject then some false else if accept then some true else none

/-- A frequency within `tol` of nominal, or beyond `far`, in 0.01 % (09 Table 9-3). -/
def judgeOffset (tol far : Nat) (x : Int) : Option Bool :=
  judged (decide (x.natAbs ≤ tol)) (decide (far < x.natAbs))

/-- Judgements together: one rejection rejects. -/
def judgeAll (l : List (Option Bool)) : Option Bool :=
  if some false ∈ l then some false else if none ∈ l then none else some true

/-- Whether the DTMF detector accepts a reading (09 Table 9-3): a level or a twist that is not accepted is rejected
(DEDUCED, log 97). -/
def DetectCfg.judgeDtmf (d : DetectCfg) (r : ToneReading) : Option Bool :=
  let level (v : Int) := decide (d.dtmfMinDbm0 ≤ v) && decide (v ≤ 0)
  let twist := decide (r.level1 - 8 ≤ r.level2) && decide (r.level2 ≤ r.level1 + 4)
  judgeAll [judgeOffset 150 350 r.offset1, judgeOffset 150 350 r.offset2, some (level r.level1), some (level r.level2), some twist,
    judged (decide (d.dtmfMinMs ≤ r.ms)) (decide (r.ms + 10 ≤ d.dtmfMinMs))]

/-- Whether the user tone detector accepts a reading (09 Table 9-3). -/
def DetectCfg.judgeUser (d : DetectCfg) (r : ToneReading) : Option Bool :=
  let two := d.userF2 != 0
  let level (v : Int) := decide (d.userMinDbm0 ≤ v) && decide (v ≤ 0)
  let twist := decide ((r.level1 - r.level2).natAbs ≤ 6)
  let offset := judgeOffset (100 * d.userTol) (100 * (d.userTol + 2))
  judgeAll [offset r.offset1, if two then offset r.offset2 else some true, some (level r.level1),
    some (!two || level r.level2), some (!two || twist),
    judged (decide (d.userMinMs ≤ r.ms)) (decide (r.ms + 10 < d.userMinMs))]

/-- The judgement of the detector that a reading is for; one that is switched off hears nothing (09 R265). -/
def LegState.judge (x : LegState) (r : ToneReading) : Option Bool :=
  if r.kind.toNat ≤ 15 then (if x.detect.enable.getLsbD 0 then x.detect.judgeDtmf r else some false)
  else if r.kind = 0x40 ∧ x.detect.enable.getLsbD 2 then x.detect.judgeUser r
  else some false

/-- The level of a tone in dBm0, as its events give it: that of its first frequency (DEDUCED, log 97). -/
def toneByte (v : Int) : Byte :=
  BitVec.ofInt 8 v

/-- A detector accepts a tone (09 R265, R266, R293). -/
def toneAccepted (ch : Channel) (l : Leg) (r : ToneReading) (s : State) : State :=
  let user := decide (15 < r.kind.toNat)
  let t : OpenTone := { kind := r.kind, level := toneByte r.level1, since := s.now - r.ms * 1000000 }
  let s1 := setLeg ch.id l (fun x =>
    { x with openDtmf := if user then x.openDtmf else some t, openUser := if user then some t else x.openUser }) s
  let s2 := raiseVoice evToneDetected ch.id l r.kind 0 t.level 0 s1
  if user ∨ (ch.legOf l).openTel.any (fun x => x.code == r.kind) then s2
  else carryDigit ch.id l r.kind.toNat (-r.level1).toNat s2

/-- A detector measures a tone (09 R265, Table 9-3): between acceptance and rejection the outcome is a free value. -/
def toneFound (ch : Channel) (l : Leg) (r : ToneReading) (s : State) : State :=
  let leg := ch.legOf l
  let held := if 15 < r.kind.toNat then leg.openUser else leg.openDtmf
  if !hasPaths ch.program l || held.isSome then s
  else match leg.judge r with
    | some true => toneAccepted ch l r s
    | some false => s
    | none => if s.freeAt 136 % 2 = 1 then toneAccepted ch l r (drawn s) else drawn s

/-- A detector hears no tone any more: after 30 ms its tone has ended (09 R266, Table 9-3). -/
def toneGone (ch : Channel) (l : Leg) (user : Bool) (absentMs durationMs : Nat) (s : State) : State :=
  let leg := ch.legOf l
  match if user then leg.openUser else leg.openDtmf with
  | none => s
  | some t =>
    if absentMs < 30 then s
    else
      let s1 := setLeg ch.id l (fun x =>
        { x with openDtmf := if user then x.openDtmf else none, openUser := if user then none else x.openUser }) s
      let s2 := raiseVoice evToneDetected ch.id l t.kind 1 t.level (min 65535 durationMs) s1
      if user then s2 else digitOver ch.id l t.kind.toNat s2

/-- A measured value lies within `tol` of a nominal one. -/
def near (nominal tol x : Nat) : Bool :=
  decide (nominal ≤ x + tol) && decide (x ≤ nominal + tol)

/-- The KIND of a fax or modem signal, if it is one (09 R267, Table 9-4). -/
def faxKind (r : FaxReading) : Option Nat :=
  let reversed := match r.reversal with
    | none => some false
    | some (deg, ms) => if near 180 25 deg && near 450 25 ms then some true else none
  let modulated := match r.modulation with
    | none => some false
    | some (tenthHz, depth) => if near 150 1 tenthHz && near 20 5 depth then some true else none
  if r.level < -43 then none
  else if 3 ≤ r.hdlcFlags then some 6
  else if r.ms < 400 then none
  else if near 11000 380 r.tenthHz then some 1
  else if near 21000 210 r.tenthHz then
    match reversed, modulated with
    | some p, some m => some (2 + bit p + 2 * bit m)
    | _, _ => none
  else none

/-- A fax or modem signal is recognised: reported once until it has been absent for 1 s, and the tone disabler (09 R267,
R268). -/
def faxFound (ch : Channel) (l : Leg) (r : FaxReading) (s : State) : State :=
  let leg := ch.legOf l
  match faxKind r with
  | none => s
  | some k =>
    if !hasPaths ch.program l || !leg.detect.enable.getLsbD 1 then s
    else
      let kind : Byte := BitVec.ofNat 8 k
      let disable := (pb ch.program 37).testBit 3 && (k == 3 || k == 5)
      let s1 := if disable then setChannel ch.id (fun x => { x with ecDisabled := true, nlpActive := false }) s else s
      if kind ∈ leg.faxRaised then s1
      else raiseVoice evFaxDetected ch.id l kind 0 (toneByte r.level) 0
        (setLeg ch.id l (fun x => { x with faxRaised := x.faxRaised ++ [kind] }) s1)

/-- An RFC 4733 payload: event, E, VOLUME and duration. -/
structure TelPayload where
  code : Byte
  ended : Bool
  volume : Byte
  duration : Nat

def telPayload (p : List Byte) : Option TelPayload :=
  match p with
  | code :: v :: hi :: lo :: _ =>
    some { code := code, ended := v.getLsbD 7, volume := v &&& 63, duration := 256 * hi.toNat + lo.toNat }
  | _ => none

/-- A timestamp is not after another (RFC 3550's modulo order). -/
def notAfter (ts ref : Nat) : Bool :=
  decide ((ref + 4294967296 - ts) % 4294967296 < 2147483648)

/-- An event ends (09 R271, R290). -/
def telEnds (id : Nat) (l : Leg) (x : OpenEvent) (s : State) : State :=
  digitOver id l x.code.toNat (raiseVoice evTelephoneEvent id l x.code 1 (-x.volume) x.ms
    (setLeg id l (fun y => { y with openTel := none, lastTel := some x.timestamp }) s))

/-- An event begins: it is counted, reported, and carried unless the same digit is heard inband (09 R270, R271, R290, R293). -/
def telBegins (id : Nat) (l : Leg) (x : OpenEvent) (s : State) : State :=
  let heard := (s.channel id).any fun ch => (ch.legOf l).openDtmf.any fun t => t.kind == x.code
  let s1 := raiseVoice evTelephoneEvent id l x.code 0 (-x.volume) 0 (count (legCtr id (legNum l) 5)
    (setLeg id l (fun y => { y with openTel := some x }) s))
  if heard then s1 else carryDigit id l x.code.toNat x.volume.toNat s1

/-- A packet of the event that is open: the same timestamp, or the segment that follows a full one (09 R271). -/
def OpenEvent.grown (x : OpenEvent) (ts : Nat) (p : TelPayload) : Option OpenEvent :=
  if ts = x.timestamp then some { x with duration := max x.duration p.duration }
  else if p.code = x.code ∧ ts = (x.timestamp + 65535) % 4294967296 then
    some { x with timestamp := ts, before := x.before + 65535, duration := p.duration }
  else none

/-- A received RFC 4733 packet (09 R271, R290, R293): packets are merged by event timestamp, and an unsupported event counts once
(DEDUCED, log 97). -/
def telephoneIn (id : Nat) (l : Leg) (ts : Nat) (payload : List Byte) (s : State) : State :=
  match s.channel id, telPayload payload with
  | some ch, some p =>
    let leg := ch.legOf l
    let new : OpenEvent := { code := p.code, volume := p.volume, timestamp := ts, before := 0, duration := p.duration }
    let whole (s : State) : State := if p.ended then telEnds id l new (telBegins id l new s) else telBegins id l new s
    let fresh (s : State) : State :=
      if leg.lastTel.any (notAfter ts) then s
      else if 15 < p.code.toNat then count (legCtr id (legNum l) 9) (setLeg id l (fun y => { y with lastTel := some ts }) s)
      else whole s
    match leg.openTel with
    | none => fresh s
    | some x =>
      match x.grown ts p with
      | some x' => if p.ended then telEnds id l x' s else setLeg id l (fun y => { y with openTel := some x' }) s
      | none => if notAfter ts x.timestamp then s else fresh (telEnds id l x s)
  | _, _ => s

/-- One finding of a frame task's signal processing (09 R263 to R268, R275; 10 R312). `present` that the task's frame is the
present one, so that its contribution counts (09 R275) (DESIGN CHOICE, log 67). -/
def applySignal (id : Nat) (present : Bool) (s : State) (x : Signal) : State :=
  match s.channel id with
  | none => s
  | some ch =>
    match x with
    | .tone l r => toneFound ch l r s
    | .toneAbsent l user absentMs durationMs => toneGone ch l user absentMs durationMs s
    | .fax l r => faxFound ch l r s
    | .faxAbsent l kind ms =>
      if ms < 1000 then s else setLeg id l (fun x => { x with faxRaised := x.faxRaised.filter fun k => k != kind }) s
    | .powers l v => meterFrame id l v s
    | .echo converged nlp erl erle =>
      if pb ch.program 36 = 0 then s
      else setChannel id (fun c => { c with ecConverged := converged, ecErl := erl, ecErle := erle,
                                            nlpActive := nlp && (pb c.program 37).testBit 1 && !c.ecDisabled }) s
    | .quiet a b ms =>
      if a < -36 ∧ b < -36 ∧ 250 ≤ ms then setChannel id (fun c => { c with ecDisabled := false }) s else s
    | .contribution level samples => if present then contribute ch level samples s else s

/-- What the canceller puts in place of the echo that its non-linear processor suppresses: comfort noise, or nothing (09 R263). -/
def Channel.nlpNoise (ch : Channel) : Bool :=
  ch.nlpActive && (pb ch.program 37).testBit 2

end Sys2Proof.Machine
end

