-- ==== Sys2Proof/Machine/Frames.lean ====
section
/-!
DEFINITION. The receive path: the ordered checks of a frame (12 R364 to R367), PTP messages (13 R394 to R397), session lookup
(11 R325 to R329), latching (11 R331, R332), SRTP (09 R276, R277), RTCP (09 R278) and the way into the jitter buffer.
-/
namespace Sys2Proof.Machine

/-- The tags of a frame: outer and inner VID, and the offset of the EtherType after them (12 R366). -/
structure Tags where
  outer : Option Nat
  inner : Option Nat
  offset : Nat

/-- Row 8: the tags of a frame by a port's outer TPID, or none where they are invalid (12 R366). -/
def tagsOf (b : List Byte) (tpid : Nat) : Option Tags :=
  let first := be b 12 2
  if first = tpid then
    let outer := be b 14 2 % 4096
    let second := be b 16 2
    if outer = 4095 then none
    else if second = 0x8100 then
      let inner := be b 18 2 % 4096
      if inner = 4095 ∨ outer = 0 ∨ isTpid (be b 20 2) then none
      else some { outer := some outer, inner := some inner, offset := 20 }
    else some { outer := some outer, inner := none, offset := 16 }
  else if isTpid first then none
  else some { outer := none, inner := none, offset := 12 }

/-- The key form of a tag: PRESENT and VID, a priority tag absent (11 R325; 12 R366). -/
def tagKey (t : Option Nat) : Nat :=
  match t with
  | some v => if v = 0 then 0 else 4096 + v
  | none => 0

/-- The IP datagram of a frame: version, addresses in the form of Table 11-1, protocol, and where its payload lies. -/
structure IpHeader where
  v6 : Bool
  source : Nat
  dest : Nat
  proto : Nat
  offset : Nat
  length : Nat

/-- An IPv4 address in a 16-byte field (11 Table 11-1). -/
def ip4Field (a : Nat) : Nat := a * 2 ^ 96

/-- Row 10: the IP header at `o`, or none where it is invalid (12 R367). `b` is the frame less its FCS. -/
def ipHeader (b : List Byte) (o : Nat) (v6 : Bool) : Option IpHeader :=
  let room := b.length - o
  if v6 then
    let len := be b (o + 4) 2
    if room < 40 ∨ be b o 1 / 16 ≠ 6 ∨ room - 40 < len then none
    else some { v6 := true, source := be b (o + 8) 16, dest := be b (o + 24) 16, proto := be b (o + 6) 1,
                offset := o + 40, length := len }
  else
    let head := 4 * (be b o 1 % 16)
    let total := be b (o + 2) 2
    if room < 20 ∨ be b o 1 / 16 ≠ 4 ∨ head < 20 ∨ room < head ∨ total < head ∨ room < total
        ∨ be b (o + 6) 2 % 16384 ≠ 0 ∨ fold16 (sum16 ((b.drop o).take head)) ≠ 0xFFFF then none
    else some { v6 := false, source := ip4Field (be b (o + 12) 4), dest := ip4Field (be b (o + 16) 4),
                proto := be b (o + 9) 1, offset := o + head, length := total - head }

/-- Row 12: UDP length and checksum (12 R367). -/
def udpOk (b : List Byte) (h : IpHeader) : Bool :=
  let dgram := (b.drop h.offset).take h.length
  let pseudo := sum16 (natBytes 16 h.source).reverse + sum16 (natBytes 16 h.dest).reverse + 17 + h.length
  decide (8 ≤ h.length) && decide (be b (h.offset + 4) 2 = h.length)
    && ((be b (h.offset + 6) 2 == 0 && !h.v6) || (be b (h.offset + 6) 2 != 0 && fold16 (pseudo + sum16 dgram) == 0xFFFF))

/-- A frame as the path behind the checks knows it. -/
structure Datagram where
  key : SessionKey
  source : Nat
  sourcePort : Nat
  payload : List Byte

/-- The UDP datagram of a frame. -/
def datagramOf (b : List Byte) (t : Tags) (h : IpHeader) : Datagram :=
  { key := { outer := tagKey t.outer, inner := tagKey t.inner, ipv6 := h.v6, ip := h.dest, port := be b (h.offset + 2) 2 },
    source := h.source, sourcePort := be b h.offset 2, payload := ((b.drop h.offset).take h.length).drop 8 }

/-- An RTP packet (RFC 3550). -/
structure Rtp where
  marker : Bool
  pt : Nat
  seq : Nat
  ts : Nat
  ssrc : Nat
  header : Nat

/-- A payload that parses as RTP. -/
def rtpOf (p : List Byte) : Option Rtp :=
  let cc := be p 0 1 % 16
  let ext := (be p 0 1).testBit 4
  let base := 12 + 4 * cc
  let head := if ext then base + 4 + 4 * be p (base + 2) 2 else base
  if be p 0 1 / 64 ≠ 2 ∨ p.length < 12 ∨ p.length < head then none
  else some { marker := (be p 1 1).testBit 7, pt := be p 1 1 % 128, seq := be p 2 2, ts := be p 4 4, ssrc := be p 8 4,
              header := head }

/-- The second byte of an RTCP packet: 192 to 223 on a multiplexed port (RFC 5761). -/
def isRtcpType (v : Nat) : Bool := decide (192 ≤ v ∧ v ≤ 223)

/-- A payload that parses as RTCP. -/
def rtcpOk (p : List Byte) : Bool :=
  decide (be p 0 1 / 64 = 2) && decide (8 ≤ p.length) && isRtcpType (be p 1 1)

/-- A well-formed UDPTL datagram: sequence number, primary IFP packet, error recovery (T.38). -/
def udptlOk (p : List Byte) : Bool :=
  let n := if be p 2 1 < 128 then be p 2 1 else be p 2 2 % 16384
  let head := if be p 2 1 < 128 then 3 else 4
  decide (p.length ≤ 1400) && decide (head + n + 1 ≤ p.length) && decide (4 ≤ p.length)

/-- A packet index that RFC 3711 estimates from a sequence number and the highest index so far, or from the initial
rollover counter (09 R276, Table 9-8). -/
def srtpIndex (k : SrtpContext) (seq : Nat) : Nat :=
  let s := k.top % 65536
  let r := k.top / 65536
  if k.packets = 0 then k.roc.toNat * 65536 + seq
  else if s < 32768 then (if s + 32768 < seq then (r - 1) * 65536 + seq else r * 65536 + seq)
  else if seq + 32768 < s then (r + 1) * 65536 + seq else r * 65536 + seq

/-- The highest index of a window of 128 and the bits of those below it after an accepted one; `first` that there was none. -/
def windowAfter (first : Bool) (top : Nat) (window : BitVec 128) (index : Nat) : Nat × BitVec 128 :=
  if first then (index, 1)
  else if top < index then (index, (if 128 ≤ index - top then 0 else window <<< (index - top)) ||| 1)
  else (top, window ||| (1#128 <<< (top - index)))

/-- The index lies below the window, or has been seen (09 R276: 128 packets). -/
def windowHas (first : Bool) (top : Nat) (window : BitVec 128) (index : Nat) : Bool :=
  !first && decide (index ≤ top) && (decide (128 ≤ top - index) || window.getLsbD (top - index))

/-- The SRTCP index of a packet: 31 bits of the word before the authentication tag, or with GCM of the last one (RFC 3711, RFC
7714). -/
def srtcpIndex (k : SrtpContext) (p : List Byte) : Nat :=
  let tail := if k.suite = 1 then 14 else 4
  be p (p.length - tail) 4 % 2147483648

/-- A received packet as the SRTP unit sees it: its RTP sequence number, or an RTCP packet's bytes. -/
inductive SrtpInput where
  | rtp (seq : Nat)
  | rtcp (packet : List Byte)

/-- The packet is a replay under a context (09 R276). -/
def SrtpContext.replayed (k : SrtpContext) : SrtpInput → Bool
  | .rtp seq => windowHas (k.packets == 0) k.top k.window (srtpIndex k seq)
  | .rtcp p => windowHas (k.rtcpPackets == 0) k.rtcpTop k.rtcpWindow (srtcpIndex k p)

/-- A context after an accepted packet. -/
def SrtpContext.seen (k : SrtpContext) : SrtpInput → SrtpContext
  | .rtp seq =>
    let w := windowAfter (k.packets == 0) k.top k.window (srtpIndex k seq)
    { k with packets := k.packets + 1, top := w.1, window := w.2,
             roc := if k.packets ≠ 0 ∧ k.top < srtpIndex k seq then BitVec.ofNat 32 (w.1 / 65536) else k.roc }
  | .rtcp p =>
    let w := windowAfter (k.rtcpPackets == 0) k.rtcpTop k.rtcpWindow (srtcpIndex k p)
    { k with rtcpPackets := k.rtcpPackets + 1, rtcpTop := w.1, rtcpWindow := w.2 }

/-- The SRTP unit's verdict on a received packet (09 R276, R277, R292): the state, and for an accepted packet whether a context has
decrypted it (DESIGN CHOICE, log 68). -/
def authenticate (ch : Channel) (l : Leg) (f : RxFrame) (x : SrtpInput) (s : State) : State × Option Bool :=
  let leg := ch.legOf l
  let n := legNum l
  let drop (k : Nat) : State × Option Bool := (count (legCtr ch.id n k) s, none)
  let current (k : SrtpContext) : State × Option Bool :=
    if k.replayed x then drop 3 else (setLeg ch.id l (fun y => { y with rxSrtp := some (k.seen x) }) s, some true)
  let pending (q : SrtpContext) : State × Option Bool :=
    if f.authPending then (setLeg ch.id l (fun y => { y with rxSrtp := some (q.seen x), rxPending := none }) s, some true)
    else drop 2
  match leg.rxSrtp, leg.rxPending with
  | none, none => if flagProtected leg.flags then drop 11 else (s, some false)
  | none, some q => pending q
  | some k, none =>
    if k.expired then drop 12 else if f.authCurrent then current k else if k.replayed x then drop 3 else drop 2
  | some k, some q => if f.authCurrent && !k.expired then current k else pending q

/-- RFC 3550's statistics of a source after a packet: `arrival` in timestamp units. -/
def statsWith (old : Option RtpStats) (seq ts arrival : Nat) : RtpStats :=
  let transit : Int := (arrival : Int) - (ts : Int)
  match old with
  | none => { base := seq, top := seq, received := 1, transit := transit, jitter16 := 0 }
  | some r =>
    let ahead := (seq + 65536 - r.top % 65536) % 65536
    let d := (signed 32 ((transit - r.transit) % 4294967296).toNat).natAbs
    { base := r.base, top := if ahead < 32768 then r.top + ahead else r.top, received := r.received + 1,
      transit := transit, jitter16 := r.jitter16 + d - (r.jitter16 + 8) / 16 }

/-- The RTCP packets of a compound packet, at most `n`: type, count field and length in bytes. -/
def rtcpWalk : Nat → List Byte → List (Nat × List Byte)
  | 0, _ => []
  | n + 1, p =>
    if p.length < 4 then []
    else
      let len := 4 * (be p 2 2 + 1)
      (be p 1 1, p.take len) :: rtcpWalk n (p.drop len)

/-- The blocks of an XR packet, at most `n`: their types (RFC 3611). -/
def xrBlocks : Nat → List Byte → List Nat
  | 0, _ => []
  | n + 1, p => if p.length < 4 then [] else be p 0 1 :: xrBlocks n (p.drop (4 * (be p 2 2 + 1)))

/-- The report block about this leg among `n` blocks: the round trip that its LSR and DLSR give in µs (RFC 3550; 09 Table 9-7). -/
def reportRtt (localSsrc now : Nat) : Nat → List Byte → Option Nat
  | 0, _ => none
  | n + 1, p =>
    if p.length < 24 then none
    else if be p 0 4 = localSsrc ∧ be p 16 4 ≠ 0 then
      let d := (ntpMid (ntpOf now) + 8589934592 - be p 16 4 - be p 20 4) % 4294967296
      some (if d < 2147483648 then d * 1000000 / 65536 else 0)
    else reportRtt localSsrc now n (p.drop 24)

/-- A received RTCP packet (09 R278): what is used, and what is ignored and counted. -/
def rtcpPart (id : Nat) (l : Leg) (s : State) (p : Nat × List Byte) : State :=
  let n := legNum l
  let sender := p.1 = 200
  if p.1 = 207 then
    (xrBlocks 256 (p.2.drop 8)).foldl (fun st t => count (legCtr id n (if t = 7 then 8 else 13)) st) s
  else if p.1 = 200 ∨ p.1 = 201 then
    setLeg id l (fun x =>
      { x with lastSr := if sender then some (be p.2 10 4, s.now) else x.lastSr,
               rttUs := (reportRtt x.localSsrc.toNat s.now (be p.2 0 1 % 32) (p.2.drop (if sender then 28 else 8))).getD x.rttUs }) s
  else if p.1 = 202 ∨ p.1 = 203 then s
  else count (legCtr id n 13) s

/-- The running device tells the session's home of an accepted packet, once in a period: LAST_RX_PERIOD is the Teller's to write (01
R17; 11 Table 11-1). -/
def noteAccepted (ch : Channel) (l : Leg) (s : State) : State :=
  let leg := ch.legOf l
  if leg.notedPeriod = s.alw.period ∧ s.alw.period ≠ 0 then s
  else toTeller (handleNode leg.session.toNat) (.accepted leg.session s.alw.period)
    (setLeg ch.id l (fun x => { x with notedPeriod := s.alw.period }) s)

/-- A packet has been accepted: the first one latches the session here at once, and its home by request (11 R331, R332). -/
def acceptPacket (ch : Channel) (l : Leg) (d : Datagram) (s : State) : State :=
  let leg := ch.legOf l
  let h := leg.session.toNat
  let s1 := noteAccepted ch l (setLeg ch.id l (fun x => { x with lastAcceptedAt := s.now }) s)
  if leg.latched.isSome then s1
  else
    let ip := BitVec.ofNat 128 d.source
    let port := BitVec.ofNat 16 d.sourcePort
    toTeller (handleNode h) (.latch leg.session leg.epoch d.key.ipv6 ip port)
      (setLeg ch.id l (fun x => { x with latched := some (ip, port) }) s1)

/-- The mode request of an AMR or AMR-WB payload, where it makes one (RFC 4867; 09 R261). -/
def cmrOf (codec : Nat) (payload : List Byte) : Option Nat :=
  let v := be payload 0 1 / 16
  if !payload.isEmpty && ((codec = 6 ∧ v ≤ 7) ∨ (codec = 7 ∧ v ≤ 8)) then some v else none

/-- An accepted RTP packet of a known payload type: statistics, its RFC 4733 event, or the jitter buffer (09 R261, R271, Table 9-7;
11 R338). -/
def mediaIn (ch : Channel) (l : Leg) (r : Rtp) (payload : List Byte) (s : State) : State :=
  let leg := ch.legOf l
  let n := legNum l
  let codec := legCodec ch.program n
  let khz := codecClock codec
  let same := leg.remoteSsrc.toNat == r.ssrc
  let stats := statsWith (if same then leg.stats else none) r.seq r.ts (s.nowUs * khz / 1000)
  let voice := r.pt == legPt ch.program n
  let s1 := setLeg ch.id l (fun x =>
    { x with remoteSsrc := BitVec.ofNat 32 r.ssrc, stats := some stats,
             cmr := if voice then (cmrOf codec payload).or x.cmr else x.cmr }) (count (legCtr ch.id n 0) s)
  let s2 := if leg.localSsrc.toNat = r.ssrc then count (legCtr ch.id n 14) s1 else s1
  if !voice && r.pt == legTelPt ch.program n then telephoneIn ch.id l r.ts payload s2
  else match s2.channel ch.id with
    | some c => jbPacket c l { seq := r.seq, ts := r.ts, marker := r.marker, ssrc := BitVec.ofNat 32 r.ssrc,
                               bytes := payload.length, cn := !voice } s2
    | none => s2

/-- A payload type of a leg (11 R331). -/
def knownPt (p : BitVec 160) (n pt : Nat) : Bool :=
  pt == legPt p n || pt == legTelPt p n || pt == legCnPt p n

/-- An RTP packet at the leg that it is for (11 R331; 09 Table 9-7). -/
def rtpIn (ch : Channel) (l : Leg) (d : Datagram) (f : RxFrame) (s : State) : State :=
  let n := legNum l
  match rtpOf d.payload with
  | none => s
  | some r =>
    let known := knownPt ch.program n r.pt
    if !known && !flagProtected (ch.legOf l).flags then count (legCtr ch.id n 6) s
    else
      let a := authenticate ch l f (.rtp r.seq) s
      match a.2 with
      | none => a.1
      | some plain =>
        let s1 := acceptPacket ch l d a.1
        if known then mediaIn ch l r (if plain then f.plain else d.payload.drop r.header) s1
        else count (legCtr ch.id n 6) s1

/-- An RTCP packet at the leg that it is for. -/
def rtcpIn (ch : Channel) (l : Leg) (d : Datagram) (f : RxFrame) (s : State) : State :=
  if !rtcpOk d.payload then s
  else
    let a := authenticate ch l f (.rtcp d.payload) s
    match a.2 with
    | none => a.1
    | some plain =>
      let s1 := count (legCtr ch.id (legNum l) 7) (acceptPacket ch l d a.1)
      (rtcpWalk 64 (if plain then f.plain else d.payload)).foldl (rtcpPart ch.id l) s1

/-- A channel here waits for a frame boundary to take this session (09 R281). -/
def State.awaited (s : State) (h : Nat) : Bool :=
  s.voice.channels.any fun ch => ch.nextB.any fun c => c.handle.toNat == h

/-- A packet reaches the device that runs its leg (11 R331, R332, R356; 16 R496; 01 R31). -/
def runningIn (h : Nat) (alias_ forwarded : Bool) (d : Datagram) (f : RxFrame) (s : State) : State :=
  match s.boundLeg h with
  | none =>
    match s.cluster.movedLegs.find? fun m => m.1 == h with
    | some m =>
      if forwarded then count (devCtr 30) s
      else tySend m.2 (.media (.toRunning (BitVec.ofNat 32 h) true f)) f.bytes.length s
    | none => count (devCtr (if s.awaited h then 31 else 30)) s
  | some (ch, l) =>
    let leg := ch.legOf l
    let other := match leg.latched with
      | some a => decide (a.1.toNat ≠ d.source) || decide (a.2.toNat ≠ d.sourcePort)
      | none => false
    if ch.state = .suspended then count (devCtr 71) s
    else if other then count (legCtr ch.id (legNum l) 17) s
    else if latchPolicy leg.flags = 2 ∧ leg.latched.isNone then s
    else if flagUdptl leg.flags then
      if udptlOk d.payload then count (legCtr ch.id (legNum l) 0) (acceptPacket ch l d s) else s
    else if alias_ || (flagRtcpMux leg.flags && isRtcpType (be d.payload 1 1)) then rtcpIn ch l d f s
    else rtpIn ch l d f s

/-- The home's lookup of a frame (01 R19; 11 R326, R328, R329) (DEDUCED, log 54). -/
def homeLookup (d : Datagram) (f : RxFrame) (s : State) : State :=
  match s.sessionByKey d.key with
  | none => count (devCtr 30) s
  | some x =>
    let alias_ := x.key != d.key
    let s1 := cacheProbe x.key.hash (if alias_ then x.aliasIndex.getD x.index else x.index) s
    if !x.bound then count (devCtr 31) s1
    else match x.runNode with
      | some n =>
        if n = s1.node then runningIn (s1.handleOf x) alias_ false d f s1
        else tySend n (.media (.toRunning (BitVec.ofNat 32 (s1.handleOf x)) false f)) f.bytes.length s1
      | none => count (devCtr 31) s1

/-- A frame that has passed the checks goes to its home (01 R19, R30). -/
def lookupFrame (d : Datagram) (f : RxFrame) (s : State) : State :=
  let home := s.homeOf d.key.hash
  if home = s.node then homeLookup d f s else tySend home (.media (.toHome f)) f.bytes.length s

/-- A servo's measurement against a PTP master (13 R387): the offset, and how long it has been within ±100 ns, which is
what `lastEdge` holds here (PRESUMED, log 56). -/
def ptpServo (i : Nat) (s : State) : State :=
  let b := s.tb i
  let off := signed 32 (s.freeAt 12)
  let good := decide (off.natAbs ≤ 100)
  let since := if good then (b.lastEdge.orElse fun _ => some s.now) else none
  let held := match since with | some t => decide (t + 60000000000 ≤ s.now) | none => false
  let s1 := drawn (setTb i (fun b => { b.withRate s.now (s.servoRate 10) with offsetNs := off, lastEdge := since }) (tbSync i s))
  match b.state with
  | .free | .holdover => tbTo i .acquiring 1 s1
  | .acquiring => if held then tbTo i .locked 1 s1 else s1
  | .locked => if good then s1 else tbTo i .acquiring 2 s1
  | .off => s1

/-- A PTP message that R395 drops whatever its port: Pdelay, management, and signaling outside G.8275.2. -/
def ptpUnsupported (type profile : Nat) : Bool :=
  type == 2 || type == 3 || type == 10 || type == 13 || (type == 12 && profile != 2)

/-- Copies of a transparent PTP message for the other enabled ports of its time base here (13 R396). -/
def forwardHere (c : PtpCopy) (except : Nat) (s : State) : State :=
  let tb := c.tb.val
  let ports := (List.range 8).filter fun q =>
    q != except && (s.cfg.ptpPorts.getD q {}).enable && (s.cfg.ptpPorts.getD q {}).tb == tb
  { s with time := { s.time with waiting := s.time.waiting ++ ports.map fun q =>
      { port := q, tb := tb, isEvent := c.isEvent, transport := c.transport.val, offset := c.offset, frame := c.frame,
        ingressAt := s.now, ingressShadow := c.stamp, residence := c.residence, own := false } } }

/-- A PTP message leaves the path for the time-base unit (13 R394 to R396). `transport` as PTP_PORT_SET names them; `b` is the frame
less its FCS, and the message `m` lies at `offset`. -/
def ptpIn (p transport : Nat) (unicast : Bool) (m : List Byte) (offset : Nat) (b : List Byte) (s : State) : State :=
  let cfg := s.cfg.ptpPorts.getD p {}
  let tb := s.tbCfg cfg.tb
  let type := be m 0 1 % 16
  let version := be m 1 1
  if !cfg.enable || cfg.transport != transport || version % 16 != 2 || decide (1 < version / 16)
      || be m 4 1 != tb.domain || decide (m.length < 34) || ptpUnsupported type tb.profile
      || (tb.role == 2 && unicast) then
    count (ptpCtr p 2) s
  else
    let event := type == 0 || type == 1
    let s1 := count (ptpCtr p (if event then 0 else 1)) s
    if tb.role = 2 then
      let copy : PtpCopy :=
        { tb := Fin.ofNat 4 cfg.tb, domain := BitVec.ofNat 8 tb.domain, isEvent := event, transport := Fin.ofNat 3 transport,
          offset := offset, frame := b, residence := 0, stamp := s.rxStamp p cfg.tb }
      let s2 := forwardHere copy p s1
      s2.otherMembers.foldl (fun st n => tySend n (.ptp copy) (b.length + 4) st) s2
    else if type = 0 ∧ tb.source = 1 ∧ !tb.masterOnly ∧ s1.tbOn cfg.tb then ptpServo cfg.tb s1
    else s1

/-- The PTP addresses that an enabled PTP port adds to row 7 (13 R394, R409; the UDP groups of IEEE 1588)
(PRESUMED, log 56). -/
def ptpAddress (c : PtpPortCfg) (da : Nat) : Bool :=
  c.enable && (match c.transport with
    | 0 => da == 0x011B19000000 || da == 0x0180C200000E
    | 1 => da == 0x01005E000181
    | _ => da == 0x333300000181)

/-- The size and type counters of a frame received whole (12 R364, R371). -/
def countWhole (p : Nat) (b : List Byte) (s : State) : State :=
  let da := be b 0 6
  let type := if da = 0xFFFFFFFFFFFF then 4 else if da.testBit 40 then 3 else 2
  let s1 := count (portCtr p (5 + sizeBin b.length)) (count (portCtr p type) (count (portCtr p 1)
    (countBy (portCtr p 0) b.length s)))
  if isTpid (be b 12 2) then count (portCtr p 14) s1 else s1

/-- Rows 13 to 15 (12 Table 12-2): the mode, learning, the ingress pool and the session lookup. -/
def mediaPath (k : StationKey) (p : Nat) (d : Datagram) (f : RxFrame) (s : State) : State :=
  if s.mode.current ∉ serviceModes then count (portCtr p 29) s
  else
    let s1 := learn k p s
    if f.poolEmpty then count (devCtr 38) s1 else lookupFrame d f s1

/-- Rows 9 to 12 (12 Table 12-2), and where PTP leaves the path. `b` is the frame less its FCS. -/
def networkPath (p : Nat) (b : List Byte) (t : Tags) (f : RxFrame) (s : State) : State :=
  let da := be b 0 6
  let k : StationKey := { vid := BitVec.ofNat 12 (t.outer.getD 0), mac := BitVec.ofNat 48 (be b 6 6) }
  let type := be b t.offset 2
  let o := t.offset + 2
  if type = 0x88F7 then ptpIn p 0 (!da.testBit 40) (b.drop o) o b (learn k p s)
  else if type ≠ 0x0800 ∧ type ≠ 0x86DD then count (portCtr p 25) s
  else match ipHeader b o (type == 0x86DD) with
    | none => count (portCtr p 26) s
    | some h =>
      if h.proto ≠ 17 then count (portCtr p 27) s
      else if !udpOk b h then count (portCtr p 28) s
      else
        let d := datagramOf b t h
        if d.key.port = 319 ∨ d.key.port = 320 then
          ptpIn p (if h.v6 then 2 else 1) (!da.testBit 40) d.payload (h.offset + 8) b (learn k p s)
        else mediaPath k p d f s

/-- The first of rows 1 to 5 that a frame fails, as its counter (12 R364, Table 12-2; 02 R54). -/
def macFault (f : RxFrame) (maxFrame : Nat) : Option Nat :=
  let n := f.bytes.length
  if f.fifoFull then some 21
  else if f.codeError then some 20
  else if n < 64 then some 18
  else if maxFrame < n then some 19
  else if crc32 (f.bytes.take (n - 4)) ≠ bytesNat (f.bytes.drop (n - 4)) then some 17
  else none

/-- The receive checks in the order of Table 12-2 (12 R364 to R367, R379 to R381; 02 R54 to R56, R69): a poisoned frame is discarded
once, and counts as an ECC event beside what the MAC found; one that meets block 77 in reset is an overrun (DEDUCED, logs 45 and 54;
DESIGN CHOICE, log 68). -/
def receive (p : Nat) (f : RxFrame) (s : State) : State :=
  let cfg := s.portCfg p
  let fault := if s.blockInReset 77 then some 21 else macFault f cfg.maxFrame
  let words := packFrame fault.isSome f.poisoned f.bytes
  let b := wordBytes words
  let type := be b 12 2
  let s0 := countBy (devCtr 5) f.corrected (if f.poisoned then count (devCtr 6) s else s)
  match fault with
  | some k => count (portCtr p k) s0
  | none =>
    if words.any CoreWord.poison then countWhole p b s0
    else
      let s1 := countWhole p b s0
      if type = 0x8808 then
        count (portCtr p (if be b 14 2 = 1 then 15 else if be b 14 2 = 0x101 then 16 else 22)) s1
      else if be b 0 6 ≠ cfg.mac.toNat ∧ !ptpAddress (s.cfg.ptpPorts.getD p {}) (be b 0 6) then count (portCtr p 23) s1
      else match tagsOf b (if cfg.outer88a8 then 0x88A8 else 0x8100) with
        | none => count (portCtr p 24) s1
        | some t => networkPath p (b.take (b.length - 4)) t f s1

/-- PORT_FRAME_RECEIVED: a port that is UP receives, unless the TAP holds the pins (12 R362, R364; 18 R564)
(DESIGN CHOICE, log 68). -/
def execPortFrameReceived (port : Fin 8) (frame : RxFrame) (s : State) : Host.Outcome State Fault Refusal :=
  .next (if (s.port port.val).state = .up ∧ !s.testPort.pinsTaken then receive port.val frame s else s)

end Sys2Proof.Machine
end

