-- ==== Sys2Proof/Machine/Moves.lean ====
section
/-!
DEFINITION. Moves of channels between engines and devices (15 R473; 16 R492 to R497), suspension and resumption, restores
and the frames that they cost (08 R241, R243, R245).
-/
namespace Sys2Proof.Machine

/-- Higher priority: lower level, then lower slot (16 R493). -/
def placedBefore (a b : Channel) : Bool :=
  decide (a.level < b.level) || (decide (a.level = b.level) && decide (a.slot ≤ b.slot))

/-- A node counter of group 7 (15 Table 15-3). -/
def nodeCtr (n : Nat) : Ctr := tylaneCtr 4 n

/-- CHANNEL_MOVED (16 R509) (DEDUCED, log 34). -/
def raiseMoved (id node engine slot : Nat) (r : MoveRecord) (s : State) : State :=
  raise evChannelMoved [⟨16, 4, id⟩, ⟨20, 1, r.oldNode⟩, ⟨21, 1, r.oldEngine⟩, ⟨22, 1, node⟩, ⟨23, 1, engine⟩,
    ⟨24, 1, slot⟩, ⟨25, 1, r.framesLost⟩, ⟨26, 1, r.cause⟩] s

/-- A moved channel's first task on its new engine has ended or is concealed (16 R495): the node that it ran on posts the event, told by
the new one where that is another (DEDUCED, log 34). -/
def settleMove (id : Nat) (s : State) : State :=
  match s.channel id with
  | none => s
  | some ch =>
    match ch.move with
    | none => s
    | some r =>
      let s1 := setChannel id (fun x => { x with move := none }) s
      if r.oldNode = s.node then raiseMoved id s.node ch.engine ch.slot r s1
      else tell r.oldNode (.moved (BitVec.ofNat 32 id) ch.engine ch.slot r) s1

/-- A leg's frame is concealed: its packet is not played (09 R261, R269; Table 9-7) (DEDUCED, log 36). -/
def concealLeg (ch : Channel) (l : Leg) (frame : Nat) (s : State) : State :=
  if !hasBuffer ch l then s
  else
    let n := packetFrames ch.program (legNum l)
    let out := concealment ch.program (legNum l)
    let s1 := setLeg ch.id l (fun x => { x with output := out, jb := { x.jb with
      packets := x.jb.packets.filter fun p => decide (frame + 1 < p.playoutFrame + n) } }) s
    if out.conceals then count (legCtr ch.id (legNum l) 4) s1 else s1

/-- A frame is lost to a move that is under way. -/
def Channel.lostOne (x : Channel) : Channel :=
  { x with move := x.move.map fun r => { r with framesLost := r.framesLost + 1 },
           outMove := x.outMove.map fun m => { m with lost := m.lost + 1 } }

/-- A channel's frame is lost and concealed: both legs conceal it, and TASK_MISSED counts on the engine that it was lost
on, or on the engine that a moved channel has left (08 R245; 16 R495) (DEDUCED, logs 34 and 35). -/
def loseFrame (id frame engine : Nat) (s : State) : State :=
  match s.channel id with
  | none => count (engineCtr engine 3) s
  | some ch =>
    let s1 := concealLeg ch .b frame (concealLeg ch .a frame s)
    let ctr := match ch.move with
      | some r => if r.oldNode = s.node then engineCtr r.oldEngine 3 else nodeCtr 4
      | none => engineCtr engine 3
    settleMove id (setChannel id Channel.lostOne (count ctr s1))

/-- A task stands on an engine's ready list (08 R238). -/
def pushTask (engine : Nat) (t : Task) (s : State) : State :=
  setEngine engine (fun x => { x with ready := x.ready ++ [t] }) s

/-- A channel's frame task stands on its engine's list (08 R238). -/
def readyFrame (ch : Channel) (s : State) : State :=
  pushTask ch.engine { channel := ch.id, level := ch.level, kind := .frame, frame := s.alw.frame, upsets := 0, readyAt := s.now } s

/-- A transient task becomes ready, or is not run for want of a descriptor (08 R243). -/
def readyTransient (engine : Nat) (t : Task) (s : State) : State :=
  if s.board.transientFree = 0 then loseFrame t.channel t.frame engine (count (devCtr 24) s)
  else pushTask engine t (takeDescriptor s)

/-- The restore of a channel that has just arrived (08 R241; 16 R494). -/
def readyRestore (id engine frame : Nat) (s : State) : State :=
  readyTransient engine { channel := id, level := 0, kind := .restore, frame := frame, upsets := 0, readyAt := s.now } s

/-- The engine of this device that takes a channel which has lost its own; RESERVE_COINS is not withheld from it (16
R493) (DEDUCED, log 29). -/
def State.placement (s : State) (ch : Channel) : Option Nat :=
  let s' := { s with board := { s.board with reserveCoins := 0 } }
  argMax s.freeCoins ((List.range 64).filter fun e => s'.admits e ch.coins (some ch.id))

/-- A channel takes its place on another engine of this device; `restore` that its present frame is still to run, now, and else the
next one runs as its restore (16 R493, R494). -/
def placeHere (ch : Channel) (engine cause lost : Nat) (restore : Bool) (s : State) : State :=
  let slot := s.freeSlot engine
  let s1 := setChannel ch.id (fun x =>
    { x with engine := engine, slot := slot, state := .running, outMove := none,
             move := some { oldNode := s.node, oldEngine := ch.engine, cause := cause, framesLost := lost, restore := !restore } }) s
  loadChanged (if restore then readyRestore ch.id engine s.alw.frame s1 else s1)

/-- A channel that no member admits is suspended (16 R496, R497, R502). -/
def suspend (ch : Channel) (s : State) : State :=
  let s1 := setChannel ch.id (fun x => { x with state := .suspended, outMove := none, move := none }) (silenceLeg ch (dropTasks ch.id s))
  let s2 := logFault 5 0 ch.id 6 0 ch.id 0 (count (devCtr 70) s1)
  loadChanged (raise evChannelSuspended [⟨16, 4, ch.id⟩, ⟨20, 1, s.node⟩, ⟨21, 1, ch.engine⟩, ⟨22, 1, ch.level⟩,
    ⟨23, 2, ch.coins⟩] s2)

/-- The source copies the checkpoint, the contexts and the packets to the destination (15 R473 step 3). FIRST_FRAME is 0 where the
destination is to run the present frame when the move commits, since no engine runs the channel here; how many octets the copy takes
is a free value (DESIGN CHOICE, log 32). -/
def copyMove (ch : Channel) (m : OutMove) (s : State) : State :=
  let stands := (s.engine ch.engine).retired || ch.state == .suspended
  let copy := { s.sentChannel ch with firstFrame := bit (!stands) }
  drawn (tySend m.target (.steward (.moveCopy copy)) (s.freeAt 44 % 9217)
    (setChannel ch.id (fun x => { x with outMove := some { m with copied := true } }) s))

/-- A channel whose engine retires while it moves: the last accepted checkpoint is copied once the destination has admitted it, now or
then (15 R485). -/
def moveRetired (ch : Channel) (m : OutMove) (s : State) : State :=
  if m.admitted && !m.copied then copyMove ch m s else s

/-- A channel whose engine has retired is placed: on this device, on another member, or nowhere yet (16 R493); one under move goes on
with it (15 R485), and one that closes ends at the frame boundary (09 R282). The second component says whether it found a place. -/
def placeRetired (ch : Channel) (lost : Nat) (restore : Bool) (s : State) : State × Bool :=
  match ch.outMove, s.placement ch with
  | some m, _ => (moveRetired ch m s, true)
  | none, some e => (placeHere ch e 0 lost restore s, true)
  | none, none =>
    if ch.closing.isSome then (s, true)
    else if ch.conference.isSome then (s, false)
    else match s.peerFor ch with
      | some n => (startMove ch n 0 (lost + bit restore) none s, true)
      | none => (s, false)

/-- What a channel had on an engine that retires: a task lost there, and a frame still to run (16 R492, R494). -/
def taskLost (en : Engine) (id : Nat) : Bool :=
  (en.running.any fun t => t.channel == id) || (en.parked.any fun t => t.channel == id)

def frameWaiting (en : Engine) (id frame : Nat) : Bool :=
  (en.ready.any fun t => t.channel == id)
    || ((en.running.toList ++ en.parked.toList).any fun t => t.channel == id && decide (t.frame < frame))

/-- The channels of a retired engine in ascending priority order are placed; those that find no place are suspended, the
lowest priority first (16 R493, R497) (DEDUCED, log 33). -/
def placeAll (en : Engine) (chans : List Channel) (s : State) : State :=
  let step (acc : State × List Channel) (ch : Channel) : State × List Channel :=
    let r := placeRetired ch (bit (taskLost en ch.id)) (frameWaiting en ch.id s.alw.frame) acc.1
    if r.2 then (r.1, acc.2) else (r.1, ch :: acc.2)
  let placed := (sortBy placedBefore chans).foldl step (s, [])
  placed.2.foldl (fun st ch => suspend ch st) placed.1

/-- The retirement map's words for engines and lanes, from their shadows (16 Table 16-2). -/
def State.engineWord (s : State) (w : Nat) : Nat :=
  (List.range 32).foldl (fun n k => n + bit (s.engine (32 * w + k)).retired * 2 ^ k) 0

def State.laneWord (s : State) : Nat :=
  (List.range 32).foldl (fun n k => n + bit (s.laneRetired (8 + k)) * 2 ^ k) 0

def mapWord (w : Nat) : Nat := 1152 + w

/-- ENGINE_TESTs of an engine end with HW_FAULT when it retires (16 R514). -/
def endTests (engine failing : Nat) (s : State) : State :=
  (s.board.tests.filter fun j => j.engine == engine).foldl (fun st j =>
    let s1 := dropTest j st
    match s1.entry j.entry with
    | some e => finishJob e stHwFault [⟨8, 2, j.passed⟩, ⟨10, 2, failing⟩, ⟨12, 2, st.paceIndex engine⟩] s1
    | none => s1) s

/-- Every task that an engine holds is lost: those it ran or had parked, and the transient ones of its lists whose
channels stay elsewhere; descriptors are freed (16 R492; 08 R256). -/
def stripEngine (engine : Nat) (s : State) : State :=
  let en := s.engine engine
  let held := en.running.toList ++ en.parked.toList
  let transient := (en.ready ++ held).filter fun t => t.kind != .frame
  let strays := en.ready.filter fun t => (s.channel t.channel).any fun ch => ch.engine != engine
  let s1 := endSlice engine (setEngine engine (fun x => { x with ready := [], running := none, parked := none }) s)
  let s2 := transient.foldl (fun st _ => freeDescriptor st) s1
  (held ++ strays).foldl (fun st t => loseFrame t.channel t.frame engine st) s2

/-- An engine retires (16 R492, R493, R502, R509, R514) (DEDUCED, log 33). -/
def retireEngine (engine cause : Nat) (s : State) : State :=
  let en := s.engine engine
  let chans := s.channelsOn engine
  let s1 := stripEngine engine (setEngine engine (fun x => { x with retired := true }) s)
  let s2 := rhoperPut (mapWord (engine / 32)) (s1.engineWord (engine / 32)) (count (devCtr 65) s1)
  let s3 := logFault 3 0 engine cause (s.faults10 engine) 0 0 s2
  let s4 := raise evEngineRetired [⟨16, 1, engine⟩, ⟨17, 1, cause⟩, ⟨18, 2, chans.length⟩] s3
  placeAll en chans (endTests engine 0 s4)

/-- The suspended channels are tried again, highest priority first (16 R497): a placed one resumes from its checkpoint with
its jitter buffers reset (DEDUCED, log 62). -/
def retrySuspended (s : State) : State :=
  let clear (x : LegState) : LegState := { x with jb := { resync x.jb with packets := [], playedSeqs := [] } }
  (sortBy placedBefore (s.voice.channels.filter fun ch => ch.state = .suspended)).foldl (fun st ch =>
    let ch' := { ch with legA := clear ch.legA, legB := clear ch.legB }
    if ch.outMove.isSome then st
    else match st.placement ch with
    | some e =>
      logFault 6 0 ch.id 0 0 ch.id 0 (placeHere ch e 3 0 true (setChannel ch.id (fun _ => ch') st))
    | none =>
      if ch.conference.isSome then st
      else match st.peerFor ch with
        | some n => startMove ch' n 3 0 none st
        | none => st) s

/-- SUSPENDED_PLACEMENT_RETRY (16 R497). -/
def execSuspendedPlacementRetry (s : State) : Host.Outcome State Fault Refusal :=
  .next (if s.mode.current ∈ serviceModes then grantAll (retrySuspended s) else s)

/-- RETIRE of an engine completes once the moves of its channels have committed (16 R506): `aux` is 8 and the engine. -/
def settleRetires (s : State) : State :=
  (s.cmds.entries.filter fun e => e.op = .retire && e.phase = .executing).foldl (fun st e =>
    match e.aux with
    | [8, engine] =>
      if st.voice.channels.any (fun ch => ch.engine == engine && ch.outMove.isSome) then st else finish e stDone [] st
    | _ => st) s

/-- The command behind a move that does not come about completes, and with it a RETIRE that waited for the move. -/
def endMove (m : OutMove) (status : Byte) (s : State) : State :=
  settleRetires (match m.entry.bind s.entry with
    | some e => finishJob e status [] s
    | none => s)

/-- A move that does not come about: the channel stays; when its engine has retired it is placed here, or suspended (15 R473, R474,
R484; 16 R493). -/
def dropMove (ch : Channel) (m : OutMove) (status : Byte) (s : State) : State :=
  let s1 := endMove m status (setChannel ch.id (fun x => { x with outMove := none }) s)
  if (s.engine ch.engine).retired && ch.state != .suspended then
    match s1.placement ch with
    | some e => placeHere { ch with outMove := none } e 0 m.lost false s1
    | none => suspend ch s1
  else if m.cause = 2 then
    { s1 with cluster := { s1.cluster with drainRetry := s1.cluster.drainRetry ++ [(ch.id, s1.now)] } }
  else s1

/-- A move fails: no commit by boundary n + 2, or the destination is lost (15 R473, R484). -/
def failMove (ch : Channel) (m : OutMove) (s : State) : State :=
  let late := m.admitted && decide (m.lastFrame + 2 ≤ s.alw.frame)
  let s1 := count (nodeCtr 5) (tell m.target (.moveOff (BitVec.ofNat 32 ch.id)) s)
  let s2 := if late then
      concealLeg ch .b (m.lastFrame + 1) (concealLeg ch .a (m.lastFrame + 1) (count (nodeCtr 4) s1)) else s1
  dropMove ch m stHwFault s2

/-- The destination has admitted the channel (15 R473 steps 1 and 2): frame n is the first whose boundary follows; at a
retirement the last checkpoint stands in for it (16 R493). -/
def moveAdmitted (ch : Channel) (m : OutMove) (engine slot : Nat) (s : State) : State :=
  let stands := (s.engine ch.engine).retired || ch.state == .suspended
  let m' := { m with admitted := true, engine := engine, slot := slot,
                     lastFrame := if stands then s.alw.frame else s.alw.frame + 1 }
  let s1 := setChannel ch.id (fun x => { x with outMove := some m' }) s
  if stands then copyMove ch m' s1 else s1

/-- The checkpoint of frame n has been accepted: the copy starts (15 R473 step 3). -/
def copyIfDue (id : Nat) (s : State) : State :=
  match s.channel id with
  | none => s
  | some ch =>
    match ch.outMove with
    | some m => if m.admitted && !m.copied && decide (m.lastFrame ≤ ch.checkpointFrame) then copyMove ch m s else s
    | none => s

/-- A conference whose last leg has moved away is no longer here (15 R474). -/
def emptyConference (ch : Channel) (s : State) : State :=
  let done (c : Conference) : Bool := c.legs.isEmpty && some c.id == ch.conference.map (·.1)
  { s with voice := { s.voice with conferences := s.voice.conferences.filter fun c => !done c } }

/-- The move's commit point: RUN_NODE at the homes, the channel gone from here, later packets forwarded, and the command complete (15
R473 step 4; 01 R31). -/
def commitMove (ch : Channel) (m : OutMove) (s : State) : State :=
  let s1 := tell m.target (.moveCommit (BitVec.ofNat 32 ch.id) ch.engine m.lost) s
  let s2 := count (nodeCtr 2) (emptyConference ch (removeChannel ch s1))
  let gone := ch.bindings.map (·.1)
  let others := s2.cluster.movedLegs.filter fun x => x.1 ∉ gone
  let moved := (gone.filter fun h => h != 0).map fun h => (h, m.target)
  let s3 := { s2 with cluster := { s2.cluster with movedLegs := others ++ moved } }
  let reqs := ch.bindings.flatMap fun b => bindRequest b.1 ch.id b.2 m.target
  settleRetires (match m.entry.bind s3.entry with
    | some e => finishCommitted e (resultOf [⟨8, 1, m.target⟩, ⟨9, 1, m.engine⟩, ⟨10, 1, m.slot⟩, ⟨11, 1, m.lost⟩]) reqs s3
    | none => commitAll reqs s3)

/-- The destination has acknowledged the copy (15 R473 step 4). -/
def copyAcked (id : Nat) (s : State) : State :=
  match s.channel id with
  | some ch =>
    match ch.outMove with
    | some m => if m.admitted && m.copied then commitMove ch m s else s
    | none => s
  | none => s

/-- MIGRATION_COPY_ACK (15 R473 step 4). -/
def execMigrationCopyAck (channel : Word32) (s : State) : Host.Outcome State Fault Refusal :=
  .next (copyAcked channel.toNat s)

end Sys2Proof.Machine
end

