-- ==== Sys2Proof/Machine/Tylane.lean ====
section
/-!
DEFINITION. The Tylane links: acknowledgement and replay (15 R459, R460), routing (R462), bring-up, delay probes and
narrowing (R464 to R466, R488), the retirement of T-lanes (16 R500), media frames (01 R19 to R21) and PTP copies (13 R397).
-/
namespace Sys2Proof.Machine

/-- TYPE of a frame, and FLAGS[1] of a heartbeat (15 Table 15-1, R467). -/
def payloadType : TyPayload → Nat
  | .media _ => 1
  | .steward _ => 2
  | .ptp _ => 3
  | .reset _ => 6
  | .image _ _ => 7

def isHeartbeat : TyPayload → Bool
  | .steward (.heartbeat _ _ _ _ _ _) => true
  | _ => false

/-- The header of a frame as link `k` sends it, with what it owes the partner (15 Table 15-1, R459, R460). -/
def State.tyHeader (s : State) (k : Nat) (f : ReplayFrame) : List Byte :=
  natBytes 16 (layout 0
    [⟨0, 1, payloadType f.payload⟩, ⟨1, 1, 16 * f.dest + f.source⟩,
     ⟨2, 1, bit (s.tyLink k).nakOwed + 2 * bit (isHeartbeat f.payload)⟩, ⟨3, 1, f.hops⟩, ⟨4, 2, f.seq.toNat⟩,
     ⟨6, 2, (s.tyLink k).rxSeq.toNat⟩, ⟨8, 2, f.octets⟩, ⟨10, 6, f.residence⟩])

/-- The 8b/10b characters of a link (15 R458). -/
inductive TyChar where
  | data (b : Byte)
  | k27_7
  | k28_0
  | k28_5
  | k29_7
deriving DecidableEq, Repr

/-- A frame as the characters of whole tiles on `w` active lanes (15 R458): character `i` travels on active lane `i` mod `w`. -/
def tyFrame (w : Nat) (header payload : List Byte) : List TyChar :=
  let bytes := header ++ payload
  let body := .k27_7 :: (bytes ++ natBytes 4 (crc32c bytes)).map .data ++ [.k29_7]
  body ++ List.replicate ((w - body.length % w) % w) .k28_0

/-- The tile that a link sends as its `n`-th while it has no frame: the 4,096th of each run is for deskew (15 R458). -/
def tyIdleTile (w n : Nat) : List TyChar :=
  List.replicate w (if n % 4096 = 4095 then .k28_5 else .k28_0)

/-- Frames acknowledged up to `ack` leave the replay buffer (15 R459, R460): those whose SEQ lies before it
(DEDUCED, log 74). -/
def ackFrames (k : Nat) (ack : BitVec 16) (s : State) : State :=
  setLink k (fun l =>
    let left := l.replay.filter fun f => decide ((ack - f.seq - 1).toNat ≥ 32768)
    { l with replay := left, replayCount := if left.length < l.replay.length then 0 else l.replayCount }) s

/-- The retired half or the whole of a link is gone, or its replay came to nothing: the bring-up starts again and the replay
buffer is kept (15 R460). -/
def retrain (k : Nat) (s : State) : State :=
  setLink k (fun l => { l with replayCount := 0 }) (linkStart k 8 (count (tylaneCtr k 7) s))

/-- Every unacknowledged frame is sent again; the fourth replay without progress is the last (15 R460). -/
def replay (k : Nat) (s : State) : State :=
  if (s.tyLink k).replay.isEmpty then s
  else if 4 ≤ (s.tyLink k).replayCount then retrain k s
  else
    count (tylaneCtr k 6) (setLink k (fun l =>
      { l with replayCount := l.replayCount + 1, replay := l.replay.map s.sent }) s)

/-- What waits at a link goes out as far as its buffers have room (15 R460, R461). -/
def linkFlush (k : Nat) (s : State) : State :=
  linkDrain k (s.tyLink k).waiting s

/-- The acknowledgement part of an accepted frame, with the receive buffer that the partner advertises (15 R459 to R461): waiting
frames go out as far as it has room. -/
def ackPart (k : Nat) (h : TyHeader) (s : State) : State :=
  let s1 := ackFrames k h.ack (setLink k (fun l => { l with buffer := h.buffer }) s)
  linkFlush k (if h.nak then replay k s1 else s1)

/-- The link layer takes a received frame (15 R458 to R460), unless the TAP holds the pins (18 R564): the state, and
whether the frame is accepted. -/
def linkReceive (k : Nat) (h : TyHeader) (s : State) : State × Bool :=
  let l := s.tyLink k
  if l.state != .up || s.testPort.pinsTaken then (s, false)
  else if !h.crcOk then (setLink k (fun l => { l with nakOwed := true }) (count (tylaneCtr k 4) s), false)
  else if h.seq ≠ l.rxSeq then (setLink k (fun l => { l with nakOwed := true }) (count (tylaneCtr k 5) s), false)
  else
    let s1 := setLink k (fun l => { l with rxSeq := l.rxSeq + 1, ackOwed := true }) s
    (ackPart k h (countBy (tylaneCtr k 3) h.octets (count (tylaneCtr k 1) s1)), true)

/-- An accepted frame is for this node, or goes on toward its destination (15 R462). -/
def deliverHere (k : Nat) (h : TyHeader) (payload : TyPayload) (here : State → State) (s : State) : State :=
  let r := linkReceive k h s
  if !r.2 then r.1
  else if h.dest.val = s.node then here r.1
  else tyRoute { seq := 0, dest := h.dest.val, payload := payload, octets := h.octets, sentAt := s.now, source := h.source.val,
                 hops := h.hops + 1 } r.1

/-- TYLANE_ACK (15 R459, R460): TYPE 4 takes no SEQ (DEDUCED, logs 59 and 74). -/
def execTylaneAck (link : Fin 4) (h : TyHeader) (s : State) : Host.Outcome State Fault Refusal :=
  .next <|
    let k := link.val
    if (s.tyLink k).state ≠ .up ∨ s.testPort.pinsTaken then s
    else if !h.crcOk then setLink k (fun l => { l with nakOwed := true }) (count (tylaneCtr k 4) s)
    else ackPart k h s

/-- TYLANE_REPLAY_TIMEOUT (15 R460). -/
def execTylaneReplayTimeout (link : Fin 4) (s : State) : Host.Outcome State Fault Refusal :=
  .next <|
    let k := link.val
    match (s.tyLink k).replay with
    | [] => s
    | f :: _ => if (s.tyLink k).state = .up then replay k (advance (f.sentAt + 10000) s) else s

/-- NODE_LINK as the partner of link `k` sends it: its node in [7:4], the link index in [1:0] (14 R430). -/
def State.partnerWord (s : State) (k : Nat) : Byte :=
  BitVec.ofNat 8 ((s.node ^^^ 2 ^ k) * 16 + k)

/-- A wrong partner: the link stays down and tries again (15 R464). -/
def wiringError (k : Nat) (s : State) : State :=
  count (tylaneCtr k 9) (setLink k (fun l =>
    { l with state := .wiring, width := 0, half := 0xFF, trainingSince := s.now }) s)

/-- The link takes its width and begins its delay probes (15 R464, R465). -/
def linkWidth (k width half : Nat) (s : State) : State :=
  setLink k (fun l => { l with width := width, half := half, probes := 0, probeMin := 0 }) s

/-- TYLANE_LINK_BRINGUP: all eight lanes are READY (15 R464). -/
def execTylaneLinkBringup (link : Fin 4) (nodeLink : Byte) (s : State) : Host.Outcome State Fault Refusal :=
  .next <|
    let k := link.val
    let l := s.tyLink k
    if l.state ≠ .training ∨ l.width ≠ 0 ∨ !(s.halfReady k 0 && s.halfReady k 1) then s
    else if nodeLink ≠ s.partnerWord k then wiringError k s
    else linkWidth k 8 0xFF s

/-- LINK_HALF_TIMEOUT: one half alone is READY 100 ms on (15 R464). -/
def execLinkHalfTimeout (link : Fin 4) (nodeLink : Byte) (s : State) : Host.Outcome State Fault Refusal :=
  .next <|
    let k := link.val
    let l := s.tyLink k
    let low := s.halfReady k 0
    if l.state ≠ .training ∨ l.width ≠ 0 ∨ low = s.halfReady k 1 then s
    else
      let s1 := advance (l.trainingSince + 100000000) s
      if nodeLink ≠ s.partnerWord k then wiringError k s1
      else linkWidth k 4 (if low then 0 else 1) s1

/-- WIRING_RETRY (15 R464). -/
def execWiringRetry (link : Fin 4) (s : State) : Host.Outcome State Fault Refusal :=
  .next <|
    let k := link.val
    let l := s.tyLink k
    if l.state = .wiring then linkStart k 8 (advance (l.trainingSince + 100000000) s) else s

/-- A Tylane boot asks for its image over the first link that comes up (15 R475). -/
def bootRequest (k : Nat) (s : State) : State :=
  if s.mode.current = .loader ∧ s.boot.straps.bootSrc = 1 ∧ !s.cluster.bootRequested then
    tell (s.node ^^^ 2 ^ k) (.bootRequest s.asNode) { s with cluster := { s.cluster with bootRequested := true } }
  else s

/-- A link carries traffic again: what was not acknowledged is sent again, and what waits follows. The receive buffer that the partner
has after the bring-up is a free value until its first acknowledgement (15 R460, R461) (DESIGN CHOICE, log 102). -/
def linkUp (k delay : Nat) (s : State) : State :=
  let s1 := setLink k (fun l =>
    { l with state := .up, probes := 16, probeMin := delay, delayPs := delay, buffer := s.freeAt 137,
             replay := l.replay.map s.sent }) s
  bootRequest k (linkFlush k (drawn s1))

/-- TYLANE_DELAY_PROBE: the sixteenth probe sets the link delay (15 R465). Times are in ps. -/
def execTylaneDelayProbe (link : Fin 4) (t1 t2 t3 t4 : Nat) (s : State) : Host.Outcome State Fault Refusal :=
  .next <|
    let k := link.val
    let l := s.tyLink k
    if l.state ≠ .training ∨ l.width = 0 then s
    else
      let d := ((t4 - t1) - (t3 - t2)) / 2
      let best := if l.probes = 0 then d else min d l.probeMin
      if l.probes + 1 < 16 then setLink k (fun l => { l with probes := l.probes + 1, probeMin := best }) s
      else linkUp k best s

/-- LINK_NARROWED (15 R481). -/
def raiseNarrowed (k width half lane : Nat) (s : State) : State :=
  raise evLinkNarrowed [⟨16, 1, k⟩, ⟨17, 1, width⟩, ⟨18, 1, half⟩, ⟨19, 1, lane⟩, ⟨20, 1, s.node ^^^ 2 ^ k⟩] s

/-- A link gives up a retired lane: an UP link of width 8 narrows to the half without it, a link with a retired lane in both
halves goes down, and one in bring-up starts it anew (15 R466). -/
def narrowLink (k lane : Nat) (s : State) : State :=
  let l := s.tyLink k
  if l.state = .disabled then s
  else if !s.halfWhole k 0 && !s.halfWhole k 1 then
    raiseNarrowed k 0 0xFF lane
      (setLink k (fun l => { l with state := .down, width := 0, half := 0xFF }) s)
  else if l.state = .up ∧ l.width = 8 then
    let half := if s.halfWhole k 0 then 0 else 1
    raiseNarrowed k 4 half lane (count (tylaneCtr k 8)
      (setLink k (fun l => { l with state := .training, width := 4, half := half, probes := 0, probeMin := 0 }) s))
  else if l.width = 8 ∨ (l.half ≠ 0xFF ∧ !s.halfWhole k l.half) then linkStart k 8 s
  else s

/-- UNIT_RETIRED and UNIT_REINSTATED (16 R509). -/
def raiseUnitRetired (unitType cause index repaired : Nat) (s : State) : State :=
  raise evUnitRetired [⟨16, 1, unitType⟩, ⟨17, 1, cause⟩, ⟨18, 4, index⟩, ⟨22, 1, repaired⟩] s

def raiseReinstated (unitType index : Nat) (s : State) : State :=
  raise evUnitReinstated [⟨16, 1, unitType⟩, ⟨18, 4, index⟩] s

/-- A T-lane retires: it is recorded, goes OFF and leaves its link; the partner is asked to narrow with it (15 R466, R488;
16 R500 to R502, R509). -/
def retireLane (lane cause : Nat) (ask : Bool) (s : State) : State :=
  let k := linkOfLane lane
  let s1 := laneOff lane 8 (setLane lane (fun x => { x with retired := true, errorSeconds := [] }) s)
  let s2 := rhoperPut (mapWord 2) s1.laneWord (count (devCtr 69) s1)
  let s3 := raiseUnitRetired 1 cause lane 0 (logFault 3 1 lane cause 0 0 0 s2)
  let s4 := if ask && (s.tyLink k).state == .up then
      tell (s.node ^^^ 2 ^ k) (.narrow (Fin.ofNat 4 k) (Fin.ofNat 32 (lane - 8))) s3 else s3
  narrowLink k lane s4

/-- A permanent fault of a T-lane (16 R489). -/
def laneFault (lane cause : Nat) (s : State) : State :=
  if s.laneRetired lane then s else retireLane lane cause true (logFault 2 1 lane cause 0 0 0 s)

/-- The partner's narrowing request (15 R488). -/
def narrowRequest (k lane : Nat) (s : State) : State :=
  if linkOfLane lane ≠ k ∨ s.laneRetired lane then s else retireLane lane 7 false s

/-- LANE_ERROR_WINDOW: each second the errors of the last 10 s are summed; above 125 the lane has a permanent fault (14 R433,
16 Table 16-1). -/
def execLaneErrorWindow (lane : Fin 32) (s : State) : Host.Outcome State Fault Refusal :=
  .next <|
    let l := tLane lane.val
    if !s.rhoper || s.laneRetired l then s
    else
      let total := s.counter (laneCtr l 2) + s.counter (laneCtr l 3)
      let x := s.lane l
      let window := ((total - x.errorMark) :: x.errorSeconds).take 10
      let s0 := advance (x.windowAt + 1000000000) s
      let s1 := setLane l (fun x => { x with errorSeconds := window, errorMark := total, windowAt := s0.now }) s0
      if 125 < window.foldl (· + ·) 0 then laneFault l 7 s1 else s1

/-- A received frame that has crossed Tylane to its home, read again (12 R366, R367; 11 R325). -/
def homeFrame (f : RxFrame) (s : State) : State :=
  let b := f.bytes.take (f.bytes.length - 4)
  match tagsOf b (if be b 12 2 = 0x88A8 then 0x88A8 else 0x8100) with
  | none => s
  | some t =>
    match ipHeader b (t.offset + 2) (be b t.offset 2 == 0x86DD) with
    | none => s
    | some h => homeLookup (datagramOf b t h) f s

/-- The same at the device that runs its leg. -/
def runningFrame (handle : Nat) (forwarded : Bool) (f : RxFrame) (s : State) : State :=
  let b := f.bytes.take (f.bytes.length - 4)
  match tagsOf b (if be b 12 2 = 0x88A8 then 0x88A8 else 0x8100) with
  | none => s
  | some t =>
    match ipHeader b (t.offset + 2) (be b t.offset 2 == 0x86DD) with
    | none => s
    | some h =>
      let d := datagramOf b t h
      let leg := (s.boundLeg handle).map fun p => p.1.legOf p.2
      let mux := leg.any fun x => flagRtcpMux x.flags || flagUdptl x.flags
      runningIn handle (!mux && d.key.port % 2 == 1) forwarded d f s

/-- What a media frame is to this device (01 R19, R21). -/
def mediaFrame (m : TyMedia) (s : State) : State :=
  match m with
  | .toHome f => homeFrame f s
  | .toRunning handle forwarded f => runningFrame handle.toNat forwarded f s
  | .toEgress port queue channel launch bytes tagged payload =>
    enqueue port.val queue.val
      { launch := launch, channel := channel.toNat, frameBytes := max 64 bytes, order := 0, late := false, rtp := none,
        tagged := tagged, payload := payload } s

/-- TYLANE_MEDIA_FRAME (01 R19 to R21; 05 R138). -/
def execTylaneMediaFrame (link : Fin 4) (h : TyHeader) (m : TyMedia) (s : State) : Host.Outcome State Fault Refusal :=
  .next (deliverHere link.val h (.media m) (fun s => if s.running then mediaFrame m s else s) s)

/-- A PTP copy as it comes here: this hop's link delay joins what the header has carried (13 R397). -/
def State.arrived (s : State) (link : Nat) (h : TyHeader) (copy : PtpCopy) : PtpCopy :=
  { copy with residence := h.residence + (s.tyLink link).delayPs * 65536 / 1000, stamp := s.tbShadow copy.tb.val }

/-- TYLANE_PTP_COPY: the copy goes to the enabled ports of its time base and domain, or on toward its destination (13 R396,
R397). -/
def execTylanePtpCopy (link : Fin 4) (h : TyHeader) (copy : PtpCopy) (s : State) : Host.Outcome State Fault Refusal :=
  .next <|
    let copy := s.arrived link.val h copy
    deliverHere link.val h (.ptp copy) (fun s =>
      let tb := s.tbCfg copy.tb.val
      if tb.enable && tb.role == 2 && decide (tb.domain = copy.domain.toNat) then forwardHere copy 8 s else s) s

end Sys2Proof.Machine
end

