-- ==== Sys2Proof/Machine/Cluster.lean ====
section
/-!
DEFINITION. Membership, the coordinator's views and the home map (15 R467 to R471, R481), the cluster commands (R477 to
R480), moves out of a draining device (R474) and the destination's side of a move (R473).
-/
namespace Sys2Proof.Machine

/-- A member that has joined: SIZE above 1, Rhoper running (15 R457, R467). -/
def State.joined (s : State) : Bool :=
  decide (1 < s.cfg.clusterSize) && s.running

/-- This node hears another (15 R467). -/
def State.hears (s : State) (n : Nat) : Bool :=
  n != s.node && (s.cluster.peers.getD n {}).heardAt.isSome

/-- A node that hears no lower-numbered node is coordinator (15 R468). -/
def State.isKing (s : State) : Bool :=
  s.joined && (List.range s.node).all fun m => !s.hears m

/-- The nodes that this node hears, with itself. -/
def State.heardMask (s : State) : BitVec 16 :=
  BitVec.ofNat 16 ((List.range 16).foldl (fun n m => n + bit (m == s.node || s.hears m) * 2 ^ m) 0)

def memberCount (m : BitVec 16) : Nat := (setBits 16 m.toNat).length

def lowestMember (m : BitVec 16) : Nat := (setBits 16 m.toNat).headD 16

/-- A member mask is enough for a view in force (15 R468). -/
def State.enough (s : State) (m : BitVec 16) : Bool :=
  decide (s.cfg.clusterSize < 2 * memberCount m)
    || (decide (s.cfg.clusterSize = 2 * memberCount m) && s.cluster.hadView && m.getLsbD s.cluster.previousLowest)

/-- The member that holds the fewest groups, the lowest node on a tie (15 R471). -/
def fewest (map : List Nat) (members : List Nat) : Nat :=
  let held (n : Nat) : Nat := (map.filter fun x => x == n).length
  (members.foldl (fun (acc : Option Nat) n =>
    match acc with
    | none => some n
    | some a => if held n < held a then some n else some a) none).getD 0

/-- The groups of nodes that are not members go out one by one, in ascending order (15 R471). -/
def reassign (members : List Nat) : Nat → List Nat → List Nat
  | 0, map => map
  | g + 1, map =>
    let map' := reassign members g map
    if map'.getD g 16 ∈ members then map' else map'.set g (fewest map' members)

/-- The home map of a view that forms first (15 R471). -/
def firstMap (size : Nat) (members : List Nat) : List Nat :=
  reassign members 256 ((List.range 256).map fun g => if g % size ∈ members then g % size else 16)

/-- The home map after the change from one member mask to another. -/
def State.nextMap (s : State) (m : BitVec 16) : List Nat :=
  let members := setBits 16 m.toNat
  match s.cluster.view with
  | some v => reassign members 256 v.homeMap
  | none => firstMap s.cfg.clusterSize members

/-- MEMBER_CHANGED (15 R481) (DEDUCED, log 36). -/
def raiseMember (epoch : Nat) (members : BitVec 16) (node change lost groups : Nat) (s : State) : State :=
  raise evMemberChanged [⟨16, 4, epoch⟩, ⟨20, 2, members.toNat⟩, ⟨22, 1, node⟩, ⟨23, 1, change⟩, ⟨24, 2, lost⟩,
    ⟨26, 2, groups⟩] s

/-- KING_CHANGED (15 R481) (DEDUCED, log 36). -/
def raiseKing (epoch king previous : Nat) (s : State) : State :=
  raise evKingChanged [⟨16, 4, epoch⟩, ⟨20, 1, king⟩, ⟨21, 1, previous⟩] s

/-- Every session entry of this home is freed, its handle's generation advanced (15 R469; 11 R345). -/
def clearSessions (s : State) : State :=
  s.tables.sessions.foldl (fun st x => freeSession (st.handleOf x) x st) s

/-- This node finds itself outside every view in force (15 R469). -/
def outsideView (s : State) : State :=
  match s.cluster.view with
  | none => s
  | some v =>
    let n := s.voice.channels.length
    let s1 := s.voice.channels.foldl (fun st ch => removeChannel ch st) s
    let s2 := count (nodeCtr 1) (clearSessions s1)
    raiseMember v.epoch v.members s.node 2 n 0 { s2 with cluster := { s2.cluster with view := none } }

/-- A lost node's channels end: the homes release their sessions' bindings, and what this node knows of the entries whose
home has gone is lost with it (15 R469, R471). -/
def nodeLost (old : List Nat) (n : Nat) (s : State) : State :=
  let t := s.tables
  let sessions := t.sessions.map fun x => if x.runNode = some n then { x with runNode := none, leg := none, channel := 0 } else x
  let gone (k : StationKey) : Bool := old.getD (stationHash k / 16777216 % 256) 16 == n
  { s with tables := { t with sessions := sessions, stations := t.stations.filter fun x => !gone x.key } }

/-- A view comes into force here: what changed is reported, and the lost nodes' work ends (15 R468, R469, R471, R481). The
number of channels that a lost node ran is a free value (DEDUCED, log 36). -/
def installView (v : ClusterView) (s : State) : State :=
  let oldMembers := match s.cluster.view with | some o => o.members | none => 0
  let oldMap := match s.cluster.view with | some o => o.homeMap | none => []
  let oldKing := match s.cluster.view with | some o => o.king | none => 0xFF
  let joined := setBits 16 (v.members &&& ~~~oldMembers).toNat
  let lost := setBits 16 (oldMembers &&& ~~~v.members).toNat
  let s1 := { s with cluster := { s.cluster with
    view := some v, hadView := true, previousLowest := lowestMember v.members, epochSeen := max v.epoch s.cluster.epochSeen } }
  let s2 := joined.foldl (fun st n => raiseMember v.epoch v.members n 0 0 0 st) s1
  let s3 := lost.foldl (fun st n =>
    drawn (raiseMember v.epoch v.members n 1 (st.freeAt 45) (oldMap.filter fun x => x == n).length (nodeLost oldMap n st))) s2
  if oldKing = v.king then s3 else raiseKing v.epoch v.king oldKing s3

/-- A view goes to every node that is heard (15 R468). -/
def publish (v : ClusterView) (s : State) : State :=
  (setBits 16 s.heardMask.toNat).foldl (fun st n =>
    if n = st.node then st else tell n (.view (Fin.ofNat 16 v.king) v.epoch v.members v.homeMap) st) s

/-- The view in force goes out (15 R468). -/
def sendView (s : State) : State :=
  match s.cluster.view with
  | none => s
  | some v => publish v s

/-- This node has no view while a member that it hears tells of one (15 R467, R471). -/
def State.viewElsewhere (s : State) : Bool :=
  s.cluster.view.isNone && (List.range 16).any fun n => s.hears n && (s.cluster.peers.getD n {}).epoch != 0

/-- A coordinator that joins a cluster with a view goes on with the home map of that view (15 R468, R471) (DESIGN CHOICE, log 110). -/
def takeOver (v : ClusterView) (s : State) : State :=
  let m := s.heardMask
  let s1 := { s with cluster := { s.cluster with
    hadView := true, previousLowest := lowestMember v.members, epochSeen := max v.epoch s.cluster.epochSeen } }
  if s1.enough m then
    sendView (installView { epoch := s1.cluster.epochSeen + 1, king := s.node, members := m,
                            homeMap := reassign (setBits 16 m.toNat) 256 v.homeMap } s1)
  else s

/-- The coordinator brings its view up to date: EPOCH rises by one on each change, and a view of too few members is published and is
not in force (15 R468). One without a view waits for the home map
of a view that others have (DESIGN CHOICE, log 110). -/
def kingUpdate (s : State) : State :=
  if !s.isKing || s.viewElsewhere then s
  else
    let m := s.heardMask
    let same := match s.cluster.view with | some v => v.members == m && v.king == s.node | none => false
    if same then s
    else
      let v : ClusterView := { epoch := s.cluster.epochSeen + 1, king := s.node, members := m, homeMap := s.nextMap m }
      if s.enough m then sendView (installView v s) else publish v (outsideView s)

/-- VIEW_PUBLISH (15 R468). A member whose view has lost its coordinator to a new one sends that view on until it has adopted another
(DESIGN CHOICE, log 110). -/
def execViewPublish (s : State) : Host.Outcome State Fault Refusal :=
  .next <|
    if s.isKing then sendView (kingUpdate s)
    else if s.joined ∧ (s.cluster.view.any fun v => !s.hears v.king) then sendView s
    else s

/-- This node's heartbeat (15 R467), with its free coins (DESIGN CHOICE, log 96). -/
def State.ownHeartbeat (s : State) : StewardMessage :=
  .heartbeat s.asNode s.cfg.clusterSize s.mode.current.code true ((s.cluster.view.map (·.epoch)).getD 0) s.deviceFree

/-- HEARTBEAT_SEND (15 R467). -/
def execHeartbeatSend (s : State) : Host.Outcome State Fault Refusal :=
  .next <|
    if s.joined then
      (List.range s.cfg.clusterSize).foldl (fun st n => if n = st.node then st else tell n s.ownHeartbeat st) s
    else s

def setPeer (n : Nat) (f : Peer → Peer) (s : State) : State :=
  { s with cluster := { s.cluster with peers := upd s.cluster.peers n f } }

/-- A heartbeat arrives (15 R467): one that names another SIZE or another Rhoper version is never heard. -/
def heartbeat (n size mode : Nat) (sameVersion : Bool) (epoch : Nat) (freeCoins : Int) (s : State) : State :=
  if !s.joined then s
  else if size ≠ s.cfg.clusterSize ∨ !sameVersion then count (nodeCtr 0) s
  else
    let s1 := setPeer n (fun _ => { heardAt := some s.now, mode := mode, size := size, freeCoins := freeCoins, epoch := epoch })
      { s with cluster := { s.cluster with epochSeen := max epoch s.cluster.epochSeen } }
    if s.hears n then s1 else kingUpdate s1

/-- A channel whose move ends with the node that it goes to or comes from (15 R473, R484). -/
def moveLost (n : Nat) (s : State) (ch : Channel) : State :=
  match ch.outMove with
  | some m => if m.target = n then failMove ch m s else s
  | none => if ch.state = .moving ∧ (ch.move.any fun r => r.oldNode == n) then removeChannel ch s else s

/-- A node is not heard for 5 ms (15 R467, R469): moves with it fail (R484), and a coordinator's view changes. -/
def unheard (n : Nat) (s : State) : State :=
  let s1 := setPeer n (fun _ => {}) { s with cluster := { s.cluster with
    arrivals := s.cluster.arrivals.filter fun a => a.node != n } }
  kingUpdate (s1.voice.channels.foldl (moveLost n) s1)

/-- NODE_UNHEARD (15 R467, R469). -/
def execNodeUnheard (node : Fin 16) (s : State) : Host.Outcome State Fault Refusal :=
  .next <|
    match (s.cluster.peers.getD node.val {}).heardAt with
    | some t => if s.joined then unheard node.val (advance (t + 5000000) s) else s
    | none => s

/-- A published view arrives: every member follows the lowest-numbered coordinator that it hears (15 R468, R469, R486); a
coordinator without a view takes its home map. -/
def viewIn (v : ClusterView) (s : State) : State :=
  let newer := match s.cluster.view with
    | some o => decide (v.king < o.king) || !s.hears o.king || (v.king == o.king && decide (o.epoch < v.epoch))
    | none => true
  if s.isKing && s.viewElsewhere then takeOver v s
  else if !s.joined || s.isKing || !s.hears v.king || !newer then s
  else if !s.enough v.members || !(v.members.getLsbD s.node) then outsideView s
  else installView v s

/-- A cluster of one knows nobody and follows nobody (15 R457). -/
def alone (s : State) : State :=
  { s with cluster := { s.cluster with view := none, hadView := false, peers := List.replicate 16 {} } }

/-- SIZE takes a value; the links follow (15 R456, R457). -/
def setSize (size : Nat) (s : State) : State :=
  linksApply 0 (alone { s with cfg := { s.cfg with clusterSize := size } })

/-- CLUSTER_JOIN (15 R477). -/
def clusterJoinBegin (e : Entry) (s : State) : State :=
  let c := e.cmd
  let size := prmByte c 16
  checked e [.standby, .diagnostic]
    [need 16 (size == 1 || size == 2 || size == 4 || size == 8 || size == 16), reservedBytes c 17 64]
    (fun s =>
      if size ≤ s.node ∨ !s.tables.sessions.isEmpty then finish e stDenied [] s
      else if size = s.cfg.clusterSize then finish e stDone [] s
      else finish e stDone [] (setSize size s)) s

def clusterObject (_ : Cmd) : List Obj := [.cluster]

def execClusterJoin (src : Source) (c : Cmd) (s : State) : Host.Outcome State Fault Refusal :=
  .next (takeCommand .clusterJoin src c (clusterObject c) clusterJoinBegin s)

/-- The form of CLUSTER_LEAVE in which the device leaves by itself (15 R478). -/
def leavesSelf (c : Cmd) : Bool := prmByte c 16 == 0xFF && prmByte c 17 == 0

/-- CLUSTER_LEAVE (15 R476, R478, R481). -/
def clusterLeaveBegin (e : Entry) (s : State) : State :=
  let c := e.cmd
  let n := prmByte c 16
  let r := prmByte c 17
  checked e (if leavesSelf c then [.standby, .diagnostic] else runModes)
    [need 16 (n == 0xFF || (decide (n ≤ 15) && n != s.node)), within c 17 1 0 2, reservedBytes c 18 64,
     need 17 ((n == 0xFF) == (r == 0))]
    (fun s =>
      if n = 0xFF then
        if !s.tables.sessions.isEmpty then finish e stDenied [] s
        else
          let s1 := match s.cluster.view with
            | some v => raiseMember v.epoch v.members s.node 3 0 0 s
            | none => s
          finish e stDone [] (setSize 1 s1)
      else if (s.route n).isNone then finish e stNotFound [] s
      else
        let s1 := tySend n (.reset (r == 1)) 1 s
        { s1 with cluster := { s1.cluster with leaveWait := some (e.id, n, s1.now) } }) s

def execClusterLeave (src : Source) (c : Cmd) (s : State) : Host.Outcome State Fault Refusal :=
  .next (takeCommand .clusterLeave src c (clusterObject c) clusterLeaveBegin s)

/-- CLUSTER_LEAVE_RESET_WAIT: 10 ms after the request was sent (15 R478). -/
def execClusterLeaveResetWait (s : State) : Host.Outcome State Fault Refusal :=
  .next <|
    match s.cluster.leaveWait with
    | none => s
    | some (id, n, t) =>
      let s1 := advance (t + 10000000) { s with cluster := { s.cluster with leaveWait := none } }
      let left := match s1.cluster.view with | some v => !(v.members.getLsbD n) | none => true
      match s1.entry id with
      | some e => finish e stDone [⟨8, 1, bit left⟩] s1
      | none => s1

/-- LINKS.STATE (15 Table 15-2). -/
def TyLinkCode.code : TyLinkCode → Nat
  | .disabled => 0
  | .down => 1
  | .training => 2
  | .up => 3
  | .wiring => 4

/-- The cluster status (15 Table 15-2). A cluster of one is its own coordinator and the home of every key (R457); a coordinator is one
also while its view is not in force (R468). -/
def clusterBytes (s : State) : List Byte :=
  let one := decide (s.cfg.clusterSize ≤ 1)
  let v := s.cluster.view
  let groups (n : Nat) : Nat := match v with
    | some v => (v.homeMap.filter fun x => x == n).length
    | none => if one && n == s.node then 256 else 0
  let king := match v with | some v => v.king | none => if one || s.isKing then s.node else 0xFF
  let members := match v with | some v => v.members.toNat | none => if one then 2 ^ s.node else 0
  let mode (n : Nat) := if n = s.node then s.mode.current.code else (s.cluster.peers.getD n {}).mode
  natBytes 16 (layout 0
    [⟨0, 4, (v.map (·.epoch)).getD 0⟩, ⟨4, 1, king⟩, ⟨5, 1, s.cfg.clusterSize⟩, ⟨6, 2, members⟩,
     ⟨8, 1, bit v.isSome + 2 * bit (king == s.node)⟩]) ++
  ((List.range 4).map fun k =>
    let l := s.tyLink k
    natBytes 4 (layout 0 [⟨0, 1, l.state.code⟩, ⟨1, 1, l.width⟩, ⟨2, 1, l.half⟩])).flatten ++
  ((List.range 4).map fun k => natBytes 4 (s.tyLink k).delayPs).flatten ++
  ((List.range 16).map fun n => natBytes 4 (layout 0 [⟨0, 1, mode n⟩, ⟨2, 2, groups n⟩])).flatten ++ List.replicate 16 0

/-- CLUSTER_STATUS (15 R479). -/
def clusterStatusBegin (e : Entry) (s : State) : State :=
  let c := e.cmd
  checked e runModes [hostAddr c 16 64, reservedBytes c 24 64]
    (fun s => finish e stDone [] (hostWrite (prm c 16 8) (clusterBytes s) s)) s

def execClusterStatus (src : Source) (c : Cmd) (s : State) : Host.Outcome State Fault Refusal :=
  .next (takeCommand .clusterStatus src c [] clusterStatusBegin s)

/-- The node that 15 R472 chooses for a channel that runs here: this one, the home of its session A, or another member in
SERVICE (DEDUCED, log 58). -/
def State.chooseTarget (s : State) (ch : Channel) : Option Nat :=
  if handleNode ch.legA.session.toNat = s.node ∧ s.mode.current = .service then some s.node else s.peerFor ch

/-- CHANNEL_MIGRATE on a channel that runs here (15 R480; 16 R496). -/
def migrateHere (e : Entry) (ch : Channel) (s : State) : State :=
  let t := prmByte e.cmd 20
  let target := if t = 0xFF then s.chooseTarget ch else some t
  if ch.state = .suspended ∨ ch.conference.isSome then finish e stDenied [] s
  else match target with
    | none => finish e stNoResource [] s
    | some n =>
      if n = s.node then
        finish e stDone [⟨8, 1, n⟩, ⟨9, 1, ch.engine⟩, ⟨10, 1, ch.slot⟩] (accept e s)
      else if n ∉ s.servicePeers then finish e stDenied [] s
      else startMove ch n 1 0 (some e.id) (accept e s)

/-- A leg of a conference that moves whole brings its place in it (15 R474). -/
def arriveInConference (x : ConferencePlace) (s : State) : State :=
  let new : Conference := { id := x.id, maxLegs := x.maxLegs, loudest := x.loudest, wideband := x.wideband, legs := [] }
  let s1 := if (s.conference x.id).isSome then s
            else { s with voice := { s.voice with conferences := s.voice.conferences ++ [new] } }
  setConference x.id (fun c => { c with legs := c.legs ++ [x.leg] }) s1

/-- The CONF_ADD_LEG here that waits for a channel to arrive (09 R285). -/
def State.addingLeg (s : State) (channel : Nat) : Option Entry :=
  s.cmds.entries.find? fun e =>
    e.op = .confAddLeg && e.phase = .remote && e.aux.head? == some 6 && prm e.cmd 20 4 == channel

/-- The place of an arriving channel is reserved, and its node hears of it (15 R473 step 1). -/
def reserveArrival (a : Arrival) (engine : Nat) (s : State) : State :=
  let slot := s.freeSlot engine
  let ch := { a.channel with
    engine := engine, slot := slot, state := .moving, outMove := none, closing := none, firstFrame := s.alw.frame + 2,
    move := some { oldNode := a.node, oldEngine := 0, cause := a.cause, framesLost := a.lost, restore := true } }
  let s1 := eraseLegCounters ch.id { s with voice := { s.voice with channels := s.voice.channels ++ [ch] } }
  let s2 := match a.place with | some x => arriveInConference x s1 | none => s1
  tell a.node (.admitted (BitVec.ofNat 32 ch.id) (Fin.ofNat 64 engine) (Fin.ofNat 128 slot)) (loadChanged s2)

/-- A channel asks to move here: the destination admits it, with the coins of the leg that it is to become, raises the rail first
where the new work needs it, or refuses it (15 R473 step 1; 05 R139; 08 R235, R236; 09 R285; 02 R63, R64). -/
def admitMove (a : Arrival) (s : State) : State :=
  let ch := a.channel
  let adding := s.addingLeg ch.id
  let coins := if adding.isSome then legCoinsOf ch else ch.coins
  let refuse (s : State) : State := tell a.node (.refused (BitVec.ofNat 32 ch.id)) s
  let s := match adding with | some e => if e.accepted then s else accept e s | none => s
  match s.chooseEngine coins [] with
  | none => refuse (count (devCtr 25) s)
  | some engine =>
    let short := s.needsRaise engine coins
    if s.mode.current ≠ .service ∨ (s.channel ch.id).isSome ∨ !s.supplyAdmits ∨ (short ∧ s.gov.fault) then refuse s
    else if depthPool < s.reservedGranules + ch.legA.jb.reserved + ch.legB.jb.reserved then refuse (count (devCtr 37) s)
    else if short then
      let s1 := raiseRail s
      { s1 with cluster := { s1.cluster with arrivals := s1.cluster.arrivals ++ [a] } }
    else reserveArrival a engine s

/-- The moves that have waited for the rail (02 R64). -/
def admitArrivals (s : State) : State :=
  s.cluster.arrivals.foldl (fun st a => admitMove a st) { s with cluster := { s.cluster with arrivals := [] } }

/-- A channel that is on its way here from a node. -/
def State.arriving (s : State) (id node : Nat) : Option Channel :=
  (s.channel id).filter fun ch => ch.state = .moving && (ch.move.any fun r => r.oldNode == node)

/-- The copy has come: checkpoint, contexts and packets (15 R473 step 3). It is acknowledged. -/
def moveCopied (node : Nat) (copy : Channel) (s : State) : State :=
  match s.arriving copy.id node with
  | none => s
  | some ch =>
    tell node (.copyAck (BitVec.ofNat 32 ch.id)) (setChannel ch.id (fun x =>
      { copy with engine := x.engine, slot := x.slot, state := .moving, conference := x.conference, outMove := none,
                  closing := none, move := x.move, firstFrame := if copy.firstFrame = 0 then 0 else x.firstFrame }) s)

/-- The source has committed: the first frame runs as a restore, now or at its boundary; one whose boundary has passed is concealed,
and the present frame runs normally (15 R473 steps 4 and 5). `oldEngine` and `lost` are what CHANNEL_MOVED will tell (16 R495). -/
def commitArrival (ch : Channel) (oldEngine lost : Nat) (s : State) : State :=
  let first := if ch.firstFrame = 0 then s.alw.frame else ch.firstFrame
  let gone := ch.bindings.map (·.1)
  let s1 := count (nodeCtr 3) (setChannel ch.id (fun x =>
    { x with state := .running, firstFrame := first,
             move := x.move.map fun r => { r with oldEngine := oldEngine, framesLost := lost } }) s)
  let s2 := { s1 with cluster := { s1.cluster with movedLegs := s1.cluster.movedLegs.filter fun m => m.1 ∉ gone } }
  grantAll <|
    if s.alw.frame < first then s2
    else if first = s.alw.frame then readyRestore ch.id ch.engine first s2
    else readyFrame ch (loseFrame ch.id first ch.engine s2)

/-- CHANNEL_MIGRATE (15 R480) (DEDUCED, log 58). -/
def channelMigrateBegin (e : Entry) (s : State) : State :=
  let c := e.cmd
  checked e serviceModes [need 20 (decide (prmByte c 20 ≤ 15) || prmByte c 20 == 0xFF), reservedBytes c 21 64]
    (fun s => onChannel e (prm c 16 4) (fun ch s => migrateHere e ch s) s) s

def execChannelMigrate (src : Source) (c : Cmd) (s : State) : Host.Outcome State Fault Refusal :=
  .next (takeCommand .channelMigrate src c (channelObject c) channelMigrateBegin s)

/-- CHANNEL_MIGRATE is withdrawn before the admission (15 R480; 07 R205). -/
def abortMigrate (e : Entry) (s : State) : State :=
  match s.channel (prm e.cmd 16 4) with
  | some ch =>
    match ch.outMove with
    | some m =>
      if m.admitted || m.entry != some e.id then s
      else cancelJob e (tell m.target (.moveOff (BitVec.ofNat 32 ch.id)) (setChannel ch.id (fun x => { x with outMove := none }) s))
    | none => s
  | none => s

/-- Where 15 R472 places the channel once the home of its session A has refused it: on the member with the most free coins, when the
choice was the cluster's (R474, R480; 16 R493, R497). -/
def State.secondTarget (s : State) (ch : Channel) (m : OutMove) : Option Nat :=
  let home := handleNode ch.legA.session.toNat
  let free : Bool := match m.entry.bind s.entry with
    | some e => e.op == .channelMigrate && prmByte e.cmd 20 == 0xFF
    | none => m.cause != 4
  if m.target = home ∧ free then s.roomyPeers.find? fun n => n != home else none

/-- The destination's answer to a move (15 R473 steps 1 and 2): it admits, unless the command has been aborted, or refuses
(DESIGN CHOICE, log 32). -/
def moveAnswer (id : Nat) (answer : Option (Nat × Nat)) (s : State) : State :=
  match s.channel id with
  | none => s
  | some ch =>
    match ch.outMove with
    | none => s
    | some m =>
      if m.admitted then s
      else match answer with
        | some (engine, slot) => moveAdmitted ch m engine slot s
        | none =>
          match s.secondTarget ch m with
          | some n => startMove ch n m.cause m.lost m.entry s
          | none => dropMove ch m stNoResource s

/-- The channels that a draining device still has to move, in ascending CHANNEL_ID order (15 R474). -/
def State.drainOrder (s : State) : List Channel :=
  sortBy (fun a b => decide (a.id ≤ b.id)) (s.voice.channels.filter fun ch =>
    ch.outMove.isNone && ch.state == .running && ch.closing.isNone)

/-- A channel that found no room waits for 1 s (15 R474). -/
def State.drainHeld (s : State) (id : Nat) : Bool :=
  s.cluster.drainRetry.any fun r => r.1 == id && decide (s.now < r.2 + 1000000000)

/-- The channels that move together with one: every leg of its conference (15 R474). -/
def State.moveGroup (s : State) (ch : Channel) : List Channel :=
  match ch.conference with
  | none => [ch]
  | some (id, _) => s.drainOrder.filter fun x => (x.conference.map (·.1)) == some id

/-- DRAIN_MOVE_START: the next move out of a device in DRAIN with AUTO, at most 32 in a second (15 R474). A conference's
legs go together, each as one move; more than 32 of them start when no other move has started for a second (DEDUCED, log 58). -/
def execDrainMoveStart (s : State) : Host.Outcome State Fault Refusal :=
  .next <|
    let recent := s.cluster.drainStarts.filter fun t => decide (s.now < t + 1000000000)
    if s.mode.current ≠ .drain ∨ !s.mode.autoStandby then s
    else match s.drainOrder.find? fun ch => !s.drainHeld ch.id with
      | none => s
      | some ch =>
        let others := s.cluster.drainRetry.filter fun r => r.1 != ch.id
        let group := s.moveGroup ch
        if !recent.isEmpty ∧ 32 < recent.length + group.length then s
        else match s.chooseTarget ch with
        | none => { s with cluster := { s.cluster with drainRetry := others ++ [(ch.id, s.now)] } }
        | some n =>
          let starts := recent ++ group.map fun _ => s.now
          let s1 := { s with cluster := { s.cluster with drainStarts := starts, drainRetry := others } }
          group.foldl (fun st x => startMove x n 2 0 none st) s1

end Sys2Proof.Machine
end

