-- ==== Sys2Proof/Machine/Tasks.lean ====
section
/-!
DEFINITION. Frame tasks at work: their ends (08 R244, R245), preemption (R242), upsets and retries (R241; 16 R489, R490)
and calibration slices (03 R82, R83; 08 R250; 16 R491).
-/
namespace Sys2Proof.Machine

/-- A channel runs the present frame here: it is running, has begun, and no move has handed the frame over (15 R473). -/
def runsFrame (ch : Channel) (frame : Nat) : Bool :=
  ch.state == .running && decide (ch.firstFrame ≤ frame)
    && (match ch.outMove with | some m => !m.admitted || decide (frame ≤ m.lastFrame) | none => true)

/-- A task that ran over a boundary is done: TASK_OVERRUN counts, a program that has waited for its end comes into force, and the new
frame's task becomes ready (08 R245; 09 R291) (DEDUCED, log 35). -/
def afterOverrun (t : Task) (engine : Nat) (s : State) : State :=
  if s.alw.frame ≤ t.frame then s
  else
    let s1 := programBoundary t.channel (count (engineCtr engine 4) s)
    match s1.channel t.channel with
    | some ch => if runsFrame ch s.alw.frame && ch.closing.all (fun c => s.alw.frame ≤ c.2) then readyFrame ch s1 else s1
    | none => s1

/-- An IFP with its length, as UDPTL writes it (T.38). -/
def udptlField (ifp : List Byte) : List Byte :=
  (if ifp.length < 128 then netBytes 1 ifp.length else netBytes 2 (32768 + ifp.length)) ++ ifp

/-- A UDPTL datagram: its sequence number, the primary IFP, and the secondary ones, latest first (T.38; 09 R273). -/
def udptlDatagram (seq : Nat) (ifp : List Byte) (secondary : List (List Byte)) : List Byte :=
  netBytes 2 seq ++ udptlField ifp ++ [0] ++ netBytes 1 secondary.length ++ secondary.flatMap udptlField

/-- The datagram with as many of the secondary IFPs as 1,400 bytes hold (09 R273). -/
def udptlFit (seq : Nat) (ifp : List Byte) (sent : List (List Byte)) : Nat → List Byte
  | 0 => udptlDatagram seq ifp []
  | n + 1 =>
    let d := udptlDatagram seq ifp (sent.take (n + 1))
    if d.length ≤ 1400 then d else udptlFit seq ifp sent n

/-- The T.38 leg sends a datagram: at most 1,400 bytes, and one for each 20 ms of image data (09 R273). -/
def sendUdptl (ch : Channel) (l : Leg) (indicator : Bool) (ifp : List Byte) (frame : Nat) (s : State) : State :=
  let leg := ch.legOf l
  let early := !indicator && leg.udptlFrame.any fun f => decide (frame < f + 2)
  let d := udptlFit leg.udptlSeq.toNat ifp leg.udptlSent (pb ch.program 43 % 8)
  if legCodec ch.program (legNum l) ≠ 0x10 ∨ early ∨ 1400 < d.length then s
  else sendPacket ch l true d.length d frame (setLeg ch.id l (fun x =>
    { x with udptlSeq := x.udptlSeq + 1, udptlFrame := if indicator then x.udptlFrame else some frame,
             udptlSent := (ifp :: x.udptlSent).take 5 }) s)

/-- The egress builder takes a packet of a frame task (09 R259, R261, R276; 11 R342): voice in the mode that the encoder sends in, comfort
noise or DTX with VAD set, or a T.38 datagram. A leg without a session has none (DESIGN CHOICE, log 67). -/
def sendBuilt (id frame : Nat) (s : State) (p : BuiltPacket) : State :=
  match s.channel id with
  | none => s
  | some ch =>
    let leg := ch.legOf p.leg
    let n := legNum p.leg
    let rtp (bytes : Nat) : State := if hasBuffer ch p.leg then sendRtp ch p.leg bytes [] frame s else s
    if leg.session = 0 then s
    else if p.poolEmpty then count (devCtr 39) s
    else match p.kind with
      | .voice => rtp (voiceBytes ch.program n (sendMode ch.program n leg.cmr))
      | .quiet bytes => if legVad ch.program n then rtp bytes else s
      | .udptl indicator ifp => sendUdptl ch p.leg indicator ifp frame s

/-- The checkpoint port has accepted the image of a frame (08 R244): the frame's packets are played, the receive paths
move, its findings take effect, and its packets and RFC 4733 events go out. -/
def acceptFrame (t : Task) (report : TaskReport) (s : State) : State :=
  match s.channel t.channel with
  | none => s
  | some ch =>
    let id := ch.id
    let s1 := setChannel id (fun x => { x with checkpointFrame := max x.checkpointFrame t.frame }) s
    let s2 := playFrame ch .b t.frame (playFrame ch .a t.frame s1)
    let samples (l : Leg) := report.samples.find? fun x => x.leg == l
    let s3 := fcuFrame id .b (samples .b) (fcuFrame id .a (samples .a) s2)
    let s4 := report.signals.foldl (applySignal id (t.frame == s.alw.frame)) s3
    let s5 := report.packets.foldl (sendBuilt id t.frame) s4
    sendDigits id .b t.frame (sendDigits id .a t.frame s5)

/-- A transient task's descriptor is free again (08 R243). -/
def freeTask (t : Task) (s : State) : State :=
  if t.kind = .frame then s else freeDescriptor s

/-- What follows every end of a channel's task: a move is reported, a copy starts, the next frame becomes ready, a close
request is carried out, and the engines take work. -/
def taskOver (t : Task) (engine : Nat) (s : State) : State :=
  grantAll (closeDue (afterOverrun t engine (copyIfDue t.channel (settleMove t.channel s))))

/-- TASK_END (08 R239, R244). A task whose image is not accepted leaves the checkpoint as it was, and its frame is lost
(DESIGN CHOICE, log 67). -/
def execTaskEnd (engine : Fin 64) (report : TaskReport) (s : State) : Host.Outcome State Fault Refusal :=
  .next <|
    let e := engine.val
    if !s.tallyRuns then s
    else match (s.engine e).running with
    | none => s
    | some t =>
      let s1 := freeTask t (setEngine e (fun x => { x with running := none }) s)
      let s2 := if report.accepted then acceptFrame t report s1 else loseFrame t.channel t.frame e s1
      taskOver t e s2

/-- TASK_PREEMPT: a PREEMPT engine parks its task of level 2 to 7 and takes the waiting one of level 0 or 1 (08 R242), but
for an engine whose block is asked to become idle, which takes no new grant (08 R246), and a stopped core (01 R33). -/
def execTaskPreempt (engine : Fin 64) (s : State) : Host.Outcome State Fault Refusal :=
  .next <|
    let e := engine.val
    let en := s.engine e
    match en.running with
    | none => s
    | some t =>
      if s.tallyRuns && !s.blockInReset e && en.preempt && decide (2 ≤ t.level) && en.parked.isNone
          && (en.ready.any fun x => decide (x.level ≤ 1)) && s.mayGrant (taskClass ((headTask en.ready).getD t)) 2 then
        grantTask e (count (engineCtr e 2) (setEngine e (fun x => { x with running := none, parked := some t }) s))
      else s

/-- Free coins of an engine for the present frame: what its retries take is gone (08 R241). -/
def State.retryCoins (s : State) (e : Nat) : Int :=
  s.freeCoins e - (((s.board.retriesPlaced.filter fun r => r.1 == e).foldl (fun n r => n + r.2) 0 : Nat) : Int)

/-- A frame's retry becomes ready on an engine, counted there (08 R241, R243) (DEDUCED, log 35). -/
def placeRetry (t : Task) (engine : Nat) (s : State) : State :=
  let coins := ((s.channel t.channel).map (·.coins)).getD 0
  let retry : Task := { t with level := 0, kind := .retry, upsets := t.upsets + 1, readyAt := s.now }
  let s1 := { s with board := { s.board with retriesPlaced := s.board.retriesPlaced ++ [(engine, coins)] } }
  readyTransient engine retry (if s.board.transientFree = 0 then s else count (engineCtr engine 1) s1)

/-- The task that an upset interrupts is retried, first on its own engine, then on the in-service engine with the most free
coins, and never a third time; a frame whose successor has begun is lost (08 R241, R254) (DEDUCED, log 35). -/
def retryTask (t : Task) (engine : Nat) (s : State) : State :=
  if (s.channel t.channel).isNone then s
  else if t.frame < s.alw.frame then afterOverrun t engine (loseFrame t.channel t.frame engine s)
  else if t.upsets = 0 then placeRetry t engine s
  else if t.upsets = 1 then
    match argMax s.retryCoins ((List.range 64).filter fun e => e != engine && s.inService e) with
    | some e => placeRetry t e s
    | none => loseFrame t.channel t.frame engine s
  else loseFrame t.channel t.frame engine s

/-- An engine fault (16 R489, R490): the third within 10 s retires the engine, and its task is not retried. A fault that
finds the engine already retired is only logged (16 R513). -/
def engineFault (engine cause address : Nat) (s : State) : State :=
  let en := s.engine engine
  if s.blockInReset engine || !s.tallyRuns then s
  else if en.retired then
    logFault (if 2 ≤ s.faults10 engine then 2 else 1) 0 engine cause (s.faults10 engine + 1) 0 address s
  else
    let recent := (en.faults.filter fun t => decide (s.now < t + 10000000000)) ++ [s.now]
    let s1 := count (devCtr 64) (setEngine engine (fun x => { x with faults := recent }) s)
    let channel := (en.running.map (·.channel)).getD 0
    if 3 ≤ recent.length then
      grantAll (retireEngine engine cause (logFault 2 0 engine cause recent.length channel address s1))
    else
      let s2 := logFault 1 0 engine cause recent.length channel address s1
      match en.running with
      | none =>
        let s3 := endSlice engine s2
        if en.testSlice then requestSlice engine s3 else s3
      | some t =>
        grantAll (closeDue (retryTask t engine (freeTask t (setEngine engine (fun x => { x with running := none }) s2))))

/-- HANDSHAKE_STALL and WORKING_MEMORY_UE (16 R489). -/
def execHandshakeStall (engine : Fin 64) (s : State) : Host.Outcome State Fault Refusal :=
  .next (engineFault engine.val 1 0 s)

def execWorkingMemoryUe (engine : Fin 64) (s : State) : Host.Outcome State Fault Refusal :=
  .next (engineFault engine.val 2 0 s)

/-- CAL_FORCED_TAKE: at the frame boundary one engine gives up its first 20 µs, once a task that ran over the boundary has
left it (03 R83; 08 R245). -/
def execCalForcedTake (s : State) : Host.Outcome State Fault Refusal :=
  .next <|
    if !s.calHeld || !s.alw.running then s
    else
      match s.forcedChoice with
      | none => s
      | some e =>
        if (s.engine e).running.isSome then s
        else
          let s1 := count (devCtr 13) (startSlice e s)
          chargeGrant 5 2 1 { s1 with alw := { s1.alw with calForcedDue := false, calCount := 0 } }

/-- An iteration of an engine self-test has ended (08 R250): the next begins, or the command completes. A failure on an
engine in service is a failed re-test (16 R491). -/
def testIteration (job : TestJob) (passed : Bool) (failing : Nat) (s : State) : State :=
  match s.entry job.entry with
  | none => s
  | some e =>
    let done := job.passed + 1
    let drop := dropTest job
    let result (n f : Nat) : List Fld := [⟨8, 2, n⟩, ⟨10, 2, f⟩, ⟨12, 2, s.paceIndex job.engine⟩]
    if !passed then
      let s1 := finishJob e stHwFault (result job.passed failing) (drop s)
      if (s.engine job.engine).retired then s1
      else retireEngine job.engine 5 (logFault 2 0 job.engine 5 (s.faults10 job.engine) 0 0 s1)
    else if done = job.iterations then finishJob e stDone (result done 0) (drop s)
    else if !(s.abortsOf job.entry).isEmpty then cancelJob e (drop s)
    else beginIterations (freeDescriptor { s with board := { s.board with tests := s.board.tests.map fun j =>
           if j.entry = job.entry then { j with passed := done, holds := false } else j } })

/-- A slice of an engine self-test has ended: the next of the iteration is asked for, or the iteration is over after 250 of
them, with the result that its last slice brings (08 R250). -/
def testSliceOver (job : TestJob) (result : SliceResult) (s : State) : State :=
  if job.slices + 1 < 250 then
    requestSlice job.engine { s with board := { s.board with tests := s.board.tests.map fun j =>
      if j.entry = job.entry then { j with slices := j.slices + 1 } else j } }
  else match result with
    | .engineTest passed failing => testIteration job passed failing s
    | .calibration | .laneTest _ _ => testIteration job true 0 s

/-- What a slice of calibration or of a re-test has found (16 R491). -/
def sliceResult (engine : Nat) (result : SliceResult) (s : State) : State :=
  match result with
  | .calibration => s
  | .engineTest passed _ =>
    if passed || (s.engine engine).retired then s
    else retireEngine engine 5 (logFault 2 0 engine 5 (s.faults10 engine) 0 0 s)
  | .laneTest lane passed =>
    if passed || (s.lane (tLane lane.val)).state != .ready then s else laneFault (tLane lane.val) 5 s

/-- CAL_SLICE_END (03 R82). -/
def execCalSliceEnd (engine : Fin 64) (result : SliceResult) (s : State) : Host.Outcome State Fault Refusal :=
  .next <|
    let e := engine.val
    if !(s.engine e).calSlice || !s.tallyRuns then s
    else
      let s1 := setEngine e (fun x => { x with lastCal := s.alw.period }) (endSlice e s)
      let test := if (s.engine e).testSlice then s.testOn e else none
      grantAll (beginIterations (match test with
        | some job => testSliceOver job result s1
        | none => sliceResult e result s1))

end Sys2Proof.Machine
end

