-- ==== Sys2Proof/Machine/Repairs.lean ====
section
/-!
DEFINITION. Memory errors and row repair (16 R489, R498, R499), the retirement map and the commands on it (R501, R506 to
R508), and FAULT_LOG_READ (R505).
-/
namespace Sys2Proof.Machine

/-- The copy of a repaired row is WEAR-class traffic: `n` accesses of a resource (16 R498, R499)
(DESIGN CHOICE, log 75). -/
def wearCopy (res n : Nat) (s : State) : State :=
  setBalance 6 res (fun b => { b with waiting := b.waiting ++ List.replicate n { size := 1, job := .other } }) s

/-- A Till row is remapped to the next spare, or stays in service when none is left (16 R498, Table 16-2). A row found
without a spare is noted beside the rows with one error, 32,768 above its number (DEDUCED, log 75). -/
def repairTillRow (row address : Nat) (s : State) : State :=
  let used := s.faults.tillSpares.length
  let s1 := logFault 2 2 row 3 (256 - used) 0 address s
  if used < 256 then
    let s2 := { s1 with faults := { s1.faults with tillSpares := s1.faults.tillSpares ++ [row],
                                                   tillRows := s1.faults.tillRows.filter fun r => r != row } }
    let s3 := wearCopy 1 64 (rhoperPut (mapWord (8 + used)) (2147483648 + row) (count (devCtr 66) s2))
    raiseUnitRetired 2 3 row 1 (logFault 3 2 row 3 (255 - used) 0 address s3)
  else
    let s2 := { s1 with faults := { s1.faults with tillRows := s1.faults.tillRows ++ [row + 32768] } }
    raiseUnitRetired 2 3 row 0 (count (devCtr 68) s2)

/-- TILL_UNCORRECTABLE_ERROR (16 Table 16-1, R498). -/
def execTillUncorrectableError (row : Fin 32768) (address : Nat) (s : State) : Host.Outcome State Fault Refusal :=
  .next <|
    if !s.tallyRuns then s
    else
      let r := row.val
      let s1 := count (devCtr 8) s
      if r ∈ s.faults.tillRows ∧ r + 32768 ∉ s.faults.tillRows then repairTillRow r address s1
      else
        let rows := if r ∈ s.faults.tillRows then s.faults.tillRows else s.faults.tillRows ++ [r]
        logFault 1 2 r 3 0 0 address { s1 with faults := { s1.faults with tillRows := rows } }

/-- The word of the retirement map that counts Vault repairs (16 Table 16-2). -/
def vaultWord (n : Nat) : Nat := min n 65535 * 65536

/-- A Vault row's hard post-package repair starts, or the bank has no repair left (16 R499): a row without repair is noted
as in Till, 2³² above its number (DEDUCED, log 75). -/
def repairVaultRow (row address : Nat) (repairLeft : Bool) (s : State) : State :=
  let s1 := logFault 2 3 row 4 0 0 address s
  if repairLeft then
    let s2 := { s1 with faults := { s1.faults with vaultBusy := s1.faults.vaultBusy ++ [row],
                                                   vaultRepairs := s1.faults.vaultRepairs + 1,
                                                   vaultRows := s1.faults.vaultRows.filter fun r => r != row } }
    let s3 := wearCopy 0 64 (rhoperPut (mapWord 3) (vaultWord s2.faults.vaultRepairs) (count (devCtr 67) s2))
    raiseUnitRetired 3 4 row 1 (logFault 3 3 row 4 0 0 address s3)
  else
    let s2 := { s1 with faults := { s1.faults with vaultRows := s1.faults.vaultRows ++ [row + 4294967296] } }
    raiseUnitRetired 3 4 row 0 (count (devCtr 68) s2)

/-- VAULT_UNCORRECTABLE_ERROR (16 Table 16-1, R499). -/
def execVaultUncorrectableError (row address : Nat) (repairLeft : Bool) (s : State) : Host.Outcome State Fault Refusal :=
  .next <|
    if !s.tallyRuns then s
    else
      let s1 := count (devCtr 10) s
      if row ∈ s.faults.vaultRows ∧ row + 4294967296 ∉ s.faults.vaultRows then repairVaultRow row address repairLeft s1
      else
        let rows := if row ∈ s.faults.vaultRows then s.faults.vaultRows else s.faults.vaultRows ++ [row]
        logFault 1 3 row 4 0 0 address { s1 with faults := { s1.faults with vaultRows := rows } }

/-- VAULT_ROW_REPAIR_COMPLETE: accesses to the bank resume (16 R499) (DEDUCED, log 75). -/
def execVaultRowRepairComplete (row : Nat) (s : State) : Host.Outcome State Fault Refusal :=
  .next (if s.rhoper then { s with faults := { s.faults with vaultBusy := s.faults.vaultBusy.filter fun r => r != row } } else s)

/-- The unit that RETIRE and REINSTATE name is one that exists (16 R506). -/
def unitChecks (c : Cmd) : List Check :=
  let lane := decide (prmByte c 16 = 1)
  [within c 16 1 0 1, reservedBytes c 17 18, within c 18 2 0 63, reservedBytes c 20 64,
   need 18 (if lane then decide (8 ≤ prm c 18 2 ∧ prm c 18 2 ≤ 39) else true)]

def unitObjects (c : Cmd) : List Obj :=
  if prmByte c 16 = 1 then [.lane (prm c 18 2)] else [.engine (prm c 18 2)]

/-- RETIRE (16 R506, R508). -/
def retireBegin (e : Entry) (s : State) : State :=
  let c := e.cmd
  let n := prm c 18 2
  checked e runModes (unitChecks c)
    (fun s =>
      if prmByte c 16 = 1 then
        if s.laneRetired n then finish e stRetired [] s else finish e stDone [] (retireLane n 9 true s)
      else if (s.engine n).retired then finish e stRetired [] s
      else settleRetires (grantAll (retireEngine n 9 (setEntry e.id (fun x => { x with aux := [8, n] }) s)))) s

def execRetire (src : Source) (c : Cmd) (s : State) : Host.Outcome State Fault Refusal :=
  .next (takeCommand .retire src c (unitObjects c) retireBegin s)

/-- A lane is reinstated: its link, when it is down for want of a whole half, starts its bring-up (16 R506). -/
def reinstateLane (l : Nat) (s : State) : State :=
  let k := linkOfLane l
  let down := !s.halfWhole k 0 && !s.halfWhole k 1
  let s1 := setLane l (fun x => { x with retired := false, errorSeconds := [] }) s
  let s2 := raiseReinstated 1 l (logFault 4 1 l 10 0 0 0 (rhoperPut (mapWord 2) s1.laneWord s1))
  if down && (s2.tyLink k).state != .disabled then linkStart k 8 s2 else s2

/-- An engine is reinstated, in service at once (16 R506; 02 R66). -/
def reinstateEngine (n : Nat) (s : State) : State :=
  let s1 := setEngine n (fun x => { x with retired := false, faults := [], rejoinPeriod := s.alw.period + 1 }) s
  raiseReinstated 0 n (logFault 4 0 n 10 0 0 0 (rhoperPut (mapWord (n / 32)) (s1.engineWord (n / 32)) s1))

/-- REINSTATE (16 R506, R508). -/
def reinstateBegin (e : Entry) (s : State) : State :=
  let c := e.cmd
  let n := prm c 18 2
  checked e [.standby, .diagnostic] (unitChecks c)
    (fun s =>
      if prmByte c 16 = 1 then
        if s.laneRetired n then finish e stDone [] (reinstateLane n s) else finish e stDenied [] s
      else if !(s.engine n).retired || s.blockInReset n then finish e stDenied [] s
      else finish e stDone [] (reinstateEngine n s)) s

def execReinstate (src : Source) (c : Cmd) (s : State) : Host.Outcome State Fault Refusal :=
  .next (takeCommand .reinstate src c (unitObjects c) reinstateBegin s)

/-- The buffer of RETIREMENT_MAP_GET (16 R507). -/
def mapReport (s : State) : List Byte :=
  natBytes 64 (layout 0
    [⟨0, 4, s.engineWord 0⟩, ⟨4, 4, s.engineWord 1⟩, ⟨8, 4, s.laneWord⟩, ⟨12, 2, min s.faults.vaultRepairs 65535⟩,
     ⟨14, 2, s.faults.tillSpares.length⟩, ⟨16, 2, s.ledger.remaps.eraseDups.length⟩]) ++
  ((List.range 256).map fun k =>
    natBytes 4 (match s.faults.tillSpares[k]? with | some r => 2147483648 + r | none => 0)).flatten

/-- RETIREMENT_MAP_GET (16 R507, R508). -/
def retirementMapGetBegin (e : Entry) (s : State) : State :=
  let c := e.cmd
  checked e runModes [hostAddr c 16 64, reservedBytes c 24 64]
    (fun s => finish e stDone [] (hostWrite (prm c 16 8) (mapReport s) s)) s

def execRetirementMapGet (src : Source) (c : Cmd) (s : State) : Host.Outcome State Fault Refusal :=
  .next (takeCommand .retirementMapGet src c [] retirementMapGetBegin s)

/-- FAULT_LOG_READ's parameters (16 R505). -/
def logChecks (c : Cmd) : List Check :=
  let n := prm c 20 2
  [within c 20 2 0 1024, reservedBits c 22 1 1, reservedBytes c 23 24, need 24 (decide (prm c 24 8 % 64 = 0)),
   reservedBytes c 32 64, need 22 (n != 0 || prmByte c 22 != 0), need 24 ((n == 0) == (prm c 24 8 == 0))]

/-- FAULT_LOG_READ (16 R504, R505). -/
def faultLogReadBegin (e : Entry) (s : State) : State :=
  let c := e.cmd
  checked e runModes (logChecks c)
    (fun s =>
      let held := s.faults.log ++ s.faults.staged
      let first := BitVec.ofNat 32 (prm c 16 4)
      let out := (held.filter fun r => seqAfter r.seq first).take (prm c 20 2)
      let oldest := (held.head?.map fun r => r.seq.toNat).getD s.faults.nextSeq.toNat
      let ack := prmByte c 22 % 2 = 1
      let crash := decide ack && (rmemByte s (crashBase + 4) != 0 || rmemByte s (crashBase + 20) != 0)
      let s1 := if out.isEmpty then s else hostWrite (prm c 24 8) (out.map recordBytes).flatten s
      let s2 := if ack then crashAck s1 else s1
      finish e stDone [⟨8, 2, out.length⟩, ⟨10, 1, bit crash⟩, ⟨12, 4, oldest⟩, ⟨16, 4, s.faults.nextSeq.toNat⟩] s2) s

def faultLogObjects (_ : Cmd) : List Obj := [.faultLog]

def execFaultLogRead (src : Source) (c : Cmd) (s : State) : Host.Outcome State Fault Refusal :=
  .next (takeCommand .faultLogRead src c (faultLogObjects c) faultLogReadBegin s)

end Sys2Proof.Machine
end

