-- ==== Sys2Proof/Machine/Device.lean ====
section
/-!
DEFINITION. The device commands without long work: NOP, IDENTIFY, VERSION_GET, EQ_STEER_SET, DIAG_WINDOW_MAP (07, 06),
COUNTER_READ (12 R376) and TELEMETRY_READ (18 R559).
-/
namespace Sys2Proof.Machine

/-- NOP (07 R222): the wait of FENCE is in `State.objectBlocked`. -/
def nopBegin (e : Entry) (s : State) : State :=
  let c := e.cmd
  checked e runModes [reservedBits c 16 1 1, reservedBytes c 17 64] (finish e stDone []) s

def execNop (src : Source) (c : Cmd) (s : State) : Host.Outcome State Fault Refusal :=
  .next (takeCommand .nop src c [] nopBegin s)

/-- The modes of 05 Table 5-1. -/
def allModes : List Mode := [.strap, .loader, .recovery, .standby, .service, .drain, .diagnostic, .halt]

/-- IDENTIFY's RESULT (07 R216). -/
def identifyResult (s : State) : List Fld :=
  [⟨8, 4, 0x4B488160⟩, ⟨12, 4, 0xA2⟩, ⟨16, 8, Config.serial.toNat⟩, ⟨24, 1, s.node⟩,
   ⟨25, 1, s.boot.straps.bootSrc.toNat⟩]

/-- IDENTIFY (07 R216): accepted wherever a transport answers. -/
def identifyBegin (e : Entry) (s : State) : State :=
  checked e allModes [reservedBytes e.cmd 16 64] (fun s => finish e stDone (identifyResult s) s) s

def execIdentify (src : Source) (c : Cmd) (s : State) : Host.Outcome State Fault Refusal :=
  .next (takeCommand .identify src c [] identifyBegin s)

/-- VERSION_GET's RESULT (07 R217): of Rhoper 2.4.0 with its BUILD, or of ROM 1.3 (DEDUCED, log 47). -/
def versionResult (s : State) : List Fld :=
  let rom := s.mode.steward = .rom
  let mine : List Fld :=
    if rom then [⟨18, 1, 1⟩]
    else [⟨8, 1, 2⟩, ⟨9, 1, 4⟩, ⟨10, 2, 0⟩, ⟨12, 4, Config.build.toNat⟩, ⟨16, 2, 5⟩]
  mine ++ [⟨19, 1, bit s.boot.slot + 2 * bit s.boot.trial⟩, ⟨20, 1, 1⟩, ⟨21, 1, 3⟩]

/-- VERSION_GET (07 R217). -/
def versionGetBegin (e : Entry) (s : State) : State :=
  checked e (.loader :: .recovery :: runModes) [reservedBytes e.cmd 16 64]
    (fun s => finish e stDone (versionResult s) s) s

def execVersionGet (src : Source) (c : Cmd) (s : State) : Host.Outcome State Fault Refusal :=
  .next (takeCommand .versionGet src c [] versionGetBegin s)

/-- EQ_STEER_SET (06 R184): the steering applies to events raised after the completion. -/
def eqSteerSetBegin (e : Entry) (s : State) : State :=
  let c := e.cmd
  let vectors := (List.range 11).map fun f => prmByte c (16 + f)
  checked e runModes
    (((List.range 11).map fun f =>
        need (16 + f) (decide (prmByte c (16 + f) = 4) || (decide (6 ≤ prmByte c (16 + f))
          && decide (prmByte c (16 + f) ≤ 63)))) ++ [reservedBytes c 27 64])
    (fun s =>
      let s1 := finish e stDone [] s
      { s1 with ep := { s1.ep with steer := vectors } }) s

def eqSteerSetObjects (_ : Cmd) : List Obj := [.steering]

def execEqSteerSet (src : Source) (c : Cmd) (s : State) : Host.Outcome State Fault Refusal :=
  .next (takeCommand .eqSteerSet src c (eqSteerSetObjects c) eqSteerSetBegin s)

/-- DIAG_WINDOW_MAP (07 R221, Table 7-8). -/
def diagWindowMapBegin (e : Entry) (s : State) : State :=
  let c := e.cmd
  let source := prmByte c 16
  let base := prm c 24 8
  let size := if source = 1 then 0x400000000 else 0x4000000
  checked e [.diagnostic]
    [need 16 (decide (source ≤ 1) || decide (source = 255)), reservedBytes c 17 24,
     need 24 (decide (base % 0x10000 = 0)), reservedBytes c 32 64,
     need 24 (decide (source = 255) || decide (base + 0xF0000 ≤ size))]
    (fun s =>
      finish e stDone [] { s with window := if source = 255 then none else some (decide (source = 1), base) }) s

def diagWindowMapObjects (_ : Cmd) : List Obj := [.window]

def execDiagWindowMap (src : Source) (c : Cmd) (s : State) : Host.Outcome State Fault Refusal :=
  .next (takeCommand .diagWindowMap src c (diagWindowMapObjects c) diagWindowMapBegin s)

/-- The SUB values that a group has (12 Table 12-3, 13 Table 13-10, 14 R448, 15 R482). -/
def counterSub (group sub : Nat) : Bool :=
  match group with
  | 3 => decide (sub ≤ 1)
  | 6 => decide (sub ≤ 10)
  | _ => decide (sub = 0)

/-- An instance lies in the fixed range of its group and SUB (12 R377). -/
def counterInstance (group sub inst : Nat) : Bool :=
  match group with
  | 0 => decide (inst = 0)
  | 1 => decide (inst ≤ 7)
  | 2 => decide (inst ≤ 63)
  | 4 => decide (inst ≤ 31)
  | 5 => decide (inst ≤ 39)
  | 6 => if sub ≤ 8 then decide (inst ≤ 7) else if sub = 9 then decide (8 ≤ inst) && decide (inst ≤ 11)
         else decide (inst = 12)
  | 7 => decide (inst ≤ 4)
  | _ => true

/-- The counters of a COUNTER_READ, 8 bytes each (12 R376). -/
def counterBytes (group inst sub first n : Nat) (s : State) : List Byte :=
  ((List.range n).map fun k => natBytes 8 (s.counter ⟨group, inst, sub, first + k⟩)).flatten

/-- COUNTER_READ (12 R376, R377, Table 12-8). -/
def counterReadBegin (e : Entry) (s : State) : State :=
  let c := e.cmd
  let group := prmByte c 16
  let sub := prmByte c 17
  let inst := prm c 20 4
  checked e runModes
    [within c 16 1 0 7, within c 17 1 0 10, hostAddr c 24 64, within c 32 2 1 256, reservedBytes c 34 64,
     need 17 (counterSub group sub), need 20 (counterInstance group sub inst),
     need 32 (decide (prm c 18 2 + prm c 32 2 ≤ 256))]
    (fun s =>
      if group = 3 ∧ (s.voice.channels.all fun ch => ch.id != inst) then finish e stNotFound [] s
      else finish e stDone [] (hostWrite (prm c 24 8) (counterBytes group inst sub (prm c 18 2) (prm c 32 2) s) s)) s

def execCounterRead (src : Source) (c : Cmd) (s : State) : Host.Outcome State Fault Refusal :=
  .next (takeCommand .counterRead src c [] counterReadBegin s)

/-- A sensor's field: 0x7FFF after a failed self-check (18 Table 18-3, R582). -/
def tempField (t : Option Int) : Nat :=
  match t with
  | some x => twos 2 x
  | none => 0x7FFF

/-- The hottest working sensor (18 Table 18-3). -/
def hottest (l : List (Option Int)) : Nat :=
  ((l.zipIdx.foldl (fun (acc : Option (Int × Nat)) p =>
    match p.1, acc with
    | some t, some (m, i) => if m < t then some (t, p.2) else some (m, i)
    | some t, none => some (t, p.2)
    | none, _ => acc) none).map Prod.snd).getD 0

/-- TELEMETRY_READ's RESULT (18 Table 18-3): VDD_CORE is unpowered while its monitor reads 0 mV (DESIGN CHOICE, log 107). -/
def telemetryResult (select first : Nat) (s : State) : List Fld :=
  match select with
  | 0 =>
    ((List.range 9).map fun k => (⟨8 + 2 * k, 2, tempField (s.tele.temps.getD k none)⟩ : Fld)) ++
      [⟨26, 1, bit s.tele.warn + 2 * bit (s.tele.temps.any fun t => t.isNone)⟩, ⟨27, 1, hottest s.tele.temps⟩]
  | 1 =>
    ((List.range 4).map fun k => (⟨8 + 2 * k, 2, s.tele.rails.getD k 0⟩ : Fld)) ++
      [⟨16, 2, if s.gov.started then s.gov.targetMv else 0⟩, ⟨18, 2, s.tele.gpio.toNat⟩,
       ⟨20, 1, bit s.power.warnActive + 2 * bit s.tele.refclk + 4 * bit s.tele.tbref⟩]
  | _ =>
    (List.range 10).map fun k =>
      ⟨8 + 2 * k, 2, if first + k < 72 && s.tele.rails.getD 0 0 != 0 then (s.gov.gate.getD (first + k) 0).toNat else 0⟩

/-- TELEMETRY_READ (18 R559): over the management mailbox in every mode. -/
def telemetryReadBegin (e : Entry) (s : State) : State :=
  let c := e.cmd
  checked e (if e.source = .mgmt then allModes else runModes)
    [within c 16 1 0 2, within c 17 1 0 71, reservedBytes c 18 64,
     need 17 (decide (prmByte c 16 = 2) || decide (prmByte c 17 = 0))]
    (fun s => finish e stDone (telemetryResult (prmByte c 16) (prmByte c 17) s) s) s

def execTelemetryRead (src : Source) (c : Cmd) (s : State) : Host.Outcome State Fault Refusal :=
  .next (takeCommand .telemetryRead src c [] telemetryReadBegin s)

end Sys2Proof.Machine
end

