-- ==== Sys2Proof/Machine/Settings.lean ====
section
/-!
DEFINITION. Running and saved settings (07 R209 to R215; 17 R533 to R536): saving a generation, loading one at boot, and
bringing new running settings into force.
-/
namespace Sys2Proof.Machine

/-- BOOT_CTRL as stored (17 Table 17-5). -/
def State.bootCtrl (s : State) : Nat :=
  (s.word wBootCtrl).toNat

/-- A trial is open: TRIAL of BOOT_CTRL (17 Table 17-5). -/
def State.trialOpen (s : State) : Bool :=
  s.bootCtrl.testBit 2

/-- An area is pinned under an open trial (17 R533). -/
def State.pinned (s : State) (area : Nat) : Bool :=
  s.trialOpen && s.bootCtrl.testBit 18 && bitsOf s.bootCtrl 16 2 == area

/-- The flash offset of a settings area (07 R211). -/
def areaOffset (n : Nat) : Nat :=
  0x2000000 + 0x200000 * n

/-- The bytes of a generation: the spec gives what they carry and not their layout (07 R211) (DESIGN CHOICE, log 39). -/
opaque generationBytes (a : Area) : List Byte

/-- The CRC-32C over a generation (07 R211). -/
def Area.checksum (a : Area) : Nat :=
  crc32c (generationBytes { a with erased := false, headerDone := true, archived := false, crc := 0 })

/-- What an area holds (07 R211): a generation is valid when its header is complete and its CRC-32C matches. -/
inductive AreaKind where
  | empty
  | valid
  | invalid
deriving DecidableEq, Repr

def Area.kind (a : Area) : AreaKind :=
  if a.erased then .empty
  else if a.headerDone && a.crc == a.checksum then .valid
  else .invalid

/-- A schema that Rhoper 2.4.0 reads (07 R211). -/
def Area.readable (a : Area) : Bool :=
  decide (3 ≤ a.schema) && decide (a.schema ≤ 5)

/-- A generation with the highest GEN among those that a test admits, with its area number (DEDUCED, log 40). -/
def State.newestArea (s : State) (f : Area → Bool) : Option (Nat × Area) :=
  s.sets.areas.zipIdx.foldl (fun acc p =>
    if f p.1 then
      match acc with
      | none => some (p.2, p.1)
      | some a => if a.2.gen < p.1.gen then some (p.2, p.1) else some a
    else acc) none

/-- The usable generation (17 R533). -/
def State.usableArea (s : State) : Option (Nat × Area) :=
  s.newestArea fun a => a.kind == .valid && !a.archived

/-- The rank of an area as a save's target, lowest first (07 R213): empty, invalid, archived, then by GEN. -/
def Area.rank (a : Area) : Nat :=
  match a.kind with
  | .empty => 0
  | .invalid => 1
  | .valid => if a.archived then 2 else 3 + a.gen

/-- The area that the next generation goes to (07 R213) (DEDUCED, log 39). -/
def State.saveTarget (s : State) : Option Nat :=
  (s.sets.areas.zipIdx.foldl (fun (acc : Option (Nat × Nat)) p =>
    if s.pinned p.2 || s.sets.loadedArea == some p.2 then acc
    else
      match acc with
      | none => some (p.1.rank, p.2)
      | some a => if p.1.rank < a.1 then some (p.1.rank, p.2) else some a) none).map (·.2)

/-- The flash operations of one 64 KiB of a generation, 16 erases and 256 pages, and of a whole one (07 R213)
(DEDUCED, log 39). -/
def chunkOps : Nat := 272
/-- (DEDUCED, log 39) -/
def saveOps : Nat := 32 * chunkOps

/-- The next FLASH request of the save, of class TABLE (03 Table 3-1, R76). -/
def requestPage (s : State) : State :=
  enqueueRequest 1 3 { size := 256, job := .settings } s

/-- The GEN of the next generation (07 R213). -/
def State.nextGen (s : State) : Nat :=
  ((s.newestArea fun a => a.kind == .valid).map fun p => p.2.gen + 1).getD 1

/-- A generation starts to be written (07 R213 steps 1 to 3) (DEDUCED, log 39). -/
def startSave (entry : Option Nat) (area : Nat) (s : State) : State :=
  requestPage { s with sets := { s.sets with
    save := some { entry := entry, copy := s.cfg, gen := s.nextGen, area := area, done := 0, total := saveOps } } }

/-- In a trial with unreadable settings Rhoper writes no generation (17 R535). -/
def State.mayNotSave (s : State) : Bool :=
  s.sets.unreadable && s.trialOpen

/-- SETTINGS_SAVE (07 R213). -/
def settingsSaveBegin (e : Entry) (s : State) : State :=
  checked e runModes [reservedBytes e.cmd 16 64]
    (fun s =>
      if 0xFFFFFFFE < s.nextGen then finish e stWorn [] s
      else match (if s.mayNotSave then none else s.saveTarget) with
        | none => finish e stNoResource [] s
        | some a => startSave (some e.id) a (accept e s)) s

def settingsObject (_ : Cmd) : List Obj := [.settings]

def execSettingsSave (src : Source) (c : Cmd) (s : State) : Host.Outcome State Fault Refusal :=
  .next (takeCommand .settingsSave src c (settingsObject c) settingsSaveBegin s)

def setArea (i : Nat) (f : Area → Area) (s : State) : State :=
  { s with sets := { s.sets with areas := upd s.sets.areas i f } }

/-- The first flash operation on an area takes its generation away (07 R213). -/
def spoilArea (s : State) : State :=
  match s.sets.save with
  | some j => setArea j.area (fun a => { a with erased := false, headerDone := false, archived := false, gen := j.gen }) s
  | none => s

/-- A save ends without a generation: its area is invalid (07 R213). -/
def dropSave (s : State) : State :=
  let s1 := spoilArea s
  let i := balIndex 1 3
  { s1 with sets := { s1.sets with save := none },
            alw := { s1.alw with balances := upd s1.alw.balances i fun b =>
              { b with waiting := b.waiting.filter fun r => r.job != .settings } } }

/-- SETTINGS_SAVED (07 Table 7-10). -/
def raiseSaved (gen area : Nat) (s : State) : State :=
  raise evSettingsSaved [⟨16, 4, gen⟩, ⟨20, 1, area⟩] s

/-- A generation is complete, its header last with its CRC-32C; changes that have completed meanwhile are not in it (07 R211, R213, R214,
R229). LENGTH is a value that the spec does not state. -/
def saveDone (j : SaveJob) (s : State) : State :=
  let area : Area := { erased := false, headerDone := true, archived := false, gen := j.gen, schema := 5, writerMajor := 2,
                       writerMinor := 4, writerPatch := 0, length := s.freeAt 61, content := j.copy }
  let s1 := drawn (setArea j.area (fun _ => { area with crc := area.checksum }) s)
  let s2 := { s1 with sets := { s1.sets with save := none, dirty := j.dirtied } }
  let s3 := match j.entry.bind s2.entry with
    | some e => finishJob e stDone [⟨8, 4, j.gen⟩, ⟨12, 1, j.area⟩] s2
    | none => s2
  raiseSaved j.gen j.area s3

/-- An operation of the save has ended (07 R205, R213): the abort points lie before each 64 KiB. -/
def settingsFlashDone (verified : Bool) (s : State) : State :=
  match s.sets.save with
  | none => s
  | some j =>
    if !verified then
      let s1 := dropSave (count (devCtr 135) s)
      match j.entry.bind s1.entry with
      | some e => finishJob e stHwFault [] s1
      | none => s1
    else if j.total ≤ j.done + 1 then saveDone j s
    else
      let j' := { j with done := j.done + 1 }
      let s1 := { s with sets := { s.sets with save := some j' } }
      match j.entry.bind s1.entry with
      | some e =>
        if j'.done % chunkOps = 0 && !(s1.abortsOf e.id).isEmpty then cancelJob e (dropSave s1) else requestPage s1
      | none => requestPage s1

/-- COMMAND_ABORT of a save: at once when it stands before a 64 KiB, at the next one otherwise; none when no more follows
(07 R205, R213). True when the target has passed its last abort point. -/
def abortSave (e : Entry) (s : State) : State × Bool :=
  match s.sets.save with
  | none => (s, true)
  | some j =>
    let busy := s.alw.flashBusy.any fun r => r.job == .settings
    if j.done % chunkOps = 0 && !busy then (cancelJob e (dropSave s), false)
    else (s, decide (j.total ≤ (j.done / chunkOps + 1) * chunkOps))

/-- STATE of a settings area (07 Table 7-6). -/
def Area.stateCode (a : Area) : Nat :=
  match a.kind with
  | .empty => 0
  | .invalid => 2
  | .valid => if a.archived then 4 else if a.readable then 1 else 3

/-- An area entry (07 Table 7-6). What an invalid area says of itself is a free value. -/
def areaBytes (s : State) (i : Nat) : List Byte :=
  let a := s.sets.areas.getD i {}
  let f (site v : Nat) := match a.kind with
    | .empty => 0
    | .invalid => s.freeAt (site + i)
    | .valid => v
  natBytes 16 (layout 0 [⟨0, 4, f 70 a.gen⟩, ⟨4, 2, f 74 a.schema⟩, ⟨6, 1, a.stateCode⟩, ⟨7, 1, bit (s.pinned i)⟩,
    ⟨8, 1, f 78 a.writerMajor⟩, ⟨9, 1, f 82 a.writerMinor⟩, ⟨10, 2, f 86 a.writerPatch⟩, ⟨12, 4, f 90 a.length⟩])

/-- The settings status (07 Tables 7-5 and 7-6). -/
def settingsReport (s : State) : List Byte :=
  natBytes 16 (layout 0
    [⟨0, 4, s.sets.loadedGen⟩, ⟨4, 1, s.sets.loadedArea.getD 0xFF⟩,
     ⟨5, 1, bit s.sets.dirty + 2 * bit s.sets.save.isSome⟩, ⟨6, 2, 5⟩]) ++
  ((List.range 4).map fun i => areaBytes s i).flatten ++ List.replicate 48 0

/-- SETTINGS_STATUS (07 R214). -/
def settingsStatusBegin (e : Entry) (s : State) : State :=
  let c := e.cmd
  checked e runModes [hostAddr c 16 64, reservedBytes c 24 64]
    (fun s => finish e stDone [] (drawn (hostWrite (prm c 16 8) (settingsReport s) s))) s

def execSettingsStatus (src : Source) (c : Cmd) (s : State) : Host.Outcome State Fault Refusal :=
  .next (takeCommand .settingsStatus src c [] settingsStatusBegin s)

/-- The static station entries of new settings replace those of the old (07 R210; 11 R335). -/
def applyStatics (old new : List StaticStation) (s : State) : State :=
  if old = new then s
  else
    let s1 := (old.filter fun o => new.all fun n => n.key != o.key).foldl (fun st o =>
      sendMembers o.key (dropStation o.key st)) s
    new.foldl (fun st n => sendMembers n.key (putStation
      { key := n.key, node := n.node, port := n.port, isStatic := true, lastSeenPeriod := 0, lastSeenAt := 0 } st)) s1

/-- A port takes a configuration (12 R374). -/
def applyPort (old : PortCfg) (p : Nat) (s : State) : State :=
  let new := s.portCfg p
  if (s.port p).state ≠ .reset ∧ (new.enable ≠ old.enable ∨ new.speed ≠ old.speed ∨ new.fec ≠ old.fec) then
    startPort p 4 (if new.enable && old.enable then 8 else 0) (abortFrames p s)
  else s

/-- A lane takes a configuration (14 R439). -/
def applyLane (old : LaneCfg) (l : Nat) (s : State) : State :=
  let new := s.laneCfg l
  let s1 := if l < 8 then
      setLane l (fun x =>
        { x with txMain := new.txMain, txPre := new.txPre, txPost := new.txPost,
                 eqSource := if new.txMain = 54 ∧ new.txPre = 3 ∧ new.txPost = 6 then 0 else 2 }) s
    else s
  if new.txInvert ≠ old.txInvert ∨ new.rxPolarityFixed ≠ old.rxPolarityFixed ∨ new.rxInvert ≠ old.rxInvert
      ∨ new.txOff ≠ old.txOff then restartLane l s1 else s1

/-- A launch queue whose time base or offsets change forgets its last grant (13 R404). -/
def applyLaunch (old : LaunchCfg) (i : Nat) (s : State) : State :=
  let new := s.cfg.launch.getD i {}
  if new.timed ≠ old.timed ∨ new.tb ≠ old.tb ∨ new.offsetNs ≠ old.offsetNs ∨ new.staggerNs ≠ old.staggerNs then
    setQueue (i / 8) (i % 8) (fun q => { q with lastGranted := none, committed := none }) s
  else s

/-- SIZE takes the value of new settings; a device that comes to stand alone leaves its view (15 R456, R457, R481). -/
def applySize (new : Nat) (s : State) : State :=
  if new = s.cfg.clusterSize then s
  else
    let s1 := match s.cluster.view with
      | some v => if new = 1 then raiseMember v.epoch v.members s.node 3 0 0 s else s
      | none => s
    setSize new s1

/-- New running settings replace the old while Rhoper runs (07 R215): each part as its own command brings it into force.
The allowances follow at the next boundary (03 R86), the voltage by the governor's steps (02 R44)
(DEDUCED, log 41). -/
def applySettings (new : Settings) (s : State) : State :=
  let old := s.cfg
  let s1 := { s with cfg := { new with timeBases := old.timeBases, clusterSize := old.clusterSize } }
  let s2 := (List.range 4).foldl (fun st i => tbConfigure i (new.timeBases.getD i {}) st) s1
  let s3 := (List.range 64).foldl (fun st i => applyLaunch (old.launch.getD i {}) i st) s2
  let s4 := (List.range 8).foldl (fun st p => applyPort (old.ports.getD p {}) p st) s3
  let s5 := (List.range 40).foldl (fun st l => applyLane (old.lanes.getD l {}) l st) s4
  applySize new.clusterSize (applyStatics old.statics new.statics s5)

/-- A command that has replaced the running settings completes when its allowances are in force (07 R215, 03 R86)
(DEDUCED, log 41). -/
def replaceSettings (e : Entry) (new : Settings) (s : State) : State :=
  let s1 := applySettings new s
  { s1 with alw := { s1.alw with setEntries := s1.alw.setEntries ++ [e.id] } }

/-- SETTINGS_REVERT (07 R215), which does not wait for a save (R229) (DEDUCED, log 41). -/
def settingsRevertBegin (e : Entry) (s : State) : State :=
  checked e [.standby, .diagnostic] [reservedBytes e.cmd 16 64]
    (fun s => match s.sets.loaded with
      | some x => replaceSettings e x s
      | none => finish e stNotFound [] s) s

def execSettingsRevert (src : Source) (c : Cmd) (s : State) : Host.Outcome State Fault Refusal :=
  .next (takeCommand .settingsRevert src c [] settingsRevertBegin s)

/-- SETTINGS_FACTORY (07 R215) (DEDUCED, log 41). -/
def settingsFactoryBegin (e : Entry) (s : State) : State :=
  checked e [.standby, .diagnostic] [reservedBytes e.cmd 16 64] (replaceSettings e {}) s

def execSettingsFactory (src : Source) (c : Cmd) (s : State) : Host.Outcome State Fault Refusal :=
  .next (takeCommand .settingsFactory src c [] settingsFactoryBegin s)

/-- Generations archived, each counted (17 R533, R535, R536). -/
def archiveAreas (f : Area → Bool) (s : State) : State :=
  let hit (a : Area) := a.kind == .valid && !a.archived && f a
  countBy (devCtr 136) (s.sets.areas.filter hit).length
    { s with sets := { s.sets with areas := s.sets.areas.map fun a => if hit a then { a with archived := true } else a } }

/-- SETTINGS_LOADED (07 R212, Table 7-10). -/
def raiseLoaded (gen area cause : Nat) (s : State) : State :=
  raise evSettingsLoaded [⟨16, 4, gen⟩, ⟨20, 1, area⟩, ⟨21, 1, cause⟩] s

/-- The cause of SETTINGS_LOADED for a generation (07 R212; 17 R534) (DEDUCED, log 40). -/
def loadCause (trial : Bool) (gen : Nat) (areas : List Area) : Nat :=
  if trial then 3
  else if areas.any fun a => a.kind == .invalid && decide (gen < a.gen) then 1 else 0

/-- Rhoper loads a generation, or factory defaults, at STAGE 5 (07 R212; 17 R533 to R535) (DEDUCED, log 40). -/
def loadSettings (s : State) : State :=
  let bad := (s.sets.areas.filter fun a => a.kind == .invalid).length
  let s1 := countBy (devCtr 23) bad s
  let factory (unreadable : Bool) := raiseLoaded 0 0xFF 2
    { s1 with cfg := {}, sets := { s1.sets with loadedGen := 0, loadedArea := none, loaded := none, dirty := false,
                                                unreadable := unreadable } }
  match s1.usableArea with
  | none => factory false
  | some (i, a) =>
    if a.readable then
      raiseLoaded a.gen i (loadCause s1.boot.trial a.gen s1.sets.areas)
        { s1 with cfg := a.content, sets := { s1.sets with loadedGen := a.gen, loadedArea := some i,
                                                           loaded := some a.content, dirty := false,
                                                           unreadable := false } }
    else factory true

/-- TRIAL_REVERTED (17 R546). -/
def raiseReverted (w base : Nat) (s : State) : State :=
  raise evTrialReverted [⟨16, 1, 1 - w % 2⟩, ⟨17, 1, w % 2⟩, ⟨18, 1, bitsOf w 19 2⟩, ⟨19, 1, bitsOf w 3 2⟩,
    ⟨20, 4, base⟩] s

/-- Rhoper's settings work at boot, in its order (17 R534 to R536) (DEDUCED, log 40). -/
def bootSettings (s : State) : State :=
  let w := s.bootCtrl
  let base := (s.word wTrialBaseGen).toNat
  let reverted := w.testBit 6
  let s1 := if reverted then archiveAreas (fun a => decide (base < a.gen)) s else s
  let s2 := loadSettings s1
  let s3 := if reverted then
      rhoperPut wBootCtrl (w - 64) (raiseReverted w base (count (devCtr 134) s2))
    else s2
  if s3.sets.unreadable then
    if s3.boot.trial then rhoperPut wBootCtrl (withBits (withBits w 5 1 1) 19 2 2) s3
    else archiveAreas (fun a => !a.readable) s3
  else match s3.usableArea with
    | some (_, a) =>
      if s3.boot.trial ∧ a.schema < 5 ∧ s3.nextGen ≤ 0xFFFFFFFE then
        match s3.saveTarget with
        | some t => startSave none t s3
        | none => s3
      else s3
    | none => s3

end Sys2Proof.Machine
end

