-- ==== Sys2Proof/Machine/Reset.lean ====
section
/-!
DEFINITION. Changes of mode and HALT (05), device-level resets and their sources (04 R100 to R113, R129 to R132), the pins
that drive them, and block resets (04 R117, R118, R131).
-/
namespace Sys2Proof.Machine

/-- The modes whose time counts toward WDOG_RUN's clearing (04 R108). -/
def countedMode (m : Mode) : Bool :=
  m == .standby || m == .service || m == .drain

/-- The running time is banked as a counted mode ends, and its count starts as one begins (04 R108). -/
def bankTime (new : Mode) (s : State) : State :=
  match countedMode s.mode.current, countedMode new with
  | true, false => { s with power := { s.power with runNs := s.power.runNs + (s.now - s.power.runSince) } }
  | false, true => { s with power := { s.power with runSince := s.now } }
  | _, _ => s

/-- Every loopback and pattern is gone, and the window unmapped (05 R140; 07 R221). -/
def removeTests (s : State) : State :=
  (List.range 40).foldl (fun st l => clearTests l st) { s with window := none }

/-- Leaving DIAGNOSTIC removes every loopback and pattern and unmaps the window, and the lanes re-adapt (05 R140; 07 R221; 14
R438). -/
def leaveDiagnostic (s : State) : State :=
  (List.range 40).foldl (fun st l =>
    if (st.lane l).tested || (st.lane l).state == .test || (st.lane l).injectInterval != 0 then
      testChanged l (clearTests l st)
    else st)
    { s with window := none }

/-- CURRENT, PREVIOUS and SEQ change together (05 R145, R146); the trial watchdog starts with each STANDBY (17 R530). -/
def switchMode (new : Mode) (s : State) : State :=
  let old := s.mode.current
  let s0 := bankTime new s
  let m := s0.mode
  let s1 := { s0 with mode := { m with current := new, previous := old, seq := m.seq + 1, transition := none,
                                       autoStandby := m.autoStandby && new == .drain } }
  let s2 := if old = .diagnostic ∧ new = .standby then leaveDiagnostic s1 else s1
  if new = .standby ∧ s2.boot.trial ∧ s2.trialOpen then { s2 with fw := { s2.fw with trialSince := some s2.now } } else s2

/-- MODE_CHANGED (05 R144). -/
def raiseMode (cause : Nat) (s : State) : State :=
  raise evModeChanged [⟨16, 1, s.mode.previous.code⟩, ⟨17, 1, s.mode.current.code⟩, ⟨18, 1, s.mode.seq.toNat⟩,
    ⟨19, 1, cause⟩] s

/-- What stops as the device leaves every working mode: ports, lanes, links and time bases (05 Table 5-1). -/
def stopUnits (s : State) : State :=
  { s with ports := s.ports.map (fun p => { p with state := .disabled }),
           lanes := { s.lanes with lanes := s.lanes.lanes.map (fun l => { l with state := .off }),
                                   links := List.replicate 4 {} },
           time := { s.time with bases := List.replicate 4 {} } }

/-- A mailbox command that the stopped Steward still held completes with BAD_MODE from the island (01 R14, R33). -/
def haltMailbox (s : State) : State :=
  match s.cmds.entries.find? fun e => e.source == .mgmt with
  | some e => answer .mgmt 0 (opcodeOf e.op) e.cmd.tag stBadMode 0 0 s
  | none => s

/-- The engines are stopped: nothing runs on them and nothing waits for one (05 Table 5-1). -/
def stopEngines (s : State) : State :=
  { s with board := { s.board with tests := [], askers := [], engines := s.board.engines.map fun x =>
      { x with ready := [], running := none, parked := none, calSlice := false, testSlice := false } } }

/-- HALT (05 R140 to R143; 06 R181, R183; 01 R33): the Steward stops with its open commands, which get no completion, FATAL is
set and vector 5 signals it. -/
def enterHalt (haltCause : Nat) (s : State) : State :=
  let s1 := stopEngines (removeTests (dropHostRequests (haltMailbox (switchMode .halt s))))
  let s2 := stopUnits { s1 with
    mode := { s1.mode with haltCause := BitVec.ofNat 4 haltCause, steward := .stopped, transition := none },
    power := { s1.power with wdogArmed := false }, alw := { s1.alw with running := false },
    cmds := { s1.cmds with entries := [] }, irq := { s1.irq with fatal := true } }
  if s.irq.fatal then s2 else sendCause s2

/-- The Steward runs in a mode that a Steward failure can halt (05 Table 5-2). -/
def State.stewardOn (s : State) : Bool :=
  s.mode.steward != .stopped && s.mode.current != .strap && s.mode.current != .halt

/-- STEWARD_LOCKSTEP_MISMATCH (05 R141). -/
def execStewardLockstepMismatch (s : State) : Host.Outcome State Fault Refusal :=
  .next (if s.stewardOn then enterHalt 2 s else s)

/-- STEWARD_SRAM_UE (05 R141; 02 R56). -/
def execStewardSramUe (s : State) : Host.Outcome State Fault Refusal :=
  .next (if s.stewardOn then enterHalt 3 (count (devCtr 12) s) else s)

/-- RHOPER_FATAL_ASSERTION: the HALT record and the crash record's header first (16 R502, R503; 05 R141)
(DEDUCED, log 49). -/
def execRhoperFatalAssertion (s : State) : Host.Outcome State Fault Refusal :=
  .next (if s.rhoper && s.stewardOn then enterHalt 4 (crashHeader 4 (logFault 7 5 0 12 4 0 0 s)) else s)

/-- What a POR leaves of a write that its rail interrupts: under POWER_WARN_N the write has completed once VDD_AON has stayed
in range for 5 µs, and goes on while VDD_AON is not the rail that fell (04 R103); else the word is old or new (R132). -/
def porWrite (s : State) : Option Bool :=
  let warned := s.power.warnActive && decide (s.power.warnSince + 5000 ≤ s.now)
  if s.power.warnActive && !warned && !(PorRail.vddAon ∈ s.power.railsLow) then none
  else some (warned || s.freeAt 62 % 2 == 1)

/-- The Ledger under a device-level reset (04 R132): a started write goes on, or under POR leaves the old or the new value;
the others are discarded (DEDUCED, log 37). -/
def ledgerReset (por : Bool) (s : State) : Ledger :=
  let l := s.ledger
  match l.started, l.queue with
  | true, w :: _ =>
    match (if por then porWrite s else none) with
    | some true =>
      { l with words := sset 0 l.words w.word w.value,
               counts := sset 0 l.counts w.word (min (s.writeCount w.word + 1) 0xFFFFFF), queue := [], started := false }
    | some false => { l with queue := [], started := false }
    | none => { l with queue := [{ w with writer := if w.writer = .host then .host else .rhoper none }] }
  | _, _ => { l with queue := [], started := false }

/-- The management mailbox under a reset that leaves the island alone: a command passed to the Steward gets no completion
(18 R581). -/
def mgmtReset (s : State) : Mgmt :=
  if s.cmds.entries.any fun e => e.source == .mgmt then { s.mgmt with busy := false, taken := false, done := false }
  else s.mgmt

/-- The sources that reset the management island (04 Table 4-2). -/
def resetsIsland (src : ResetSource) : Bool :=
  src == .por || src == .resetN

/-- The TAP instructions that take the pins from the device: EXTEST, CLAMP, HIGHZ, EXTEST_PULSE and EXTEST_TRAIN (18
R564, Table 18-4). -/
def takesPins (ir : BitVec 8) : Bool :=
  ir == 0 || ir == 4 || ir == 5 || ir == 8 || ir == 9

/-- Everything that a device-level reset restarts is at its reset value, and everything that it keeps stays (04 Table 4-3);
what only a COLD scope clears is cleared in option loading (R114). The counts of channels and conferences go on, since members may
still hold some that were opened here (09 R280) (DESIGN CHOICE, log 31). -/
def clearedState (src : ResetSource) (s : State) : State :=
  { pending := s.pending, now := s.now, freeCount := s.freeCount + 1, power := s.power, cause := s.cause,
    boot := { straps := s.boot.straps }, bkp := s.bkp, rmem := s.rmem, rmemBad := s.rmemBad,
    link := { hostMem := s.link.hostMem, messages := s.link.messages },
    voice := { nextChannel := s.voice.nextChannel, nextConference := s.voice.nextConference },
    cmds := { nextId := s.cmds.nextId }, sets := { areas := s.sets.areas }, faults := { log := s.faults.log },
    ledger := ledgerReset (src == .por) s, fw := { slots := s.fw.slots, burned := s.fw.burned, burnDue := s.fw.burnDue },
    mgmt := if resetsIsland src then {} else mgmtReset s, tele := if resetsIsland src then {} else s.tele,
    testPort := { s.testPort with ir := if src = .por then 1 else s.testPort.ir,
                                  pinsTaken := src != .por && takesPins s.testPort.ir && s.testPort.pinsTaken, uartRx := [] } }

/-- A device-level reset is asserted by a source, held for `lowNs` at least (04 R109, R110, R113, R114, R129): within a
stretch or its option loading it joins, and the widest scope holds; a source that resets the island resets its thermal trip
(Table 4-3) (DEDUCED, log 48). -/
def assertReset (src : ResetSource) (cold : Bool) (lowNs : Nat) (s : State) : State :=
  let joins := s.power.asserted || s.power.optionLoading
  let p := s.power
  let s1 := clearedState src s
  { s1 with power := { p with
      asserted := true, optionLoading := false,
      sources := if joins then (if src ∈ p.sources then p.sources else p.sources ++ [src]) else [src],
      cold := cold || (joins && p.cold),
      wdogFull := if joins then p.wdogFull else decide (s.cause.wdogRun = 3),
      releaseDue := max (s.now + max lowNs 20000) (if joins then p.releaseDue else 0),
      thermalHold := p.thermalHold && !resetsIsland src, vaultUp := false, pinsConfigured := false,
      refclkLocked := false, pcieLocked := false, pcieReleased := false, timeBaseReleased := false,
      resetOutLow := true, wdogArmed := false, runNs := 0, runSince := 0, blocks := [] } }

/-- POR: a rail that the reset controller watches falls below its threshold, and holds the device in reset until it reads
above it again; release follows 0.8 ms after VDD_AON is back at the earliest (04 R100, Table 4-4). -/
def execPor (rail : PorRail) (s : State) : Host.Outcome State Fault Refusal :=
  .next (assertReset .por true (if rail = .vddAon then 800000 else 0)
    { s with power := { s.power with railsLow := if rail ∈ s.power.railsLow then s.power.railsLow
                                                 else rail :: s.power.railsLow } })

/-- RESET_N_ASSERT (04 R110): a low level shorter than 100 ns never resets, one of 1 µs always does, and one between
does or does not (DESIGN CHOICE, log 72). -/
def execResetNAssert (lowNs : Nat) (s : State) : Host.Outcome State Fault Refusal :=
  .next <|
    if lowNs < 100 then s
    else if lowNs < 1000 ∧ s.freeAt 2 % 2 = 0 then drawn s
    else assertReset .resetN true lowNs (drawn s)

/-- WATCHDOG_EXPIRY (04 R108). -/
def execWatchdogExpiry (s : State) : Host.Outcome State Fault Refusal :=
  .next (if s.power.wdogArmed then assertReset .watchdog false 0 s else s)

/-- REMOTE_RESET_REQUEST (04 R105, R106; 15 R476). -/
def execRemoteResetRequest (node : Fin 16) (cold : Bool) (s : State) : Host.Outcome State Fault Refusal :=
  .next <|
    if s.remoteEn then
      let s1 := assertReset .remote cold 0 s
      { s1 with power := { s1.power with remoteNode := node.val } }
    else count (devCtr 16) s

/-- RESET_OUT_RELEASE (04 R113). -/
def execResetOutRelease (s : State) : Host.Outcome State Fault Refusal :=
  .next <|
    if s.power.asserted || !s.power.resetOutLow then s
    else
      let s1 := advance (s.power.releasedAt + 2000000) s
      { s1 with power := { s1.power with resetOutLow := false } }

/-- WDOG_RUN_CLEAR: 600 s in STANDBY, SERVICE and DRAIN (04 R108). -/
def execWdogRunClear (s : State) : Host.Outcome State Fault Refusal :=
  .next <|
    if s.rhoper && countedMode s.mode.current && decide (s.power.runNs < 600000000000) then
      let s1 := advance (s.power.runSince + (600000000000 - s.power.runNs)) s
      { s1 with cause := { s1.cause with wdogRun := 0 },
                power := { s1.power with runNs := 600000000000, runSince := s1.now } }
    else s

/-! Block resets. -/

/-- Words that the FIFOs of a block's islands hold at the start of its reset are discarded and counted; how many of the `room` entries
are filled is a free value (02 R51) (DESIGN CHOICE, log 73). -/
def flushCrossings (room : Nat) (s : State) : State :=
  countBy (devCtr 4) (s.freeAt 98 % (room + 1)) (drawn s)

/-- The entries of a port's FIFOs: M-lane 16, launch 64, SFD capture 8 (02 Table 2-5). -/
def portFifoRoom : Nat := 16 + 64 + 8

/-- The entries of a link's FIFOs: 32 of each T-lane, residence correction 8 (02 Table 2-5). -/
def linkFifoRoom : Nat := 8 * 32 + 8

/-- Block 83's registers at their reset values, but for FATAL; the taken commands run on and their completions are
discarded; a DMB command already taken likewise (06 R161, R167, R186). A Function Level Reset leaves the link alone
(DEDUCED, logs 20 and 46). -/
def clearEndpoint (keepLink : Bool) (s : State) : State :=
  let cmds := { s.cmds with entries := s.cmds.entries.map fun e =>
    { e with discard := e.discard || fromHost e,
             joined := e.joined.map fun j => { j with discard := true } } }
  dropHostRequests { s with
    ep := {}, irq := { fatal := s.irq.fatal }, cmds := cmds,
           eq := { seq := s.eq.seq, dropped := s.eq.dropped },
           link := { s.link with held := [], d3hot := false, up := s.link.up && keepLink } }

/-- The block's idle request begins (04 R118 step 1): a port leaves service at once (12 R369). -/
def blockRequest (b : Nat) (s : State) : State :=
  if 64 ≤ b ∧ b < 72 then portTo (b - 64) .reset 5 s else s

/-- The reset of a block is applied (04 R118 step 3; 08 R246; 12 R369; 13 R403; 14 R428, R455): the state it clears, and
the work items of the model's own that are discarded with it (DEDUCED, log 45). -/
def blockApply (x : BlockReset) (timedOut : Bool) (s : State) : State × Nat :=
  let b := x.block
  if b < 64 then
    if timedOut then
      match (s.engine b).running with
      | some t =>
        let s1 := setEngine b (fun x => { x with running := none }) s
        let s2 := if t.kind = .frame then s1 else freeDescriptor s1
        (afterOverrun t b (loseFrame t.channel t.frame b s2), 1)
      | none => if (s.engine b).calSlice then (endSlice b s, 1) else (s, 0)
    else (s, 0)
  else if b < 72 then
    let p := b - 64
    let s1 := setPort p (fun x => { clearLink x with sendingUntil := min x.sendingUntil s.now }) (flushCrossings portFifoRoom s)
    (laneOff p 6 (clearTests p s1), 0)
  else if b < 76 then
    let k := b - 72
    let s1 := setLink k (fun _ => { state := .disabled }) (flushCrossings linkFifoRoom s)
    ((List.range 8).foldl (fun st j => laneOff (laneOfLink k j) 6 (clearTests (laneOfLink k j) st)) s1, 0)
  else if b = 79 then dropAllQueues s
  else if b = 83 then (clearEndpoint (x.origin == .flr) s, 0)
  else (s, 0)

/-- A parked task is discarded as the engine is released (08 R246). -/
def dropParked (b : Nat) (s : State) : State × Nat :=
  match (s.engine b).parked with
  | some t =>
    let s1 := setEngine b (fun x => { x with parked := none }) s
    let s2 := if t.kind = .frame then s1 else freeDescriptor s1
    (afterOverrun t b (loseFrame t.channel t.frame b (count (devCtr 17) s2)), 1)
  | none => (s, 0)

/-- The block returns to service with the running settings, which Rhoper loads (04 R118; 12 R369; 14 R428). -/
def blockReturn (b : Nat) (s : State) : State × Nat :=
  if !s.rhoper then (s, 0)
  else if b < 64 then dropParked b s
  else if b < 72 then (startPort (b - 64) 5 6 s, 0)
  else if b < 76 then (if s.linkEnabled (b - 72) then linkStart (b - 72) 6 s else s, 0)
  else (s, 0)

/-- A block reset is asked for, or joins the one under way (04 R118, R131). -/
def requestBlock (b : Nat) (origin : BlockOrigin) (timeoutNs : Nat) (entry : Option Nat) (s : State) : State :=
  if s.blockInReset b then
    { s with power := { s.power with blocks := s.power.blocks.map fun x =>
        if x.block = b then { x with entries := x.entries ++ entry.toList } else x } }
  else
    blockRequest b { s with power := { s.power with blocks := s.power.blocks ++
      [{ block := b, origin := origin, applied := false, timedOut := false, discarded := 0, startedAt := s.now,
         appliedAt := 0, timeoutNs := timeoutNs, entries := entry.toList }] } }

/-- The block reset that waits for idle. -/
def State.waitingBlock (s : State) (b : Nat) : Option BlockReset :=
  s.power.blocks.find? fun x => x.block == b && !x.applied

def setBlock (b : Nat) (f : BlockReset → BlockReset) (s : State) : State :=
  { s with power := { s.power with blocks := s.power.blocks.map fun x => if x.block = b then f x else x } }

/-- What the model knows to be in flight in a block. -/
def State.blockBusy (s : State) (b : Nat) : Bool :=
  if b < 64 then (s.engine b).running.isSome || (s.engine b).calSlice
  else if b < 72 then decide (s.now < (s.port (b - 64)).sendingUntil)
  else if b = 82 then s.alw.flashBusy.isSome
  else false

/-- BLOCK_IDLE (04 R118). -/
def execBlockIdle (block : Fin 84) (s : State) : Host.Outcome State Fault Refusal :=
  .next <|
    match s.waitingBlock block.val with
    | none => s
    | some x =>
      if s.blockBusy block.val then s
      else
        let r := blockApply x false s
        countBy (devCtr 17) r.2
          (setBlock block.val (fun x => { x with applied := true, appliedAt := s.now, discarded := r.2 }) r.1)

/-- The origin's code in BLOCK_RESET_DONE (04 R118). -/
def BlockOrigin.code : BlockOrigin → Nat
  | .command => 0
  | .resetCtrl => 1
  | .perstN => 2
  | .flr => 3
  | .management => 4

/-- BLOCK_RESET_DONE (04 R118). -/
def raiseBlockDone (x : BlockReset) (s : State) : State :=
  raise evBlockResetDone [⟨16, 1, x.block⟩, ⟨17, 1, bit x.timedOut⟩, ⟨18, 1, x.origin.code⟩, ⟨20, 4, x.discarded⟩,
    ⟨24, 4, (s.now - x.startedAt) / 1000⟩] s

/-- BLOCK_RESET_RELEASE: at least 20 µs after the reset was applied, and with PERST_N high where that holds block 83 (04
R111, R118, R127, R131). -/
def execBlockResetRelease (block : Fin 84) (s : State) : Host.Outcome State Fault Refusal :=
  .next <|
    let b := block.val
    match s.power.blocks.find? fun x => x.block == b && x.applied with
    | none => s
    | some x =>
      if b = 83 ∧ s.power.perstLow then s
      else
        let s1 := advance (x.appliedAt + 20000) s
        let s2 := { s1 with power := { s1.power with blocks := s1.power.blocks.filter fun y => y.block != b } }
        let r := blockReturn b s2
        let x' := { x with discarded := x.discarded + r.2 }
        let s3 := x.entries.foldl (fun st id =>
          match st.entry id with
          | some e => finish e (if x.timedOut then stTimeout else stDone) [] st
          | none => st) r.1
        let s4 := raiseBlockDone x' s3
        if b < 64 then grantAll s4 else s4

/-- The default idle timeout (04 R118). -/
def defaultBlockNs : Nat := 2000000

/-- RESET_CTRL (04 R120) (DEDUCED, log 45). -/
def resetCtrlWrite (w : Nat) (s : State) : State :=
  if w / 65536 ≠ 0xA5C3 then s
  else match w % 4 with
    | 1 => assertReset .resetCtrl true 0 s
    | 2 => assertReset .resetCtrl false 0 s
    | 3 => if s.running && decide (bitsOf w 2 8 < 84) then requestBlock (bitsOf w 2 8) .resetCtrl defaultBlockNs none s
           else s
    | _ => s

def execResetCtrlCold (w : Word32) (s : State) : Host.Outcome State Fault Refusal :=
  .next (resetCtrlWrite w.toNat s)

def execResetCtrlWarm (w : Word32) (s : State) : Host.Outcome State Fault Refusal :=
  .next (resetCtrlWrite w.toNat s)

def execResetCtrlBlock (w : Word32) (s : State) : Host.Outcome State Fault Refusal :=
  .next (resetCtrlWrite w.toNat s)

/-- PERST_N_ASSERT (04 R105, R134): a WARM reset, or a reset of block 83 alone, which during a device-level reset and its
option loading is in reset already and stays so while PERST_N is low (R111, R130) (DEDUCED, log 46). -/
def execPerstNAssert (s : State) : Host.Outcome State Fault Refusal :=
  .next <|
    let s1 := { s with power := { s.power with perstLow := true } }
    if !s.perstBlock then assertReset .perstN false 0 s1
    else
      let s2 := { s1 with link := { s1.link with up := false } }
      if s.power.asserted || s.power.optionLoading then s2 else requestBlock 83 .perstN defaultBlockNs none s2

/-- PERST_N_DEASSERT (04 R110, R111). -/
def execPerstNDeassert (s : State) : Host.Outcome State Fault Refusal :=
  .next { s with power := { s.power with perstLow := false, pcieReleased := s.power.pcieReleased || s.power.pcieLocked } }

/-- FUNCTION_LEVEL_RESET (06 R161) (DEDUCED, log 46). -/
def execFunctionLevelReset (s : State) : Host.Outcome State Fault Refusal :=
  .next (if s.endpointOn then requestBlock 83 .flr defaultBlockNs none s else s)

/-- The modes of a DEVICE_RESET by its SCOPE (04 R126, R127; 07 R201 step 5, R219). -/
def resetModes (e : Entry) (scope : Nat) : List Mode :=
  if scope = 3 then runModes
  else if e.source = .mgmt ∧ (scope = 1 ∨ scope = 2) then [.strap, .loader, .recovery, .standby, .service, .drain, .diagnostic, .halt]
  else .recovery :: runModes

/-- DEVICE_RESET's parameters (04 R127). -/
def deviceResetChecks (c : Cmd) : List Check :=
  let scope := prmByte c 16
  let us := prm c 20 4
  [within c 16 1 1 3, within c 17 1 0 83, reservedBytes c 18 20,
   need 20 (us == 0 || (decide (100 ≤ us) && decide (us ≤ 100000))), reservedBytes c 24 64,
   need 17 (scope == 3 || prmByte c 17 == 0), need 20 (scope == 3 || us == 0)]

/-- DEVICE_RESET (04 R126, R127; 07 R219, R220) (DEDUCED, log 48). -/
def deviceResetBegin (e : Entry) (s : State) : State :=
  let c := e.cmd
  let scope := prmByte c 16
  let block := prmByte c 17
  let us := prm c 20 4
  checked e (resetModes e scope) (deviceResetChecks c)
    (fun s =>
      if scope = 3 then
        if decide (e.source = .mgmt) != decide (block = 83) then finish e stDenied [] s
        else requestBlock block (if e.source = .mgmt then .management else .command)
          (if us = 0 then defaultBlockNs else 1000 * us) (some e.id) s
      else if e.source = .mgmt then assertReset .management (decide (scope = 1)) 0 (finish e stDone [] s)
      else assertReset .deviceReset (decide (scope = 1)) 0 s) s

def execDeviceReset (src : Source) (c : Cmd) (s : State) : Host.Outcome State Fault Refusal :=
  .next (takeCommand .deviceReset src c [] deviceResetBegin s)

end Sys2Proof.Machine
end

