-- ==== Sys2Proof/Machine/Firmware.lean ====
section
/-!
DEFINITION. Firmware images (17 R522 to R531, R537, R540 to R545): the header, verification, downloads, activation and
confirmation of a trial.
-/
namespace Sys2Proof.Machine

/-- A field of an image header (17 Table 17-4). -/
def hdr (h : List Byte) (o n : Nat) : Nat :=
  bytesNat ((h.drop o).take n)

/-- A slot is valid: MAGIC and HEADER_CRC are right (17 R523). -/
def headerValid (h : List Byte) : Bool :=
  h.length == 4096 && hdr h 0 4 == 0x4B48494D && hdr h 4092 4 == crc32c (h.take 4092)

/-- The header's form (17 Table 17-4, R541 reason 1). -/
def headerForm (h : List Byte) : Bool :=
  headerValid h && hdr h 4 2 == 1 && decide (1 ≤ hdr h 8 4) && decide (hdr h 8 4 ≤ 16773120) && decide (hdr h 32 8 ≤ 64)

/-- The fuse security version (17 R524). -/
def State.fuseSv (s : State) : Nat :=
  max Config.fuseSecurityVersion s.fw.burned

/-- Why an image does not verify, 0 when it does (17 R523, R541) (DESIGN CHOICE, log 44). -/
def imageReason (h body : List Byte) (fuse : Nat) : Nat :=
  let len := hdr h 8 4
  let key := (h.drop 88).take 97
  if !headerForm h then 1
  else if body.length < len then 7
  else if hdr h 12 4 ≠ 0x4B488160 ∨ hdr h 16 4 ≠ 0xA2 then 2
  else if !Config.rootKey key then 3
  else if !Config.signatureOk key ((h.drop 188).take 96) (h.take 188) then 4
  else if Config.sha384 (body.take len) ≠ (h.drop 40).take 48 then 5
  else if hdr h 32 8 < fuse then 6
  else 0

def State.slot (s : State) (n : Nat) : Slot :=
  s.fw.slots.getD n {}

def setSlot (n : Nat) (f : Slot → Slot) (s : State) : State :=
  { s with fw := { s.fw with slots := upd s.fw.slots n f } }

/-- A slot verifies (17 R523). -/
def State.slotVerifies (s : State) (n : Nat) : Bool :=
  imageReason (s.slot n).header (s.slot n).body s.fuseSv == 0

/-- The staged header once all of it has arrived (17 R527). -/
def State.stagedHeader (s : State) : Option (List Byte) :=
  if s.fw.headerStaged.length = 4096 then s.fw.headerStaged.mapM id else none

/-- Header bytes put into header staging (17 R527). -/
def stageHeader (offset : Nat) (data : List Byte) (s : State) : State :=
  let old := if s.fw.headerStaged.length = 4096 then s.fw.headerStaged else List.replicate 4096 none
  let new := old.mapIdx fun i x => if offset ≤ i ∧ i < offset + data.length then data[i - offset]? else x
  { s with fw := { s.fw with headerStaged := new } }

/-- The ROM runs the command (05 R148; 17 R537). -/
def State.inRom (s : State) : Bool :=
  s.mode.steward == .rom

/-- IMAGE_DOWNLOAD's parameters (17 Table 17-7) (DEDUCED, log 42). -/
def downloadChecks (c : Cmd) : List Check :=
  let inl := (prmByte c 17).testBit 1
  let off := prm c 20 4
  let len := prm c 24 4
  [within c 16 1 0 2, reservedBits c 17 1 3, reservedBytes c 18 20, need 20 (decide (off % 4 = 0)),
   need 24 (decide (len % 4 = 0) && decide (4 ≤ len) && decide (len ≤ 65536)), reservedBytes c 28 32,
   (if inl then none else need 32 (decide (prm c 32 8 ≠ 0))), (if inl then none else reservedBytes c 40 64),
   need 20 (!(prmByte c 17).testBit 0 || off == 0), need 24 (!inl || decide (len ≤ 32)),
   need 24 (decide (4096 ≤ off) || decide (off + len ≤ 4096)), need 24 (decide (off + len ≤ 16777216))]

/-- A slot that the present executor downloads to (17 R527, R537): Till staging alone under a host load in LOADER, a flash
slot in RECOVERY and while Rhoper runs (DEDUCED, log 42). -/
def State.takesSlot (s : State) (slot : Nat) : Bool :=
  if s.mode.current = .loader then s.inRom && s.boot.straps.bootSrc == 2 && slot == 2 else decide (slot ≤ 1)

/-- IMAGE_DOWNLOAD is refused by state (17 Table 17-9), less the expected offset (DEDUCED, log 42). -/
def State.downloadDenied (s : State) (slot : Nat) (start : Bool) : Bool :=
  !s.takesSlot slot
  || (s.running && (decide (slot = s.bootCtrl % 2) || s.trialOpen))
  || (!start && s.fw.downloading != some slot)

/-- The request of an image job's next flash operation, of class HOSTDMA (03 Table 3-1, R76). -/
def requestImage (entry size : Nat) (s : State) : State :=
  enqueueRequest 2 3 { size := chargedSize 3 size, job := .image entry } s

/-- An image job begins with its first operation. -/
def startJob (j : ImageJob) (s : State) : State :=
  requestImage j.entry (j.left.headD 0) { s with fw := { s.fw with jobs := s.fw.jobs ++ [j] } }

/-- The flash operations that program `len` bytes from a slot offset on: an erase before each sector's first page, then
its pages (17 R522, R527). -/
def programOps (off len : Nat) : List Nat :=
  ((List.range ((off + len - 1) / 256 - off / 256 + 1)).map fun k =>
    let page := (off / 256 + k) * 256
    let lo := max page off
    let size := min (page + 256) (off + len) - lo
    if page % 4096 = 0 ∧ off ≤ page then [0, size] else [size]).flatten

/-- DOWNLOAD_MARK (17 Table 17-2). -/
def markWord (slot mib : Nat) : Nat :=
  0x80000000 + 0x40000000 * slot + mib

/-- The RESULT of IMAGE_DOWNLOAD (17 R540). -/
def expectedResult (s : State) : List Fld :=
  [⟨8, 4, s.fw.expected⟩]

/-- A chunk whose bytes have arrived is staged or programmed (17 R527, R537) (DEDUCED, log 43). -/
def downloadData (e : Entry) (data : List Byte) (s : State) : State :=
  let slot := prmByte e.cmd 16
  let off := prm e.cmd 20 4
  let start := (prmByte e.cmd 17).testBit 0
  if off < 4096 then
    let s0 := if start then { s with fw := { s.fw with headerStaged := [], downloading := some slot, expected := 4096,
                                                         resumable := false, staging := if slot = 2 then [] else s.fw.staging } }
              else s
    let s1 := stageHeader off data s0
    if start && decide (slot ≤ 1) then startJob { entry := e.id, slot := slot, offset := 0, data := [], left := [0] } s1
    else finish e stDone (expectedResult s1) s1
  else if slot = 2 then
    let s1 := { s with fw := { s.fw with staging := s.fw.staging.take (off - 4096) ++ data, expected := off + data.length } }
    finish e stDone (expectedResult s1) s1
  else
    let s1 := if s.fw.resumable then count (devCtr 138) { s with fw := { s.fw with resumable := false } } else s
    startJob { entry := e.id, slot := slot, offset := off, data := data, left := programOps off data.length } s1

/-- IMAGE_DOWNLOAD (17 R527, R540, R545, R550): a host chunk waits for its data. -/
def imageDownloadBegin (e : Entry) (s : State) : State :=
  let c := e.cmd
  let start := (prmByte c 17).testBit 0
  let inl := (prmByte c 17).testBit 1
  let off := prm c 20 4
  if e.source = .mgmt ∧ !inl then finish e stBadMode [] s
  else checked e (.loader :: .recovery :: runModes) (downloadChecks c)
    (fun s =>
      if s.downloadDenied (prmByte c 16) start then finish e stDenied (expectedResult s) s
      else if 4096 ≤ off ∧ off ≠ s.fw.expected then finish e stDenied (expectedResult s) s
      else if inl then downloadData e (natBytes (prm c 24 4) (prm c 32 32)) s
      else setEntry e.id (fun x => { x with aux := [1] }) (accept e s)) s

def slotObject (c : Cmd) : List Obj := [.slot (prmByte c 16)]

def execImageDownload (src : Source) (c : Cmd) (s : State) : Host.Outcome State Fault Refusal :=
  .next (takeCommand .imageDownload src c (slotObject c) imageDownloadBegin s)

/-- IMAGE_INVALID with its reason, counted in IMAGE_REJECT (17 R541, Table 17-9) (DEDUCED, log 43). -/
def rejectImage (e : Entry) (reason : Nat) (s : State) : State :=
  finish e stImageInvalid [⟨8, 1, reason⟩] (count (devCtr 132) s)

/-- The staged header and the programmed body under 17 R528: the header, or the reason for a rejection
(DEDUCED, log 43). -/
def State.stagedReason (s : State) (slot : Nat) : List Byte × Nat :=
  match s.stagedHeader with
  | none => ([], 7)
  | some h =>
    if s.fw.downloading ≠ some slot then ([], 7)
    else (h, imageReason h (s.slot slot).body s.fuseSv)

/-- The header sector is programmed: it was erased when the download began (17 R527, R528). -/
def programHeader (e : Entry) (slot : Nat) (h : List Byte) (s : State) : State :=
  startJob { entry := e.id, slot := slot, offset := 0, data := h, left := List.replicate 16 256 } s

/-- IMAGE_VERIFY (17 R528, R541, R545). -/
def imageVerifyBegin (e : Entry) (s : State) : State :=
  let c := e.cmd
  checked e runModes [within c 16 1 0 1, reservedBytes c 17 64]
    (fun s =>
      let s1 := accept e s
      let r := s1.stagedReason (prmByte c 16)
      if r.2 ≠ 0 then rejectImage e r.2 s1 else programHeader e (prmByte c 16) r.1 s1) s

def execImageVerify (src : Source) (c : Cmd) (s : State) : Host.Outcome State Fault Refusal :=
  .next (takeCommand .imageVerify src c (slotObject c) imageVerifyBegin s)

/-- TRIAL_WD in units of 10 s (17 R542, Table 17-5). -/
def trialWd (seconds : Nat) : Nat :=
  (if seconds = 0 then 600 else seconds) / 10

/-- The words that an activation writes, BOOT_CTRL last (17 R529, R537) (DEDUCED, log 62). -/
def State.activateWords (s : State) (c : Cmd) : List (Nat × Nat) :=
  let slot := prmByte c 16
  if (prmByte c 17).testBit 0 then [(wBootCtrl, slot + 2 * slot)]
  else
    let base := s.usableArea
    let w := s.bootCtrl % 2 + 2 * slot + 4 + 256 * trialWd (prm c 18 2)
      + (match base with | some (i, _) => 65536 * i + 262144 | none => 0)
    [(wTrialBaseGen, (base.map fun p => p.2.gen).getD 0), (wBootCtrl, w)]

/-- IMAGE_ACTIVATE's parameters (17 R542). -/
def activateChecks (c : Cmd) : List Check :=
  let wd := prm c 18 2
  [within c 16 1 0 2, reservedBits c 17 1 3,
   need 18 (wd == 0 || (decide (60 ≤ wd) && decide (wd ≤ 2550) && decide (wd % 10 = 0))), reservedBytes c 20 64]

/-- IMAGE_ACTIVATE is refused by state (17 Table 17-9, R537) (DEDUCED, log 42). -/
def State.activateDenied (s : State) (c : Cmd) : Bool :=
  let slot := prmByte c 16
  let direct := (prmByte c 17).testBit 0
  if s.mode.current = .recovery then slot == 2 || !direct || s.trialOpen
  else if s.mode.current = .loader then !s.takesSlot slot || direct
  else slot == 2 || direct || s.trialOpen || slot == s.bootCtrl % 2 || s.fw.downloading == some slot

/-- An activation is complete; with RESET a WARM reset follows it (17 R542; 04 Table 4-2 source 4). -/
def activateDone (e : Entry) (s : State) : State :=
  let s1 := finish e stDone [] s
  if (prmByte e.cmd 17).testBit 1 then assertReset .resetCtrl false 0 s1 else s1

/-- IMAGE_ACTIVATE (17 R529, R537, R542, R545): of a staged image it starts it; of a slot it verifies it again and writes
BOOT_CTRL; in RECOVERY it first programs a header that the slot still lacks. -/
def imageActivateBegin (e : Entry) (s : State) : State :=
  let c := e.cmd
  let slot := prmByte c 16
  checked e (.loader :: .recovery :: runModes) (activateChecks c)
    (fun s =>
      let s1 := accept e s
      if s1.activateDenied c then finish e stDenied [] s1
      else if slot = 2 then
        let h := s1.stagedHeader.getD []
        let r := if h.isEmpty then 7 else imageReason h s1.fw.staging s1.fuseSv
        if r ≠ 0 then rejectImage e r s1
        else activateDone e { s1 with
          fw := { s1.fw with started := true, downloading := none, image := some { header := h, body := s1.fw.staging } },
          boot := { s1.boot with stage := 3 } }
      else if s1.mode.current = .recovery ∧ !headerValid (s1.slot slot).header then
        let r := s1.stagedReason slot
        if r.2 ≠ 0 then rejectImage e r.2 s1 else programHeader e slot r.1 s1
      else
        let r := imageReason (s1.slot slot).header (s1.slot slot).body s1.fuseSv
        if r ≠ 0 then rejectImage e r s1 else writeWords e (s1.activateWords c) s1) s

def execImageActivate (src : Source) (c : Cmd) (s : State) : Host.Outcome State Fault Refusal :=
  .next (takeCommand .imageActivate src c (slotObject c) imageActivateBegin s)

/-- The bytes of an image job are programmed and read back. -/
def jobDone (e : Entry) (j : ImageJob) (s : State) : State :=
  if e.op = .imageDownload then
    if j.offset = 0 then writeWords e [(wDownloadMark, markWord j.slot 0)] s
    else
      let s1 := setSlot j.slot (fun x => { x with body := x.body.take (j.offset - 4096) ++ j.data }) s
      let top := j.offset + j.data.length
      let s2 := { s1 with fw := { s1.fw with expected := top } }
      if j.offset / 1048576 < top / 1048576 then writeWords e [(wDownloadMark, markWord j.slot (top / 1048576))] s2
      else finish e stDone (expectedResult s2) s2
  else
    let s1 := setSlot j.slot (fun x => { x with header := j.data }) s
    let s2 := { s1 with fw := { s1.fw with headerStaged := [], downloading := none, resumable := false } }
    writeWords e ((wDownloadMark, 0) :: (if e.op = .imageActivate then s2.activateWords e.cmd else [])) s2

/-- The first operation on a slot's header sector takes the image away (17 R527). -/
def spoilSlot (entry : Nat) (s : State) : State :=
  match s.fw.jobs.find? fun j => j.entry == entry with
  | some j => if j.left.head? = some 0 ∧ j.offset = 0 then setSlot j.slot (fun _ => {}) s else s
  | none => s

def dropJob (entry : Nat) (s : State) : State :=
  { s with fw := { s.fw with jobs := s.fw.jobs.filter fun j => j.entry != entry } }

/-- An operation of an image job has ended; one that fails its verify ends the command (17 Table 17-9)
(DEDUCED, log 43). -/
def imageFlashDone (entry : Nat) (verified : Bool) (s : State) : State :=
  match s.fw.jobs.find? fun j => j.entry == entry, s.entry entry with
  | some j, some e =>
    if !verified then finish e stHwFault [] (dropJob entry (count (devCtr 135) s))
    else match j.left.tail with
      | [] => jobDone e j (dropJob entry s)
      | next :: rest =>
        requestImage entry next { s with fw := { s.fw with jobs := s.fw.jobs.map fun x =>
          if x.entry = entry then { x with left := next :: rest } else x } }
  | _, _ => dropJob entry s

/-- IMAGE_CONFIRM (17 R531, R535, R543, R545). -/
def imageConfirmBegin (e : Entry) (s : State) : State :=
  let c := e.cmd
  checked e runModes [reservedBits c 16 1 3, reservedBytes c 17 64]
    (fun s =>
      let w := s.bootCtrl
      if !s.trialOpen || s.fw.revertReset || (w.testBit 5 && decide (bitsOf w 19 2 ≠ 2)) then finish e stDenied [] s
      else if s.sets.unreadable && !(prmByte c 16).testBit 0 then finish e stSettingsUnreadable [] s
      else
        let sv := hdr (s.slot (bitsOf w 1 1)).header 32 8
        writeWords e [(wBootCtrl, 3 * bitsOf w 1 1)]
          { s with fw := { s.fw with burnDue := if (prmByte c 16).testBit 1 then 0 else sv } }) s

def imageConfirmObjects (_ : Cmd) : List Obj := [.slot 0, .slot 1]

def execImageConfirm (src : Source) (c : Cmd) (s : State) : Host.Outcome State Fault Refusal :=
  .next (takeCommand .imageConfirm src c (imageConfirmObjects c) imageConfirmBegin s)

/-- The fuse security version is raised to what a confirm has asked for, each bit blown counted (17 R524). -/
def raiseFuse (s : State) : State :=
  let sv := s.fw.burnDue
  let s1 := { s with fw := { s.fw with burned := max s.fw.burned sv, burnDue := 0 } }
  countBy (devCtr 137) (sv - s.fuseSv) s1

/-- A confirm that a reset interrupted: the next boot of the confirmed image completes the burn (17 R524, Table 17-6)
(DEDUCED, log 106). -/
def completeBurn (s : State) : State :=
  let slot := s.bootCtrl % 2
  if !s.trialOpen && s.boot.slot == decide (slot = 1) && hdr (s.slot slot).header 32 8 == s.fw.burnDue then raiseFuse s
  else { s with fw := { s.fw with burnDue := 0 } }

/-- The confirm word is persistent: the trial has ended, FORCE archives what Rhoper does not read, and the fuse follows
the image (17 R531, R535). -/
def confirmDone (e : Entry) (s : State) : State :=
  let f := prmByte e.cmd 16
  let s1 := { s with boot := { s.boot with trial := false }, fw := { s.fw with trialSince := none } }
  let s2 := if s1.sets.unreadable && f.testBit 0 then archiveAreas (fun a => !a.readable) s1 else s1
  finish e stDone [] (raiseFuse s2)

/-- STATE of a slot (17 Table 17-8). -/
def State.slotState (s : State) (n : Nat) : Nat :=
  let x := s.slot n
  let mark := (s.word wDownloadMark).toNat
  if headerValid x.header then
    match imageReason x.header x.body s.fuseSv with
    | 0 => 3
    | 6 => 4
    | _ => 5
  else if mark.testBit 31 ∧ bitsOf mark 30 1 = n then 1
  else if x.header.isEmpty ∧ x.body.isEmpty then 0
  else 2

/-- A slot's entry (17 Table 17-8). What a slot without a valid header says of itself is a free value. -/
def slotBytes (s : State) (n : Nat) : List Byte :=
  let h := (s.slot n).header
  let f (site v : Nat) := if headerValid h then v else s.freeAt (site + n)
  natBytes 24 (layout 0 [⟨0, 1, s.slotState n⟩, ⟨4, 8, f 100 (hdr h 20 8)⟩, ⟨12, 2, f 102 (hdr h 28 2)⟩,
    ⟨14, 1, f 104 (hdr h 32 1)⟩])

/-- TRIAL_LEFT_S (17 Table 17-8); while a trial is open and no watchdog runs it is a free value. -/
def State.trialLeft (s : State) : Nat :=
  if !s.trialOpen then 0
  else match s.fw.trialSince with
    | some t => (t + 10000000000 * bitsOf s.bootCtrl 8 8 - s.now) / 1000000000
    | none => s.freeAt 106

/-- The image status (17 Table 17-8). EXPECTED_OFFSET without a download in progress is a free value. -/
def imageReport (s : State) : List Byte :=
  natBytes 16 (layout 0
    [⟨0, 4, s.bootCtrl⟩, ⟨4, 4, (s.word wDownloadMark).toNat⟩,
     ⟨8, 4, if s.fw.downloading.isSome then s.fw.expected else s.freeAt 107⟩,
     ⟨12, 1, bit s.stagedHeader.isSome + 2 * bit s.sets.unreadable + 4 * bit s.fw.bootedOther
       + 8 * bit s.fw.bootCtrlFailed⟩,
     ⟨13, 1, s.fuseSv⟩, ⟨14, 2, s.trialLeft⟩]) ++
  slotBytes s 0 ++ slotBytes s 1 ++ List.replicate 64 0

/-- IMAGE_STATUS (17 R544). -/
def imageStatusBegin (e : Entry) (s : State) : State :=
  let c := e.cmd
  checked e runModes [hostAddr c 16 1, reservedBytes c 24 64]
    (fun s => finish e stDone [] (drawn (hostWrite (prm c 16 8) (imageReport s) s))) s

def execImageStatus (src : Source) (c : Cmd) (s : State) : Host.Outcome State Fault Refusal :=
  .next (takeCommand .imageStatus src c [] imageStatusBegin s)

/-- TRIAL_WATCHDOG_EXPIRY: REVERT_NEXT with cause 1 is written, and a WARM reset follows the write (17 R530, R531)
(DEDUCED, logs 24 and 62). -/
def execTrialWatchdogExpiry (s : State) : Host.Outcome State Fault Refusal :=
  .next <|
    match s.fw.trialSince with
    | none => s
    | some t =>
      if !s.rhoper || !s.trialOpen || (s.cmds.entries.any fun e => e.op == .imageConfirm && e.phase == .executing) then s
      else
        let s1 := advance (t + 10000000000 * bitsOf s.bootCtrl 8 8) s
        let w := withBits (withBits s1.bootCtrl 5 1 1) 19 2 1
        let r := ledgerPut { word := wBootCtrl, value := BitVec.ofNat 32 w, writer := .rhoper none }
          { s1 with fw := { s1.fw with trialSince := none, revertReset := true } }
        if r.2 then assertReset .resetCtrl false 0 r.1 else r.1

end Sys2Proof.Machine
end

