-- ==== Sys2Proof/Machine/Boot.lean ====
section
/-!
DEFINITION. From internal release to STANDBY (04 R111 to R115, R121, R125; 05 Table 5-5; 17 R526), and the commands that
change the mode (05 R150 to R156).
-/
namespace Sys2Proof.Machine

/-- Something still holds the stretch: a watched rail that still reads low, VDD_CORE below 0.70 V after a POR, a hot die, or
PERST_N low in WARM scope (04 R100, R107, R110). VDD_CORE is watched also where a POR joins a stretch, or its option loading,
that another source began (DESIGN CHOICE, log 89). -/
def State.stretchHeld (s : State) (vddCoreMv : Nat) (low : List PorRail) : Bool :=
  !low.isEmpty || (decide (ResetSource.por ∈ s.power.sources) && decide (vddCoreMv < 700)) || s.power.thermalHold
  || (s.power.perstLow && !s.perstBlock)

/-- RESET_STRETCH_END: the internal release starts option loading (04 R110, R111) (DESIGN CHOICE, logs 3 and 5). -/
def execResetStretchEnd (rails : StretchRails) (s : State) : Host.Outcome State Fault Refusal :=
  .next <|
    if !s.power.asserted then s
    else if s.stretchHeld rails.vddCoreMv rails.low then { s with power := { s.power with railsLow := rails.low } }
    else
      let s1 := advance s.power.releaseDue s
      { s1 with power := { s1.power with asserted := false, optionLoading := true, releasedAt := s1.now, railsLow := [] } }

/-- The source that LAST names (04 R129). -/
def lastSource (l : List ResetSource) : Nat :=
  let order : List (ResetSource × Nat) := [(.por, 0), (.resetN, 1), (.thermal, 7), (.watchdog, 3), (.perstN, 2),
    (.management, 6), (.resetCtrl, 4), (.deviceReset, 5), (.remote, 8)]
  ((order.find? fun p => p.1 ∈ l).map Prod.snd).getD 0

/-- The code of a source (04 Table 4-2). -/
def ResetSource.code : ResetSource → Nat
  | .por => 0
  | .resetN => 1
  | .perstN => 2
  | .watchdog => 3
  | .resetCtrl => 4
  | .deviceReset => 5
  | .management => 6
  | .thermal => 7
  | .remote => 8

/-- RESET_CAUSE after a stretch (04 R121, R129); REMOTE_NODE takes its reset value, which is that after a cold reset (00 R10),
unless a remote source takes part. -/
def causeAfter (p : Power) (c : ResetCause) : ResetCause :=
  let bits := p.sources.foldl (fun (h : BitVec 9) x => h ||| (1 <<< x.code)) 0
  let por := decide (ResetSource.por ∈ p.sources)
  { c with last := BitVec.ofNat 4 (lastSource p.sources), lastWarm := !p.cold,
           history := (if por then 0 else c.history) ||| bits,
           wdogRun := if p.cold then 0
             else if ResetSource.watchdog ∈ p.sources ∧ c.wdogRun ≠ 3 then c.wdogRun + 1 else c.wdogRun,
           remoteNode := if ResetSource.remote ∈ p.sources then BitVec.ofNat 4 p.remoteNode
             else if p.cold then 0 else c.remoteNode }

/-- The Ledger shadow of the retirement map and of RESET_POLICY (04 R114; 16 Table 16-2). -/
def loadShadow (s : State) : State :=
  let w (k : Nat) := (s.word k).toNat
  loadPolicy { s with
    board := { s.board with engines := s.board.engines.mapIdx fun i x =>
      { x with retired := (w (1152 + i / 32)).testBit (i % 32) } },
    lanes := { s.lanes with lanes := s.lanes.lanes.mapIdx fun l x =>
      { x with retired := decide (8 ≤ l) && (w 1154).testBit (l - 8) } },
    faults := { s.faults with
      tillSpares := (List.range 256).filterMap fun k =>
        if (w (1160 + k)).testBit 31 then some (w (1160 + k) % 32768) else none,
      vaultRepairs := w 1155 / 65536 } }

/-- BKP and RMEM at option loading: zeroed under COLD, checked under WARM (04 R114, R125). -/
def loadMemory (s : State) : State :=
  if s.power.cold then { s with bkp := List.replicate 16 0, rmem := [], rmemBad := [] }
  else
    let clean := s.rmemBad.foldl (fun m w => swrite m (8 * w) (List.replicate 8 0)) s.rmem
    { s with rmem := clean, rmemBad := [], boot := { s.boot with rmemUeCount := BitVec.ofNat 8 (min 255 s.rmemBad.length) } }

/-- The management target adopts its address after a POR or RESET_N (04 R115; 18 R554) (DEDUCED, log 25). -/
def adoptAddress (straps : Straps) (s : State) : State :=
  if s.power.sources.any resetsIsland then
    { s with mgmt := { s.mgmt with address := BitVec.ofNat 7 (0x58 + straps.mgmtAddr.toNat) } }
  else s

/-- OPTION_LOADING_DONE (04 R114, R115, R119, R121, R125): a fuse error ends in HALT (05 R141)
(DESIGN CHOICE, log 5). -/
def execOptionLoadingDone (straps : Straps) (fuseError : Bool) (s : State) : Host.Outcome State Fault Refusal :=
  .next <|
    if !s.power.optionLoading then s
    else
      let s1 := adoptAddress straps (loadMemory (loadShadow { s with cause := causeAfter s.power s.cause }))
      let s2 := { s1 with
        boot := { s1.boot with stage := 1, fuseErr := fuseError, warm := !s1.power.cold,
                               strapAnomaly := decide (straps.clkMode = 0), straps := straps },
        power := { s1.power with optionLoading := false },
        time := { s1.time with onTbref := decide (straps.clkMode = 1) || decide (straps.clkMode = 2) } }
      if fuseError then enterHalt 1 s2 else s2

/-- ISLAND_PLL_LOCK (04 R111). -/
def execIslandPllLock (island : Island) (s : State) : Host.Outcome State Fault Refusal :=
  .next <|
    if s.power.asserted || s.power.optionLoading then s
    else
      let p := s.power
      match island with
      | .refclk => { s with power := { p with refclkLocked := true } }
      | .pcie => { s with power := { p with pcieLocked := true, pcieReleased := p.pcieReleased || !p.perstLow } }
      | .timeBase => { s with power := { p with timeBaseReleased := true } }

/-- RECOVERY (05 Table 5-1; 17 R526). -/
def enterRecovery (s : State) : State :=
  let s1 := switchMode .recovery s
  linksApply 7 { s1 with
    boot := { s1.boot with stage := 0xF, slot := false, trial := false },
    fw := { s1.fw with started := false, romWrite := none } }

/-- The ROM boots a slot, or the other when it does not verify, or none (17 R526). `other` says that the other slot may
be booted. -/
def bootFrom (slot : Nat) (trial other : Bool) (s : State) : State :=
  let boot (n : Nat) (t : Bool) (s : State) : State :=
    { s with boot := { s.boot with slot := decide (n = 1), trial := t, stage := 3 },
             fw := { s.fw with started := true, romWrite := none, image := none } }
  if s.slotVerifies slot then boot slot trial s
  else if other && s.slotVerifies (1 - slot) then
    let s1 := boot (1 - slot) false s
    { s1 with fw := { s1.fw with bootedOther := true } }
  else enterRecovery s

/-- The other slot may stand in for one: it is not under trial by BOOT_CTRL (17 R526). -/
def slotFree (w slot : Nat) : Bool :=
  !(w.testBit 2 && decide (bitsOf w 1 1 = 1 - slot))

/-- A BOOT_CTRL write of the ROM's choice has failed: ACTIVE_SLOT, as the ROM read it, is booted without a trial (17
R526) (DEDUCED, log 60). -/
def romWriteFailed (s : State) : State :=
  let w := match s.fw.romWrite with | some (_, _, w) => w | none => s.bootCtrl
  let a := w % 2
  bootFrom a false (slotFree w a) { s with fw := { s.fw with bootCtrlFailed := true, romWrite := none } }

/-- The BOOT_CTRL write of the ROM's choice is done: the chosen slot boots, and a trial boot counts (17 R526, R547)
(DEDUCED, log 60). -/
def romWritten (s : State) : State :=
  match s.fw.romWrite with
  | none => s
  | some (slot, trial, _) =>
    bootFrom slot trial (slotFree s.bootCtrl slot) (if trial then count (devCtr 133) s else s)

/-- The ROM asks for a BOOT_CTRL write, and decides once it is done (17 R526) (DEDUCED, log 60). -/
def romPut (word slot : Nat) (trial : Bool) (s : State) : State :=
  let r := ledgerPut { word := wBootCtrl, value := BitVec.ofNat 32 word, writer := .rom }
    { s with fw := { s.fw with romWrite := some (slot, trial, s.bootCtrl) } }
  if r.2 then romWriteFailed r.1 else r.1

/-- The ROM's choice of a slot (17 R526) (DEDUCED, log 60). -/
def romChoose (s : State) : State :=
  let w := s.bootCtrl
  let active := w % 2
  let next := bitsOf w 1 1
  if s.trialOpen then
    if w.testBit 5 ∨ bitsOf w 3 2 = 3 ∨ !s.slotVerifies next then
      let cause := if w.testBit 5 then bitsOf w 19 2 else if bitsOf w 3 2 = 3 then 0 else 3
      romPut (active + 2 * active + 8 * bitsOf w 3 2 + 64 + 524288 * cause) active false s
    else romPut (w + 8) next true s
  else bootFrom active false true s

/-- A download that the latest reset interrupted goes on from its mark (17 R527). -/
def resumeDownload (s : State) : State :=
  let m := (s.word wDownloadMark).toNat
  if m.testBit 31 then
    let mib := m % 32
    { s with fw := { s.fw with downloading := some (bitsOf m 30 1), resumable := true,
                               expected := if mib = 0 then 4096 else 1048576 * mib } }
  else s

/-- The Allowance controller starts: its first boundary, also a frame boundary, begins period 1 (03 R71, R73, R81). -/
def startController (s : State) : State :=
  loadOffsets { s with alw := { s.alw with
      running := true, period := 1, lastBoundary := s.now, freeRunPhase := 0, sinceFrame := 0, frame := 0, frameAt := s.now,
      force := defaultAllowances, tillPassStart := s.now, vaultPassStart := s.now,
      balances := s.alw.balances.mapIdx fun i b =>
        let f := defaultAllowances.getD i { allow := 0, floor := 0 }
        { b with b := f.allow, c := f.floor, s := 0 } } }

/-- RESET_WAVE_COMPLETE: the ROM starts, in LOADER or, where no boot may follow, through it in RECOVERY (04 R108, R111,
R112; 05 Tables 5-2 and 5-5). -/
def execResetWaveComplete (s : State) : Host.Outcome State Fault Refusal :=
  .next <|
    if s.mode.current ≠ .strap ∨ s.boot.stage ≠ 1 ∨ !s.power.refclkLocked then s
    else
      let s0 := switchMode .loader s
      let s1 := resumeDownload (startController { s0 with
        mode := { s0.mode with steward := .rom }, boot := { s0.boot with stage := 2 },
        power := { s0.power with romSince := s0.now } })
      let p := s1.power
      if p.wdogFull && !p.cold && decide (ResetSource.watchdog ∈ p.sources) then enterRecovery s1
      else match s1.boot.straps.bootSrc.toNat with
        | 0 => enterRecovery s1
        | 1 => linksApply 0 s1
        | 2 => s1
        | _ => romChoose s1

/-- RHOPER_START: the verified image runs (04 R108; 16 R502, R504). -/
def execRhoperStart (s : State) : Host.Outcome State Fault Refusal :=
  .next <|
    if s.mode.current ≠ .loader ∨ !s.inRom ∨ !s.fw.started then s
    else
      recoverLog (!s.power.cold) { s with
        mode := { s.mode with steward := .rhoper },
        boot := { s.boot with stage := 4, slot := s.boot.slot && s.fw.image.isNone, trial := s.boot.trial && s.fw.image.isNone },
        power := { s.power with wdogArmed := true, runNs := 0, pinsConfigured := true },
        fw := { s.fw with headerStaged := [], staging := [], started := false } }

/-- Ports, links, time bases and static stations take the loaded settings as the device enters STANDBY (05 Table 5-1; 12
R362; 13 R385; 14 R428). -/
def startUnits (s : State) : State :=
  let s1 := (List.range 4).foldl (fun st i => tbConfigure i (st.tbCfg i) st) s
  let s2 := (List.range 8).foldl (fun st p => if (st.portCfg p).enable then startPort p 6 7 st else st) s1
  let s3 := s2.cfg.statics.foldl (fun st n => putStation
    { key := n.key, node := n.node, port := n.port, isStatic := true, lastSeenPeriod := 0, lastSeenAt := 0 } st) s2
  linksApply 7 s3

/-- BOOT_COMPLETE: Rhoper has brought up the Vault, loads settings and enters STANDBY (04 R111; 05 R141, R144; 07 R209, R212; 17
R524, R533 to R536; 02 R42) (DESIGN CHOICE, logs 4 and 90). -/
def execBootComplete (s : State) : Host.Outcome State Fault Refusal :=
  .next <|
    if s.mode.current ≠ .loader ∨ !s.rhoper then s
    else
      let s1 := bootSettings <| completeBurn { s with boot := { s.boot with stage := 5 } }
      let s2 := switchMode .standby { s1 with boot := { s1.boot with stage := 6 }, power := { s1.power with vaultUp := true } }
      raiseMode 2 (startUnits (governorStart s2))

/-- TYLANE_BOOT_TIMEOUT (05 R141; 15 R475). -/
def execTylaneBootTimeout (s : State) : Host.Outcome State Fault Refusal :=
  .next <|
    if s.mode.current = .loader ∧ s.inRom ∧ s.boot.straps.bootSrc = 1 ∧ !s.fw.started then
      enterRecovery (advance (s.power.romSince + 60000000000) s)
    else s

/-- BOOT_SLOT (05 R153). -/
def bootSlotBegin (e : Entry) (s : State) : State :=
  let c := e.cmd
  let slot := prmByte c 16
  checked e [.recovery] [within c 16 1 0 1, reservedBytes c 17 64]
    (fun s =>
      if s.slotVerifies slot then
        let s1 := switchMode .loader (finish e stDone [] s)
        { s1 with boot := { s1.boot with stage := 3, slot := decide (slot = 1), trial := false },
                  fw := { s1.fw with started := true, image := none } }
      else finish e stImageInvalid [] s) s

def execBootSlot (src : Source) (c : Cmd) (s : State) : Host.Outcome State Fault Refusal :=
  .next (takeCommand .bootSlot src c [] bootSlotBegin s)

/-- A pair of modes that MODE_SET moves between (05 Table 5-2). -/
def modePair (a b : Mode) : Bool :=
  match a, b with
  | .standby, .service | .standby, .diagnostic | .service, .drain | .service, .standby | .drain, .service
  | .drain, .standby | .diagnostic, .standby => true
  | _, _ => false

/-- The modes of a MODE_SET by its TARGET (05 R150; 07 R201 step 5, Table 7-7). -/
def modeSetModes (e : Entry) (target : Nat) : List Mode :=
  if 3 ≤ target ∧ target ≤ 6 then runModes
  else if e.source = .mgmt ∧ target = 255 then [.strap, .loader, .recovery, .standby, .service, .drain, .diagnostic, .halt]
  else .loader :: .recovery :: runModes

/-- MODE_SET's RESULT (05 R151). -/
def modeResult (s : State) : List Fld :=
  [⟨8, 4, modeValue s.mode⟩]

/-- A transition begins (05 R145, R154). -/
def beginTransition (target : Mode) (e : Entry) (s : State) : State :=
  { s with mode := { s.mode with transition := some { target := target, entry := some e.id, cause := 0 } } }

/-- Every remaining channel is closed as CHANNEL_CLOSE closes it (05 R152). -/
def closeAll (s : State) : State :=
  { s with voice := { s.voice with channels := s.voice.channels.map fun ch =>
      if ch.closing.isNone then { ch with closing := some (none, s.alw.frame) } else ch } }

/-- MODE_SET's parameters (05 R150). -/
def modeSetChecks (c : Cmd) : List Check :=
  let t := prmByte c 16
  let f := prmByte c 17
  [need 16 (t == 255 || (decide (3 ≤ t) && decide (t ≤ 6))), reservedBits c 17 1 3, reservedBytes c 18 64,
   need 17 (!f.testBit 0 || t == 5), need 17 (!f.testBit 1 || t == 3)]

/-- MODE_SET (05 R150 to R152, R154): a forced STANDBY waits for the last channel, with 7 in `aux`
(DEDUCED, log 45). -/
def modeSetBegin (e : Entry) (s : State) : State :=
  let c := e.cmd
  let t := prmByte c 16
  let f := prmByte c 17
  let target := modeOf t
  checked e (modeSetModes e t) (modeSetChecks c)
    (fun s =>
      let busy := !s.voice.channels.isEmpty
      if t = 255 then finish e stDone (modeResult s) s
      else if target = s.mode.current then
        let s1 := if target = .drain then { s with mode := { s.mode with autoStandby := f.testBit 0 } } else s
        finish e stDone (modeResult s1) s1
      else if !modePair s.mode.current target then finish e stDenied [] s
      else if target = .standby ∧ busy ∧ (s.mode.current = .service ∨ !f.testBit 1) then finish e stDenied [] s
      else if target = .standby ∧ busy then setEntry e.id (fun x => { x with aux := [7] }) (closeAll s)
      else beginTransition target e s) s

def modeSetObjects (_ : Cmd) : List Obj := [.mode]

def execModeSet (src : Source) (c : Cmd) (s : State) : Host.Outcome State Fault Refusal :=
  .next (takeCommand .modeSet src c (modeSetObjects c) modeSetBegin s)

/-- A forced STANDBY closes what has been admitted since, and goes on once no channel remains (05 R152); it is refused where the
device has left DRAIN (DEDUCED, log 45). -/
def settleForce (s : State) : State :=
  match s.cmds.entries.find? fun e => e.op == .modeSet && e.phase == .executing && e.aux == [7] with
  | none => s
  | some e =>
    if s.mode.transition.isSome then s
    else if !s.voice.channels.isEmpty then closeAll s
    else if s.mode.current = .drain then beginTransition .standby e s
    else finish e stDenied [] s

/-- MODE_TRANSITION_COMPLETE (05 R145, R146, R151): the command completes, then MODE_CHANGED follows. -/
def execModeTransitionComplete (s : State) : Host.Outcome State Fault Refusal :=
  .next <|
    match s.mode.transition with
    | none => s
    | some t =>
      let e := t.entry.bind s.entry
      let s1 := switchMode t.target s
      let auto := t.target == .drain && (e.any fun e => (prmByte e.cmd 17).testBit 0)
      let s2 := { s1 with mode := { s1.mode with autoStandby := auto } }
      let s3 := match e with | some e => finish e stDone (modeResult s2) s2 | none => s2
      raiseMode t.cause s3

/-- AUTO_STANDBY_ENTRY: DRAIN without a channel, with AUTO_STANDBY set (05 Table 5-2, R151, R156). A forced MODE_SET that waits
for the last channel takes the device to STANDBY itself (R152). -/
def execAutoStandbyEntry (s : State) : Host.Outcome State Fault Refusal :=
  .next <|
    let s1 := settleForce s
    if s1.mode.current = .drain && s1.mode.autoStandby && s1.voice.channels.isEmpty && s1.mode.transition.isNone then
      raiseMode 1 (switchMode .standby s1)
    else s1

/-- A frame of the coordinator's image reaches the ROM (15 R475; 17 R537): once the whole of it stands in Till staging it is
verified. -/
def bootImage (offset : Nat) (data : List Byte) (s : State) : State :=
  if s.mode.current ≠ .loader ∨ !s.inRom ∨ s.boot.straps.bootSrc ≠ 1 ∨ s.fw.started then s
  else
    let head := data.take (4096 - offset)
    let tail := data.drop (4096 - offset)
    let s1 := if offset < 4096 then stageHeader offset head s else s
    let at_ := max offset 4096 - 4096
    let s2 := if !tail.isEmpty && at_ == s1.fw.staging.length then
        { s1 with fw := { s1.fw with staging := s1.fw.staging ++ tail } } else s1
    match s2.stagedHeader with
    | some h =>
      if imageReason h s2.fw.staging s2.fuseSv = 0 then
        { s2 with fw := { s2.fw with started := true, image := some { header := h, body := s2.fw.staging } },
                  boot := { s2.boot with stage := 3 } }
      else s2
    | none => s2

/-- TYLANE_BOOT_IMAGE: a TYPE 7 frame, for this node or on its way (15 R459 to R462, R475). -/
def execTylaneBootImage (link : Fin 4) (h : TyHeader) (offset : Nat) (data : List Byte) (s : State) :
    Host.Outcome State Fault Refusal :=
  .next (deliverHere link.val h (.image offset data) (bootImage offset data) s)

end Sys2Proof.Machine
end

