-- ==== Sys2Proof/Machine/Mgmt.lean ====
section
/-!
DEFINITION. The management island (18): its SMBus and I3C target and mailbox (R554 to R557), the samples and the thermal
trip (R558 to R561; 04 R107), the TAP (R562 to R564) and the debug UART (R565).
-/
namespace Sys2Proof.Machine

/-- The management target answers: always but during a POR or a RESET_N, until it has adopted its address (18 R554; 04
R115, R116) (DEDUCED, log 25). -/
def State.islandOn (s : State) : Bool :=
  !((s.power.asserted || s.power.optionLoading) && s.power.sources.any resetsIsland)

/-- A transaction that the target does not acknowledge, for its code, its count or its PEC (18 R555). Private I3C writes
carry no PEC (R556) (DEDUCED, log 25). -/
def nack (t : SmbusWrite) (length : Nat) (s : State) : Option State :=
  if t.data.length ≠ length ∨ (length ≠ 1 ∧ t.count ≠ length) then some (count (devCtr 192) s)
  else if s.mgmt.dynamic.isNone && !t.pecOk then some (count (devCtr 193) s)
  else none

/-- A write transaction on the management target (18 R555, R557, Table 18-1): MB_CMD and MB_CTRL alone are written
(DEDUCED, log 25). -/
def mgmtWrite (t : SmbusWrite) (s : State) : State :=
  if !s.islandOn then s
  else if t.code = 0x10 then
    (nack t 64 s).getD
      (if s.mgmt.busy then count (devCtr 194) s else { s with mgmt := { s.mgmt with cmd := t.data } })
  else if t.code = 0x11 then
    (nack t 1 s).getD
      (if !((t.data.headD 0).getLsbD 0) then s
       else if s.mgmt.busy then count (devCtr 194) s
       else { s with mgmt := { s.mgmt with busy := true, taken := false } })
  else count (devCtr 192) s

/-- MB_CMD_WRITE (18 R557). -/
def execMbCmdWrite (t : SmbusWrite) (s : State) : Host.Outcome State Fault Refusal :=
  .next (mgmtWrite t s)

/-- MB_CTRL_GO (18 R557). -/
def execMbCtrlGo (t : SmbusWrite) (s : State) : Host.Outcome State Fault Refusal :=
  .next (mgmtWrite t s)

/-- MB_CMPL_READ: a Block Read of MB_CMPL; all 32 bytes of it clear DONE (18 R557). -/
def execMbCmplRead (bytes : Nat) (s : State) : Host.Outcome State Fault Refusal :=
  .next <|
    if !s.islandOn then s
    else { s with mgmt := { s.mgmt with readback := s.mgmt.cmpl.take bytes, done := s.mgmt.done && decide (bytes < 32) } }

/-- What a Block Read answers (18 Table 18-1); none where its code is not acknowledged (R555). -/
def State.mgmtBlock (s : State) (code : Nat) : Option (List Byte) :=
  match code with
  | 0x00 => some (natBytes 4 (bar0Word s 0x0))
  | 0x01 => some (natBytes 4 (bar0Word s 0x4))
  | 0x02 => some (natBytes 4 (bar0Word s 0xC))
  | 0x03 => some (natBytes 4 (bar0Word s 0x8))
  | 0x04 => some (natBytes 4 (bar0Word s 0x14))
  | 0x12 => some [BitVec.ofNat 8 (bit s.mgmt.busy + 2 * bit s.mgmt.done), s.mgmt.seq]
  | 0x13 => some s.mgmt.cmpl
  | _ => none

/-- MGMT_BUS_TIMEOUT (18 R555). -/
def execMgmtBusTimeout (s : State) : Host.Outcome State Fault Refusal :=
  .next (if s.islandOn then count (devCtr 195) s else s)

/-- ENTDAA and SETDASA give the target its dynamic address; RSTDAA returns it to SMBus (18 R556). -/
def execEntdaa (address : BitVec 7) (s : State) : Host.Outcome State Fault Refusal :=
  .next (if s.islandOn && s.mgmt.dynamic.isNone then { s with mgmt := { s.mgmt with dynamic := some address } } else s)

def execSetdasa (address : BitVec 7) (s : State) : Host.Outcome State Fault Refusal :=
  .next (if s.islandOn && s.mgmt.dynamic.isNone then { s with mgmt := { s.mgmt with dynamic := some address } } else s)

def execRstdaa (s : State) : Host.Outcome State Fault Refusal :=
  .next (if s.islandOn then { s with mgmt := { s.mgmt with dynamic := none } } else s)

/-- A GET CCC is answered once the target has a dynamic address (18 R556). -/
def ccc (bytes : List Byte) (s : State) : State :=
  if s.islandOn && s.mgmt.dynamic.isSome then { s with mgmt := { s.mgmt with readback := bytes } } else s

/-- The provisioned ID, most significant byte first (18 R556). -/
def pidBytes : List Byte :=
  (natBytes 6 (0x1F6B * 2 ^ 33 + Config.serial.toNat % 4294967296)).reverse

/-- GETPID (18 R556). -/
def execGetpid (s : State) : Host.Outcome State Fault Refusal :=
  .next (ccc pidBytes s)

/-- GETBCR and GETDCR (18 R556). -/
def execGetbcr (s : State) : Host.Outcome State Fault Refusal :=
  .next (ccc [0] s)

def execGetdcr (s : State) : Host.Outcome State Fault Refusal :=
  .next (ccc [0] s)

/-- GETSTATUS (18 R556): the target's status is a free value (DESIGN CHOICE, log 28). -/
def execGetstatus (s : State) : Host.Outcome State Fault Refusal :=
  .next (drawn (ccc (natBytes 2 (s.freeAt 110)) s))

/-- A sensor at or above a temperature in 0.125 °C; a failed one is excluded (18 R582) (DEDUCED, log 26). -/
def atLeast (limit : Int) (t : Option Int) : Bool :=
  t.any fun x => decide (limit ≤ x)

/-- THERMAL_WARN (18 R560): SENSOR, STATE and TEMP. -/
def raiseThermal (state : Nat) (temps : List (Option Int)) (s : State) : State :=
  let i := hottest temps
  raise evThermalWarn [⟨16, 1, i⟩, ⟨17, 1, state⟩, ⟨18, 2, tempField (temps.getD i none)⟩] s

/-- The warning's part of a sample (18 R560): 105 °C begins it while Rhoper runs, and 100 °C restarts its end
(DEDUCED, log 26). -/
def thermalWarn (temps : List (Option Int)) (s : State) : State :=
  let cool := if temps.any (atLeast 800) then none else (s.tele.coolSince.orElse fun _ => some s.now)
  let s1 := { s with tele := { s.tele with coolSince := cool } }
  if temps.any (atLeast 840) && !s1.tele.warn && s1.rhoper then
    raiseThermal 1 temps (count (devCtr 197) { s1 with tele := { s1.tele with warn := true } })
  else s1

/-- The trip's part of a sample (18 R561; 04 R107, R135): 125 °C on two consecutive samples resets the device, which
stays in reset until every sensor reads below 115 °C (DEDUCED, log 26). -/
def thermalTrip (temps : List (Option Int)) (s : State) : State :=
  let tripping := (List.range 9).map fun k => if atLeast 1000 (temps.getD k none) then s.tele.tripping.getD k 0 + 1 else 0
  let s1 := { s with tele := { s.tele with tripping := tripping } }
  if tripping.any (fun n => decide (2 ≤ n)) && !s1.power.thermalHold then
    let s2 := assertReset .thermal false 0 s1
    { s2 with power := { s2.power with thermalHold := true } }
  else if temps.any (atLeast 920) then s1
  else { s1 with power := { s1.power with thermalHold := false } }

/-- THERMAL_SAMPLE (18 R558): the effective readings of the sensors and rails, then the warning and the trip
(DEDUCED, log 26; DESIGN CHOICE, log 70). -/
def execThermalSample (sample : TelemetrySample) (s : State) : Host.Outcome State Fault Refusal :=
  .next <|
    let temps := (List.range 9).map fun k => (sample.temps.getD k none).map (s.effectiveTemp k)
    let rails := (List.range 4).map fun k => s.effectiveRail k (sample.rails.getD k 0)
    let s1 := { s with tele := { s.tele with temps := temps, rails := rails, gpio := sample.gpio,
                                             refclk := sample.refclk, tbref := sample.tbref } }
    thermalTrip temps (thermalWarn temps s1)

/-- THERMAL_WARN_CLEAR: every sensor has read below 100 °C for 1 s (18 R560). -/
def execThermalWarnClear (s : State) : Host.Outcome State Fault Refusal :=
  .next <|
    match s.tele.coolSince with
    | none => s
    | some t =>
      if !s.tele.warn || !s.rhoper then s
      else
        let s1 := advance (t + 1000000000) s
        raiseThermal 0 s1.tele.temps { s1 with tele := { s1.tele with warn := false } }

/-- UART_RX_BYTE (18 R565): Rhoper has read a free number of bytes since the last; a byte that finds 64 is lost
(DEDUCED, log 27). -/
def execUartRxByte (b : Byte) (s : State) : Host.Outcome State Fault Refusal :=
  .next <|
    if s.mode.steward = .stopped then s
    else
      let rx := if s.rhoper then s.testPort.uartRx.drop (s.freeAt 111 % (s.testPort.uartRx.length + 1)) else s.testPort.uartRx
      let s1 := drawn s
      if rx.length < 64 then { s1 with testPort := { s1.testPort with uartRx := rx ++ [b] } }
      else count (devCtr 198) { s1 with testPort := { s1.testPort with uartRx := rx } }

/-- The groups of pins that Table 4-6 names. -/
inductive PinGroup where
  | straps
  | gpio
  | xspi
  | intN
  | powerWarnN
  | uart
  | smbus
  | laneTransmitter (lane : Nat)
  | ppsOut (pin : Nat)
  | avsBus
  | pcieLanes
  | resetOutN
  | jtagInputs
  | tck
  | tdo
deriving DecidableEq, Repr

/-- What a pin does: pulled weakly, left alone, or driven. -/
inductive PinDrive where
  | pulledUp
  | pulledDown
  | highImpedance
  | openDrain
  | low
  | driven
deriving DecidableEq, Repr

/-- The state of a pin group during a device-level reset and after it until the ROM or Rhoper configures it, and from then on (04
R113, R116, Table 4-6; 06 R181; 18 R566) (DEDUCED, log 95). -/
def State.pinDrive (s : State) (g : PinGroup) : PinDrive :=
  match g with
  | .straps | .powerWarnN | .jtagInputs | .gpio => .pulledUp
  | .uart => if s.power.pinsConfigured then .driven else .pulledUp
  | .xspi => if s.power.asserted then .pulledUp else .driven
  | .intN => if s.intPinLow then .low else .pulledUp
  | .smbus => .openDrain
  | .laneTransmitter l => if (s.lane l).state = .off then .highImpedance else .driven
  | .ppsOut p => if s.rhoper && (s.cfg.pps.getD p {}).enable && s.tbOn (s.cfg.pps.getD p {}).tb then .driven else .highImpedance
  | .avsBus => if s.gov.started then .driven else .highImpedance
  | .pcieLanes => if s.power.pcieReleased then .driven else .highImpedance
  | .resetOutN => if s.power.resetOutLow then .low else .openDrain
  | .tck => .pulledDown
  | .tdo => .highImpedance

/-- The pins leave the device: lanes, ports, links and the PCIe link stop carrying traffic (18 R564)
(DESIGN CHOICE, log 76). -/
def takePins (s : State) : State :=
  let s1 := (List.range 8).foldl (fun st p => lockLost p false st) s
  let s2 := (List.range 40).foldl (fun st l => cdrLost l st) s1
  { s2 with testPort := { s2.testPort with pinsTaken := true }, link := { s2.link with up := false } }

/-- What TDI and TDO shift through under an instruction: every opcode that Table 18-4 does not list acts as BYPASS (18 R562). -/
inductive TapRegister where
  | boundary
  | idcode (value : Word32)
  | bypass
deriving DecidableEq, Repr

def tapRegister (ir : BitVec 8) : TapRegister :=
  if ir = 0x01 then .idcode 0x28160B67
  else if ir = 0x00 ∨ ir = 0x02 ∨ ir = 0x08 ∨ ir = 0x09 then .boundary
  else .bypass

/-- A TAP instruction at Update-IR (18 R562 to R564) (DESIGN CHOICE, log 76). -/
def tapLoad (ir : BitVec 8) (s : State) : State :=
  let s1 := { s with testPort := { s.testPort with ir := ir } }
  if takesPins ir && !s.testPort.pinsTaken then takePins s1 else s1

def execExtest (s : State) : Host.Outcome State Fault Refusal :=
  .next (tapLoad 0x00 s)

def execIdcode (s : State) : Host.Outcome State Fault Refusal :=
  .next (tapLoad 0x01 s)

def execSamplePreload (s : State) : Host.Outcome State Fault Refusal :=
  .next (tapLoad 0x02 s)

def execClamp (s : State) : Host.Outcome State Fault Refusal :=
  .next (tapLoad 0x04 s)

def execHighz (s : State) : Host.Outcome State Fault Refusal :=
  .next (tapLoad 0x05 s)

def execExtestPulse (s : State) : Host.Outcome State Fault Refusal :=
  .next (tapLoad 0x08 s)

def execExtestTrain (s : State) : Host.Outcome State Fault Refusal :=
  .next (tapLoad 0x09 s)

def execBypass (s : State) : Host.Outcome State Fault Refusal :=
  .next (tapLoad 0xFF s)

/-- TRST_N_ASSERT: Test-Logic-Reset selects IDCODE (18 R583, Table 18-4). -/
def execTrstNAssert (s : State) : Host.Outcome State Fault Refusal :=
  .next { s with testPort := { s.testPort with ir := 1 } }

end Sys2Proof.Machine
end

