-- ==== Sys2Proof/Machine/Period.lean ====
section
/-!
DEFINITION. PERIOD_BOUNDARY: where the boundaries fall (03 R71 to R73), what the old period counts and reports (R77, R88 to
R90), the refill (R77, R80, R86), the governor's turn (02 R38, R43), calibration's idle counts (03 R82, R83), and at a frame
boundary the frame tasks and every change that waits for one (08 R238, R245).
-/
namespace Sys2Proof.Machine

/-- One period in 1/65,536 ns of a time base (03 R71). -/
def periodUnits : Nat := 125000 * 65536

/-- Lengths of the free-run periods in ns: 19,531, 19,531, 19,531 and 19,532 cycles of 6.4 ns, whose ends are rounded down
to the model's clock (03 R71) (DEDUCED, log 21). -/
def freeRunNs (phase : Nat) : Nat :=
  [124998, 124998, 124999, 125005].getD phase 125000

/-- The quotient rounded up. -/
def ceilInt (x : Int) (d : Nat) : Int :=
  -((-x) / (d : Int))

/-- The number of the TB0 multiple at which the next boundary falls: the next one, or at a realignment the first that
lies half a period after the last boundary (03 R71, R72) (DEDUCED, log 21). -/
def State.nextMultiple (s : State) : Nat :=
  let b := s.tb 0
  let last : Int := (s.tbValue 0 : Int) - (tbAdvance (s.now - s.alw.lastBoundary) b.rate : Int)
  let half : Int := (periodUnits / 2 : Nat)
  if s.alw.realign then (ceilInt (last + half) periodUnits).toNat
  else ((last + half) / (periodUnits : Int) + 1).toNat

/-- The instant of the next boundary, and whether it is a frame boundary (03 R71 to R73). When TB0 starts, steps or is set
after the new reference's first boundary at 62.5 µs or more has already passed, the boundary falls at once, at an instant at
which TB0 reads no multiple of the period (DEDUCED, logs 21 and 64; DESIGN CHOICE, log 87). -/
def State.nextBoundary (s : State) : Nat × Bool :=
  if s.tbOn 0 then
    let n := s.nextMultiple
    let wait := n * periodUnits - s.tbValue 0
    (s.now + tbDelay (ceilDiv wait 65536) (s.tb 0).rate, n % 80 = 0)
  else if s.alw.realign then (s.alw.lastBoundary + freeRunNs 0, true)
  else (s.alw.lastBoundary + freeRunNs s.alw.freeRunPhase, s.alw.sinceFrame + 1 = 80)

/-- A class keeps a request waiting on a resource; on DISPATCH also by a task that a free engine may not take (03 R18,
R78) (DEDUCED, log 22). -/
def State.waits (s : State) (cls res : Nat) : Bool :=
  !(s.balance cls res).waiting.isEmpty
    || (decide (res = 2) && (List.range 64).any fun e =>
      let en := s.engine e
      !en.retired && !s.blockInReset e && en.running.isNone && !en.calSlice
        && (headTask en.ready).any fun t => taskClass t == cls)

/-- ALLOWANCE_SHORT and FLOOR_MISSED, each at most once a second (03 R90). -/
def raiseShort (code cls res limit : Nat) (s : State) : State :=
  let b := s.balance cls res
  if b.raisedAt.any fun t => decide (s.now < t + 1000000000) then s
  else raise code
    [⟨16, 1, cls⟩, ⟨17, 1, res⟩, ⟨18, 2, wait1s s.alw.period b⟩, ⟨20, 4, b.lastSpend⟩, ⟨24, 4, limit⟩]
    (setBalance cls res (fun b => { b with raisedAt := some s.now }) s)

/-- A class and resource at the end of a period (03 R88 to R90), with TALLY_HALF where the period's grants have taken
ALLOW_SPEND over half its range (12 R372) (DEDUCED, log 22; DESIGN CHOICE, log 17). -/
def endEntry (s : State) (i : Nat) : State :=
  let cls := i / 4
  let res := i % 4
  let b := s.balance cls res
  let waits := s.waits cls res
  let missed := waits && background cls && decide (0 < b.c)
  let f := s.inForce cls res
  let periods := b.waitPeriods.filter fun p => decide (s.alw.period < p + 8000)
  let s1 := setBalance cls res (fun b =>
    { b with lastSpend := (b.s / 256).toNat, lastFloorOpen := background cls && decide (0 < b.c), lastDry := decide (b.b ≤ 0),
             waitPeriods := if waits then periods ++ [s.alw.period] else periods }) s
  let spent := s.counter (allowCtr cls res 0)
  let s1' := if 2 ^ 47 ≤ spent ∧ spent < 2 ^ 47 + (b.s / 256).toNat then
      raise evTallyHalf (tallyHalfData (allowCtr cls res 0)) s1 else s1
  let s2 := if waits then count (allowCtr cls res 1) s1' else s1'
  let s3 := if missed then count (allowCtr cls res 2) s2 else s2
  if waits && !background cls then raiseShort evAllowanceShort cls res f.allow s3
  else if missed then raiseShort evFloorMissed cls res f.floor s3
  else s3

/-- The refill of one balance (03 R77, R94). -/
def refillBalance (i : Nat) (f : AllowanceCfg) (b : Balance) : Balance :=
  { b with b := min (b.b + f.allow) (2 * f.allow),
           c := if background (i / 4) then min (b.c + f.floor) (2 * f.floor) else b.c, s := 0 }

/-- The refill at a boundary, with the allowances that come into force there (03 R77, R80, R86). -/
def refillAll (s : State) : State :=
  let force := if s.running then s.cfg.allowances else defaultAllowances
  { s with alw := { s.alw with
      force := force,
      balances := s.alw.balances.mapIdx fun i b => refillBalance i (force.getD i { allow := 0, floor := 0 }) b } }

/-- The commands whose allowances are now in force complete (03 R86, R87; 07 R215). -/
def settleAllowances (s : State) : State :=
  s.alw.setEntries.foldl (fun st id =>
    match st.entry id with
    | some e => finish e stDone [] st
    | none => st) { s with alw := { s.alw with setEntries := [] } }

/-- An engine in service held no granted task in the period that ends (03 R82, R83). -/
def State.someIdle (s : State) : Bool :=
  (List.range 64).any fun e => s.inService e && !(s.engine e).busyNow

/-- Calibration's counts at a boundary (03 R82, R83, R88). -/
def calPeriod (s : State) : State :=
  let idle := s.someIdle
  let a := s.alw
  { s with
    board := { s.board with engines := s.board.engines.map fun x =>
      { x with busyPrev := x.busyNow, busyNow := x.running.isSome || x.parked.isSome } },
    alw := { a with calIdleRun := if idle then 0 else a.calIdleRun + 1,
                    calCount := if idle then 0 else a.calCount + 1 } }

/-- Moves at a frame boundary: one not committed by n + 2 fails, and one past frame n starts its copy (15 R473)
(DEDUCED, log 64). -/
def moveBoundary (s : State) : State :=
  s.voice.channels.foldl (fun st ch =>
    match ch.outMove with
    | none => st
    | some m =>
      if !m.admitted then st
      else if m.lastFrame + 2 ≤ st.alw.frame then failMove ch m st
      else if !m.copied && decide (m.lastFrame + 1 ≤ st.alw.frame) then copyMove ch m st
      else st) s

/-- The tasks of older frames that have not been granted are discarded (08 R243, R245, R254). -/
def discardOld (s : State) : State :=
  (List.range 64).foldl (fun st e =>
    let old := (st.engine e).ready.filter fun t => decide (t.frame < st.alw.frame)
    let s1 := setEngine e (fun x => { x with ready := x.ready.filter fun t => !decide (t.frame < st.alw.frame) }) st
    old.foldl (fun st t => loseFrame t.channel t.frame e (if t.kind = .frame then st else freeDescriptor st)) s1) s

/-- Everything of one leg that waits for a frame boundary (09 R286 to R288; 10 R303, R311; 11 R347). -/
def legBoundary (id : Nat) (s : State) (l : Leg) : State :=
  let s1 := match s.channel id with | some ch => jbBoundary ch l s | none => s
  toneStops id l (detectBoundary id l (meterBoundary id l (fcuBoundary id l s1)))

/-- Everything of a channel that waits for a frame boundary (09 R281). -/
def channelBoundary (s : State) (ch : Channel) : State :=
  [Leg.a, Leg.b].foldl (legBoundary ch.id) (programBoundary ch.id s)

/-- Packets move from the depth pool as the frame begins (11 R336). -/
def refillLegs (s : State) (ch : Channel) : State :=
  refill ch.id .b (refill ch.id .a s)

/-- The task that the channel runs is of a frame before the last: the last frame's own never became ready (08 R245). -/
def State.taskBehind (s : State) (id : Nat) : Bool :=
  s.board.engines.any fun x =>
    (x.running.toList ++ x.parked.toList).any fun t => t.channel == id && decide (t.frame + 2 ≤ s.alw.frame)

/-- A channel's task of the frame that begins: on its engine's list, as a restore where it has just arrived, or lost with
the engine that it waits to leave (08 R238, R241, R245; 15 R473; 16 R493). -/
def readyChannel (s : State) (ch : Channel) : State :=
  if !runsFrame ch s.alw.frame then s
  else if s.taskRunning ch.id then
    if s.taskBehind ch.id && runsFrame ch (s.alw.frame - 1) then loseFrame ch.id (s.alw.frame - 1) ch.engine s else s
  else if (s.engine ch.engine).retired then loseFrame ch.id s.alw.frame ch.engine s
  else if ch.move.any (·.restore) then
    readyRestore ch.id ch.engine s.alw.frame s
  else readyFrame ch s

/-- Channels in ascending order of engine and slot (08 R238). -/
def slotOrder (a b : Channel) : Bool :=
  decide (128 * a.engine + a.slot ≤ 128 * b.engine + b.slot)

/-- The frame count and what is fixed at a frame boundary (03 R73; 13 R399). -/
def frameStart (s : State) : State :=
  { s with
    alw := { s.alw with frame := s.alw.frame + 1, frameAt := s.now, sinceFrame := 0,
                        calForcedDue := s.alw.calForcedDue || decide (64 ≤ s.alw.calCount) },
    time := { s.time with frameValues := (List.range 4).map s.tbValue },
    board := { s.board with retriesPlaced := [] } }

/-- The channels' own work at a frame boundary. -/
def frameWork (s2 : State) : State :=
  let s3 := toneStarts (s2.voice.channels.foldl channelBoundary s2)
  let s4 := mixBoundary { s3 with voice := { s3.voice with phaseInForce := s3.cfg.phase, levelInForce := s3.cfg.level } }
  let s5 := s4.voice.channels.foldl refillLegs s4
  (sortBy slotOrder s5.voice.channels).foldl readyChannel s5

/-- A frame boundary (03 R73; 08 R238, R245; 09 R275; 10 R303). -/
def frameBoundary (s : State) : State :=
  frameWork (discardOld (settleForce (closeDue (moveBoundary (frameStart s)))))

/-- The new period begins (03 R71, R72, R81, R89). -/
def beginPeriod (s : State) : State :=
  let a := s.alw
  let onTb0 := s.tbOn 0
  let s2 := loadOffsets { s with alw := { a with
    period := a.period + 1, lastBoundary := s.now, onTb0 := onTb0, lastOnTb0 := a.onTb0, lastForce := a.force,
    realign := false, sinceFrame := a.sinceFrame + 1,
    freeRunPhase := if onTb0 then 0 else if a.realign then 1 else (a.freeRunPhase + 1) % 4 } }
  if a.realign then count (devCtr 14) s2 else s2

/-- The pace monitors' counts of a period; without REFCLK the gate falls back and the reading says so (02 R38). -/
def storeGates (gate : List (BitVec 16)) (s : State) : State :=
  let reading (m : Nat) : BitVec 16 := BitVec.ofNat 16 ((gate.getD m 0).toNat % 32768 + 32768 * bit (!s.tele.refclk))
  { s with gov := { s.gov with gate := (List.range 72).map reading } }

/-- A running port's errors of a period (12 R371); codewords only with RS-FEC. -/
def countPortErrors (p : Nat) (x : PortErrors) (s : State) : State :=
  if !s.portRuns p then s
  else
    let s1 := countBy (portCtr p 46) x.blocks s
    if (s.portCfg p).fec then
      countBy (portCtr p 52) x.fecSymbols (countBy (portCtr p 51) x.fecUncorrected (countBy (portCtr p 50) x.fecCorrected s1))
    else s1

/-- An aligned T-lane's errors of a period (14 R432). -/
def countLaneErrors (i : Nat) (x : Nat × Nat) (s : State) : State :=
  if (s.lane (tLane i)).aligned then countBy (laneCtr (tLane i) 3) x.2 (countBy (laneCtr (tLane i) 2) x.1 s) else s

/-- What the hardware has found in a period is counted (02 R55; 12 R371; 14 R432) (DESIGN CHOICE, log 88). -/
def countFindings (x : PeriodFindings) (s : State) : State :=
  let s1 := countBy (devCtr 11) x.stewardCe (countBy (devCtr 5) x.crossingCe s)
  let s2 := (x.ports.take 8).zipIdx.foldl (fun st p => countPortErrors p.2 p.1 st) s1
  (x.lanes.take 32).zipIdx.foldl (fun st p => countLaneErrors p.2 p.1 st) s2

/-- PERIOD_BOUNDARY, with the pace monitors' readings of the period (02 R38; 03 R71 to R95). -/
def periodBoundary (gate : List (BitVec 16)) (s : State) : State :=
  let next := s.nextBoundary
  let s1 := beginPeriod ((List.range 32).foldl endEntry (advance next.1 s))
  let s2 := calPeriod (storeGates gate s1)
  let s3 := governorPeriod (settleAllowances (refillAll s2))
  let s4 := if next.2 then frameBoundary s3 else s3.voice.channels.foldl refillLegs s3
  grantAll (beginIterations (serveHost (s4.balance 2 1).waiting s4))

/-- In HALT the rings of the pace monitors keep running, and nothing else of the core does (02 R40; 03 R81)
(DESIGN CHOICE, logs 3 and 70). -/
def execPeriodBoundary (found : PeriodFindings) (s : State) : Host.Outcome State Fault Refusal :=
  .next (
    if s.alw.running then periodBoundary found.gate (countFindings found s)
    else if s.mode.current = .halt then storeGates found.gate s
    else s)

end Sys2Proof.Machine
end

