-- ==== Sys2Proof/Machine/Transport.lean ====
section
/-!
DEFINITION. The host transport (06): queue configuration, doorbells, the cancel race, the direct mailbox, the interrupt
registers, coalescing, failed reads, the link, RMEM (04 R123, R124) and RESET_CAUSE as the host writes them, and the
diagnostic window (07 R221).
-/
namespace Sys2Proof.Machine

def setCq (q : Nat) (f : CommandQueue → CommandQueue) (s : State) : State :=
  { s with ep := { s.ep with cq := upd s.ep.cq q f } }

def setCc (q : Nat) (f : CompletionQueue → CompletionQueue) (s : State) : State :=
  { s with ep := { s.ep with cc := upd s.ep.cc q f } }

/-- A CQ's CFG write (06 R169, R170, Table 6-6). -/
def cqCfgWrite (q w : Nat) (s : State) : State :=
  let c := s.ep.cq.getD q {}
  let weight := bitsOf w 16 4
  let ccSel := bitsOf w 8 2
  let log2 := bitsOf w 4 4
  if c.enable then
    if w % 2 = 1 then setCq q (fun c => { c with weight := weight }) s
    else setCq q (fun c => { c with weight := weight, enable := false, staging := [], cancelled := [],
                                    fetchHold := false }) s
  else if log2 < 4 ∨ 12 < log2 then s
  else if w % 2 = 0 then setCq q (fun c => { c with weight := weight, ccSel := ccSel, log2 := log2 }) s
  else if !s.running || !(s.ep.cc.getD ccSel {}).enable then s
  else setCq q (fun c => { c with weight := weight, ccSel := ccSel, log2 := log2, enable := true, err := false,
                                  fetchHold := false, head := 0, tail := 0, staging := [], fetchFailed := false,
                                  cancelled := [] }) s

/-- A CC's CFG write (06 R169, R170, Table 6-7). -/
def ccCfgWrite (q w : Nat) (s : State) : State :=
  let c := s.ep.cc.getD q {}
  let us := bitsOf w 24 8
  let n := bitsOf w 16 8
  let log2 := bitsOf w 4 4
  if c.enable then
    if w % 2 = 1 then setCc q (fun c => { c with coalUs := us, coalCount := n }) s
    else if s.ep.cq.any fun x => x.enable && x.ccSel == q then s
    else setCc q (fun c => { c with coalUs := us, coalCount := n, enable := false, unsignalled := 0 }) s
  else if log2 < 4 ∨ 12 < log2 then s
  else if w % 2 = 0 then setCc q (fun c => { c with coalUs := us, coalCount := n, log2 := log2 }) s
  else if !s.running then s
  else setCc q (fun c => { c with coalUs := us, coalCount := n, log2 := log2, enable := true, head := 0, tail := 0,
                                  phase := true, unsignalled := 0 }) s

/-- The EQ's CFG write (06 R169, R170, R176, Table 6-8). -/
def eqCfgWrite (w : Nat) (s : State) : State :=
  let us := bitsOf w 24 8
  let n := bitsOf w 16 8
  let log2 := bitsOf w 4 4
  if s.eq.enable then
    if w % 2 = 1 then { s with eq := { s.eq with coalUs := us, coalCount := n } }
    else { s with eq := { s.eq with coalUs := us, coalCount := n, enable := false, unsignalled := [] } }
  else if log2 < 6 ∨ 14 < log2 then s
  else if w % 2 = 0 then { s with eq := { s.eq with coalUs := us, coalCount := n, log2 := log2 } }
  else if !s.running then s
  else flushLost { s with eq := { s.eq with coalUs := us, coalCount := n, log2 := log2, enable := true, head := 0,
                                            tail := 0, phase := true, unsignalled := [] } }

/-- A write of a queue's CFG (06 R169). -/
def queueCfgWrite (q w : Nat) (s : State) : State :=
  if !s.endpointOn then s
  else
    let s1 := hostConfigures s
    if q < 4 then cqCfgWrite q w s1
    else if q < 8 then ccCfgWrite (q - 4) w s1
    else eqCfgWrite w s1

/-- A write of a queue's BASE_LO or BASE_HI: ignored while the queue runs (06 R169, Table 6-5). -/
def queueBaseWrite (q : Nat) (high : Bool) (w : Nat) (s : State) : State :=
  let v : Word32 := BitVec.ofNat 32 (if high then w else w / 4096 * 4096)
  if !s.endpointOn then s
  else if q < 4 then
    setCq q (fun c => if c.enable then c else if high then { c with baseHi := v } else { c with baseLo := v }) s
  else if q < 8 then
    setCc (q - 4) (fun c => if c.enable then c else if high then { c with baseHi := v } else { c with baseLo := v }) s
  else if s.eq.enable then s
  else if high then { s with eq := { s.eq with baseHi := v } }
  else { s with eq := { s.eq with baseLo := v } }

/-- QUEUE_ENABLE: a CFG write with ENABLE set (06 R170). -/
def execQueueEnable (q : Fin 9) (cfg : Word32) (s : State) : Host.Outcome State Fault Refusal :=
  .next (queueCfgWrite q.val (cfg ||| 1).toNat s)

/-- QUEUE_DISABLE: a CFG write with ENABLE clear (06 R170, R191). -/
def execQueueDisable (q : Fin 9) (cfg : Word32) (s : State) : Host.Outcome State Fault Refusal :=
  .next (queueCfgWrite q.val (cfg &&& 0xFFFFFFFE).toNat s)

/-- A refused doorbell (06 R172). -/
def refuseDoorbell (s : State) : State :=
  irqMessage 1 s.irq.dbErr (count (devCtr 18) { s with irq := { s.irq with dbErr := true } })

/-- A CQ tail doorbell (06 R171, R172, R188). A word with a nonzero bit above its field is a value beyond the ring and so
refused (DESIGN CHOICE, log 81). -/
def cqTailWrite (q w : Nat) (s : State) : State :=
  let c := s.ep.cq.getD q {}
  if !s.endpointOn then s
  else if !c.enable || decide (2 ^ c.log2 ≤ w) then refuseDoorbell s
  else setCq q (fun c => { c with tail := w }) s

def execCqTailDoorbell (q : Fin 4) (w : Word32) (s : State) : Host.Outcome State Fault Refusal :=
  .next (cqTailWrite q.val w.toNat s)

/-- A head lies in the range from the present HEAD to TAIL of a ring (06 R172); a word with a nonzero bit above its field does
not (DESIGN CHOICE, log 81). -/
def headInRange (size head tail w : Nat) : Bool :=
  decide (w < size) && decide ((w + size - head) % size ≤ (tail + size - head) % size)

/-- The CQs of a completion queue no longer wait for its space once a slot is free (06 R174). -/
def releaseHold (cc : Nat) (s : State) : State :=
  if s.reserved cc < (s.ep.cc.getD cc {}).free then
    { s with ep := { s.ep with cq := s.ep.cq.map fun c => if c.ccSel = cc then { c with fetchHold := false } else c } }
  else s

/-- A completion head doorbell (06 R172, R174). -/
def ccHeadWrite (q w : Nat) (s : State) : State :=
  let c := s.ep.cc.getD q {}
  if !s.endpointOn then s
  else if !c.enable || !headInRange (2 ^ c.log2) c.head c.tail w then refuseDoorbell s
  else releaseHold q (setCc q (fun c => { c with head := w }) s)

def execCcHeadDoorbell (q : Fin 4) (w : Word32) (s : State) : Host.Outcome State Fault Refusal :=
  .next (ccHeadWrite q.val w.toNat s)

/-- The event head doorbell: freed slots, and EVENTS_LOST when it is due (06 R172, R176). -/
def eqHeadWrite (w : Nat) (s : State) : State :=
  if !s.endpointOn then s
  else if !s.eq.enable || !headInRange (2 ^ s.eq.log2) s.eq.head s.eq.tail w then refuseDoorbell s
  else flushLost { s with eq := { s.eq with head := w } }

def execEqHeadDoorbell (w : Word32) (s : State) : Host.Outcome State Fault Refusal :=
  .next (eqHeadWrite w.toNat s)

/-- An entry index is pending in a CQ (06 R172). -/
def CommandQueue.isPending (c : CommandQueue) (index : Nat) : Bool :=
  let size := 2 ^ c.log2
  decide ((index + size - c.head) % size < (c.tail + size - c.head) % size)

/-- The cancel race's decision (06 R178, R179); bits above INDEX and QUEUE are ignored (DESIGN CHOICE, log 81). -/
def cancelWrite (w : Nat) (s : State) : State :=
  let q := bitsOf w 12 2
  let i := bitsOf w 0 12
  let c := s.ep.cq.getD q {}
  if !s.endpointOn then s
  else
    let result := if !c.enable || decide (2 ^ c.log2 ≤ i) then stBadArg
                  else if c.isPending i then stCancelled else stTooLate
    let s1 := if result = stCancelled ∧ i ∉ c.cancelled then setCq q (fun c => { c with cancelled := c.cancelled ++ [i] }) s
              else s
    { s1 with ep := { s1.ep with cancel := { seq := s1.ep.cancel.seq + 1, result := result,
                                             queue := BitVec.ofNat 2 q, index := BitVec.ofNat 12 i } } }

def execCmdCancel (w : Word32) (s : State) : Host.Outcome State Fault Refusal :=
  .next (cancelWrite w.toNat s)

/-- INT_STATUS: a 1 clears EQ_OVERFLOW, DMA_ERR or DB_ERR; FATAL is read-only (06 Table 6-10). -/
def intStatusWrite (w : Nat) (s : State) : State :=
  if !s.endpointOn then s
  else { s with irq := { s.irq with dbErr := s.irq.dbErr && !w.testBit 1, dmaErr := s.irq.dmaErr && !w.testBit 2,
                                    eqOverflow := s.irq.eqOverflow && !w.testBit 3 } }

def execIntStatusClear (w : Word32) (s : State) : Host.Outcome State Fault Refusal :=
  .next (intStatusWrite w.toNat s)

/-- INT_TEST: one message on the vector written (06 Table 6-10); bits above VECTOR are ignored (DESIGN CHOICE, log 81). -/
def intTestWrite (w : Nat) (s : State) : State :=
  if !s.endpointOn then s else sendVector (w % 64) s

def execIntTest (w : Word32) (s : State) : Host.Outcome State Fault Refusal :=
  .next (intTestWrite w.toNat s)

/-- Bytes put into a fixed region, what falls outside it lost. -/
def patch (region : List Byte) (at_ : Nat) (data : List Byte) : List Byte :=
  region.mapIdx fun i old => if at_ ≤ i ∧ i < at_ + data.length then data.getD (i - at_) old else old

/-- A write to DMB_CMD of any size and alignment (06 R162, R166). -/
def dmbCmdWrite (at_ : Nat) (data : List Byte) (s : State) : State :=
  if !s.endpointOn || s.ep.dmb.busy then s
  else { s with ep := { s.ep with dmb := { s.ep.dmb with cmd := patch s.ep.dmb.cmd at_ data } } }

def execDmbCmdWrite (offset : Fin 64) (data : List Byte) (s : State) : Host.Outcome State Fault Refusal :=
  .next (dmbCmdWrite offset.val data s)

/-- DMB_CTRL.GO (06 R166). -/
def dmbGoWrite (s : State) : State :=
  if !s.endpointOn || s.ep.dmb.busy then s
  else
    let s1 := hostConfigures s
    { s1 with ep := { s1.ep with dmb := { s1.ep.dmb with busy := true, taken := false } } }

def execDmbGo (s : State) : Host.Outcome State Fault Refusal :=
  .next (dmbGoWrite s)

/-- DMB_STATUS.DONE cleared by a 1 (06 Table 6-4). -/
def dmbDoneWrite (s : State) : State :=
  if !s.endpointOn then s
  else { s with ep := { s.ep with dmb := { s.ep.dmb with done := false } } }

def execDmbDoneClear (s : State) : Host.Outcome State Fault Refusal :=
  .next (dmbDoneWrite s)

/-- COALESCE_TIMEOUT: COAL_US after the first unsignalled entry the vector is signalled (06 R180). -/
def coalesce (v : Nat) (s : State) : State :=
  if v < 4 then
    let c := s.ep.cc.getD v {}
    if c.unsignalled = 0 then s
    else sendVector v (setCc v (fun c => { c with unsignalled := 0 })
      (advance (c.firstUnsignalledAt + 1000 * c.coalUs) s))
  else match s.eq.unsignalled.find? fun b => b.vector == v with
    | none => s
    | some b =>
      let s1 := advance (b.firstAt + 1000 * s.eq.coalUs) s
      sendVector v { s1 with eq := { s1.eq with unsignalled := s1.eq.unsignalled.filter fun x => x.vector != v } }

def execCoalesceTimeout (vector : Fin 64) (s : State) : Host.Outcome State Fault Refusal :=
  .next (coalesce vector.val s)

/-- The number of pending entries of a CQ. -/
def CommandQueue.pendingCount (c : CommandQueue) : Nat :=
  (c.tail + 2 ^ c.log2 - c.head) % 2 ^ c.log2

/-- The queue engine has a prefetch read under way: pending entries beyond those staged, at most 16 in staging, no failure, a
link that carries reads, and block 83 free to take new work, in a mode that runs the queues (04 R118; 05 R148; 06 R161, R173,
R182). -/
def State.fetching (s : State) (q : Nat) : Bool :=
  let c := s.ep.cq.getD q {}
  s.endpointOn && !s.blockInReset 83 && s.running && !s.linkHolds && s.ep.config.busMaster && c.enable && !c.fetchFailed
    && decide (c.staging.length < c.pendingCount) && decide (c.staging.length < 16)

/-- The host address of the entry that the prefetch reads next. -/
def CommandQueue.fetchAddress (c : CommandQueue) : Nat :=
  baseAddr c.baseLo c.baseHi + 64 * ((c.head + c.staging.length) % 2 ^ c.log2)

/-- A command that waits for its data from host memory (06 R182): `aux` begins with 1. -/
def awaitsData (e : Entry) : Bool :=
  e.phase = .executing && e.aux.head? == some 1 && (e.op = .srtpKeySet || e.op = .imageDownload)

/-- The parameter offset of the address field that names the data (07 R196). -/
def dataField (op : Op) : Nat :=
  if op = .srtpKeySet then 24 else 32

/-- DMA_ERR_INFO.KIND (06 Table 6-10). -/
def dmaKind : DmaErrorKind → Nat
  | .unsupportedRequest => 1
  | .completerAbort => 2
  | .poisoned => 3
  | .completionTimeout => 4

/-- DMA_ERR: the first failure since it was clear is captured, and the failure counted (06 R182, Table 6-10). -/
def captureDmaError (address source : Nat) (kind : DmaErrorKind) (s : State) : State :=
  let i := s.irq
  let i' := if i.dmaErr then i
    else { i with dmaErr := true, dmaErrAddr := BitVec.ofNat 64 address, dmaErrKind := BitVec.ofNat 4 (dmaKind kind),
                  dmaErrSource := BitVec.ofNat 4 source }
  irqMessage 2 i.dmaErr (count (devCtr 20) { s with irq := i' })

/-- HOST_DMA_READ_FAIL (06 R182) (DESIGN CHOICE, log 78). -/
def execHostDmaReadFail (target : DmaTarget) (kind : DmaErrorKind) (s : State) : Host.Outcome State Fault Refusal :=
  .next <|
    match target with
    | .fetch q =>
      if s.fetching q.val then
        captureDmaError (s.ep.cq.getD q.val {}).fetchAddress q.val kind
          (setCq q.val (fun c => { c with fetchFailed := true, err := true }) s)
      else s
    | .command id =>
      match s.entry id with
      | some e =>
        if awaitsData e then
          finishBadArg e (dataField e.op) (captureDmaError (prm e.cmd (dataField e.op) 8) 4 kind s)
        else s
      | none => s

/-- What the link held is issued in order (06 R185). -/
def releaseHeld (s : State) : State :=
  if s.linkHolds then s
  else flushLost { s with link := { (s.link.held.foldl deliver s.link) with held := [] },
                          eq := { s.eq with heldWhileDown := 0 } }

/-- PCIE_LINK_DOWN and PCIE_LINK_UP (06 R185); no link comes up while the TAP holds the pins (18 R564). -/
def execPcieLinkDown (s : State) : Host.Outcome State Fault Refusal :=
  .next { s with link := { s.link with up := false } }

def execPcieLinkUp (s : State) : Host.Outcome State Fault Refusal :=
  .next (if s.endpointOn && !s.testPort.pinsTaken then
    releaseHeld { s with link := { s.link with up := true } } else s)

/-- PCIE_PM_STATE_CHANGE (06 R160, R161). -/
def execPciePmStateChange (d3hot : Bool) (s : State) : Host.Outcome State Fault Refusal :=
  .next (if s.endpointOn then releaseHeld { s with link := { s.link with d3hot := d3hot } } else s)

/-- RETRY_ENTRY_LAPSE: 60 s after its final completion a record is gone (07 R207). -/
def execRetryEntryLapse (id : BitVec 64) (s : State) : Host.Outcome State Fault Refusal :=
  .next <|
    match s.cmds.retry.find? fun r => r.id == id && r.result.isSome with
    | none => s
    | some r =>
      let s1 := advance (r.finishedAt + 60000000000) s
      { s1 with cmds := { s1.cmds with retry := s1.cmds.retry.filter fun x => x.entry != r.entry } }

/-- RESET_CAUSE.HISTORY cleared by ones (04 Table 4-10). -/
def resetCauseWrite (w : Nat) (s : State) : State :=
  { s with cause := { s.cause with history := s.cause.history &&& ~~~(BitVec.ofNat 9 (bitsOf w 8 9)) } }

def execResetCauseWrite (w : Word32) (s : State) : Host.Outcome State Fault Refusal :=
  .next (resetCauseWrite w.toNat s)

/-- A host write within one 64-bit word of RMEM (04 R124): a word with an uncorrectable error takes only a whole-word
write, which repairs it. -/
def rmemWordWrite (at_ : Nat) (data : List Byte) (s : State) : State :=
  let w := at_ / 8
  if w ∈ s.rmemBad then
    if data.length = 8 then
      { s with rmem := swrite s.rmem at_ data, rmemBad := s.rmemBad.filter fun x => x != w }
    else s
  else { s with rmem := swrite s.rmem at_ data }

/-- A host write to RMEM, word by word; the crash record's region is read-only to the host (04 R123, R124). The words
that it covers number at most `n`. -/
def rmemWrite : Nat → Nat → List Byte → State → State
  | 0, _, _, s => s
  | n + 1, at_, data, s =>
    if data.isEmpty then s
    else
      let k := 8 - at_ % 8
      let s1 := if at_ < 0xF000 then rmemWordWrite at_ (data.take k) s else s
      rmemWrite n (at_ + k) (data.drop k) s1

/-- RMEM_WRITE: blocked from reset assertion until release (04 R124). -/
def execRmemWrite (offset : Nat) (data : List Byte) (s : State) : Host.Outcome State Fault Refusal :=
  .next (if s.power.asserted || s.power.optionLoading then s else rmemWrite (data.length + 1) offset data s)

/-- The live bytes of a source from an address on (07 R221). -/
def State.liveBytes (s : State) (vault : Bool) (address n : Nat) : List Byte :=
  (List.range n).map fun i => Config.liveByte vault (address + i) s.freeCount

/-- What a read of BAR2 returns without waiting: RMEM, and zeros where the window is closed or unmapped (06 R163, R164; 07
R221). -/
def bar2Quiet (s : State) (offset length : Nat) : List Byte :=
  (List.range length).map fun i => if offset + i < 65536 then sget 0 s.rmem (offset + i) else 0

/-- DIAG_WINDOW_READ: a read of BAR2 from `offset` on; byte 0x1_0000 + k of the open window reads byte BASE + k of its source.
The read is charged to HOSTDMA and completes once every access is granted; an uncorrectable error is counted (07 R221; 06
R163; 03 R18, R76) (DESIGN CHOICE, logs 17 and 94). -/
def execDiagWindowRead (offset length : Nat) (uncorrectable : Bool) (s : State) : Host.Outcome State Fault Refusal :=
  .next <|
    match s.window with
    | some (vault, base) =>
      if s.mode.current = .diagnostic ∧ 0x10000 ≤ offset ∧ offset + length ≤ 0x100000 ∧ 0 < length then
        let n := (offset + length - 1) / 64 - offset / 64 + 1
        let r := payRead n (if vault then n else 0) s
        if r.2 then
          let data := s.liveBytes vault (base + (offset - 0x10000)) length
          let s1 := drawn { r.1 with link := { r.1.link with windowData := data } }
          if uncorrectable then count (devCtr (if vault then 10 else 8)) s1 else s1
        else r.1
      else { s with link := { s.link with windowData := bar2Quiet s offset length } }
    | none => { s with link := { s.link with windowData := bar2Quiet s offset length } }

end Sys2Proof.Machine
end

