-- ==== Sys2Proof/Machine/Continue.lean ====
section
/-!
DEFINITION. What goes on when a unit has finished: a Ledger write (17 R516 to R519), a flash operation (03 R76; 07 R213; 16
R502; 17 R527), a grant (03 R78, R82, R84), a read of host memory (06 R173), the check of a voltage step (02 R45, R64), the
end of POWER_WARN_N (04 R104), and a block that does not come to idle (04 R118).
-/
namespace Sys2Proof.Machine

/-- The ROM goes on with its boot where it still runs in LOADER (05 Table 5-1; 17 R526). -/
def romResumes (next : State → State) (s : State) : State :=
  if s.mode.current = .loader && s.inRom then next s else s

/-- A write that was not performed for wear ends what asked for it (17 R517, R526) (DEDUCED, log 24). -/
def wornOut (s : State) (w : LedgerWrite) : State :=
  match w.writer with
  | .host => s
  | .rom => romResumes romWriteFailed s
  | .rhoper (some id) => match s.entry id with | some e => finish e stWorn [] s | none => s
  | .rhoper none => if w.word = wBootCtrl && s.fw.revertReset && s.rhoper then assertReset .resetCtrl false 0 s else s

/-- The next waiting write starts (17 R516) (DEDUCED, log 37). -/
def ledgerNext (s : State) : State :=
  let r := ledgerStart s
  r.2.foldl wornOut r.1

/-- Every word of a command is persistent (02 R60; 04 R128; 14 R440; 17 R527 to R531, R539) (DEDUCED, log 24). -/
def wordsDone (e : Entry) (s : State) : State :=
  match e.op with
  | .resetPolicySet => finish e stDone [] (loadPolicy s)
  | .calOffsetSet => finish e stDone (calResult (prm e.cmd 16 2) s) s
  | .laneEqTableSet => eqTableDone e s
  | .imageDownload => finish e stDone (expectedResult s) s
  | .imageActivate => activateDone e s
  | .imageConfirm => confirmDone e s
  | _ => finish e stDone [] s

/-- The words and values that a list of numbers holds. -/
def pairsOf : List Nat → List (Nat × Nat)
  | a :: b :: rest => (a, b) :: pairsOf rest
  | _ => []

/-- A performed write goes back to what asked for it (17 R516, R518, R526, R530). -/
def writeOver (w : LedgerWrite) (persistent : Bool) (s : State) : State :=
  match w.writer with
  | .host => s
  | .rom => romResumes (if persistent then romWritten else romWriteFailed) s
  | .rhoper none =>
    if w.word = wBootCtrl && s.fw.revertReset && w.value.getLsbD 5 && s.rhoper then assertReset .resetCtrl false 0 s else s
  | .rhoper (some id) =>
    match s.entry id with
    | none => s
    | some e =>
      if !persistent then finish e stHwFault [] s
      else match pairsOf e.aux with
        | [] => wordsDone e s
        | rest => writeWords e rest s

/-- LEDGER_WRITE_COMPLETE (17 R516 to R519) (DEDUCED, log 38). -/
def execLedgerWriteComplete (verified : Bool) (s : State) : Host.Outcome State Fault Refusal :=
  .next <|
    match s.ledger.started, s.ledger.queue with
    | true, w :: rest =>
      let r := ledgerPerform w verified { s with ledger := { s.ledger with queue := rest, started := false } }
      writeOver w r.2 (ledgerNext r.1)
    | _, _ => s

/-- POWER_WARN_RELEASE (04 R104). -/
def execPowerWarnRelease (s : State) : Host.Outcome State Fault Refusal :=
  .next <|
    if !s.power.warnActive then s
    else
      let s1 := advance s.power.warnDue s
      let data := powerWarnData 0 s.power.warnRefused (min ((s1.now - s.power.warnSince) / 1000) 0xFFFFFFFF)
      ledgerNext (raise evPowerWarn data { s1 with power := { s1.power with warnActive := false, warnRefused := 0 } })

/-- A flash operation has ended (03 R76): a page of fault records that fails its verify is written again
(DEDUCED, log 23). With the Steward stopped nothing goes on from it (05 Table 5-1). -/
def flashOver (verified : Bool) (s : State) : State :=
  match s.alw.flashBusy with
  | none => s
  | some r =>
    let s1 := { s with alw := { s.alw with flashBusy := none } }
    if s.mode.steward = .stopped then s1
    else match r.job with
    | .settings => settingsFlashDone verified s1
    | .faultLog => if verified then flushDone s1 else flushRequest (count (devCtr 135) s1)
    | .image entry => imageFlashDone entry verified s1
    | .other | .writeBack | .host | .engineTest _ => s1

/-- FLASH_OPERATION_COMPLETE (03 R76). -/
def execFlashOperationComplete (verified : Bool) (s : State) : Host.Outcome State Fault Refusal :=
  .next (flashOver verified s)

/-- A resource can serve a class just now: its block is out of reset, the flash is free and may start, and a calibration
slice finds an engine (03 R76, R82, R93; 04 R102, R118). -/
def State.serves (s : State) (res cls : Nat) : Bool :=
  match res with
  | 0 => s.power.vaultUp && !s.blockInReset 81
  | 1 => !s.blockInReset 80
  | 2 => s.dispatchable cls
  | _ => !s.blockInReset 82 && !s.power.warnActive && s.alw.flashBusy.isNone

/-- What a granted request does (03 R76, R82, R84; 07 R213; 17 R527) (DEDUCED, log 63). -/
def carryOut (cls res : Nat) (r : Request) (corrected : Bool) (s : State) : State :=
  if res = 3 then
    let s1 := { s with alw := { s.alw with flashBusy := some r } }
    match r.job with
    | .settings => if s.sets.save.any fun j => j.done == 0 then spoilArea s1 else s1
    | .image entry => spoilSlot entry s1
    | _ => s1
  else if r.job = .host then hostGranted 1 s
  else if cls = 4 && r.job == .other then scrubVisit (decide (res = 0)) corrected s
  else s

/-- A read that was granted found an error that Till or the Vault corrected (02 R55, R56). -/
def countCorrected (res : Nat) (corrected : Bool) (s : State) : State :=
  if corrected && res ≤ 1 then count (devCtr (if res = 0 then 9 else 7)) s else s

/-- The request at the head of a class's queue is granted: a host's one access by one (03 R76 to R78). -/
def grantQueued (cls res : Nat) (corrected : Bool) (s : State) : State :=
  match (s.balance cls res).waiting with
  | [] => s
  | q :: rest =>
    let one := q.job == .host
    let left := if one && decide (1 < q.size) then { q with size := q.size - 1 } :: rest else rest
    let s1 := chargeGrant cls res (if one then 1 else q.size) (setBalance cls res (fun b => { b with waiting := left }) s)
    carryOut cls res q corrected (countCorrected res corrected s1)

/-- ALLOWANCE_GRANT: the resource takes the request that Table 3-3 puts first (03 R78) (DESIGN CHOICE, log 4). -/
def execAllowanceGrant (res : Fin 4) (corrected : Bool) (s : State) : Host.Outcome State Fault Refusal :=
  .next <|
    let r := res.val
    if !s.alw.running then s
    else if r = 2 then
      let s1 := collectAskers s
      match s1.dispatchNext with
      | none => s1
      | some cls => dispatchGrant cls s1
    else match pickClass r (s.serves r) s with
      | none => s
      | some cls => grantQueued cls r corrected s

/-- The bytes that a command's read of host memory brings (09 R284; 17 R527). -/
def dataLength (e : Entry) : Nat :=
  if e.op = .srtpKeySet then 64 else prm e.cmd 24 4

/-- Entries of a read, 64 bytes each. -/
def descriptors : Nat → List Byte → List Descriptor
  | 0, _ => []
  | n + 1, bs => if bs.length < 64 then [] else BitVec.ofNat 512 (bytesNat (bs.take 64)) :: descriptors n (bs.drop 64)

/-- HOST_DMA_READ_COMPLETE: prefetched entries, at most 16 of a queue, or a command's data, once the accesses that stage them
are granted (02 R52, R53; 06 R173; 09 R284; 17 R527; 03 R18, R76) (DESIGN CHOICE, logs 17 and 78). -/
def execHostDmaReadComplete (target : DmaTarget) (data : List Byte) (s : State) : Host.Outcome State Fault Refusal :=
  .next <|
    match target with
    | .fetch q =>
      let c := s.ep.cq.getD q.val {}
      let got := descriptors (min 16 c.pendingCount - c.staging.length) data
      if s.fetching q.val then
        let r := payRead got.length 0 s
        if r.2 then setCq q.val (fun c => { c with staging := c.staging ++ got }) r.1 else r.1
      else s
    | .command id =>
      match s.entry id with
      | none => s
      | some e =>
        if !awaitsData e || s.linkHolds || decide (data.length ≠ dataLength e) then s
        else
          let words := packFrame false false data
          let n := stagingCharge words
          let r := payRead n (if e.op = .imageDownload && s.rhoper then words.length else 0) s
          if !r.2 then r.1
          else
            let s1 := setEntry id (fun x => { x with aux := [] }) r.1
            if e.op = .srtpKeySet then keyData e (wordBytes words) s1 else downloadData e (wordBytes words) s1

/-- The admission of a command that has waited for the raise (02 R63, R64). -/
def placeAgain (s : State) (id : Nat) : State :=
  match s.entry id with
  | none => s
  | some e =>
    match e.op with
    | .channelOpen => openPlace e (e.aux == [4, 1]) s
    | .channelModify =>
      match s.channel (prm e.cmd 16 4) with
      | some ch => modifyPlace e ch s
      | none => finish e stNotFound [] s
    | .confAddLeg =>
      match s.openConference (prm e.cmd 16 4), s.channel (prm e.cmd 20 4) with
      | some conf, some ch => confAddHere e conf ch s
      | _, _ => finish e stNotFound [] s
    | _ => s

/-- The raise that commands and arriving channels wait for goes on with the periods, or is verified, or has ended in a governor fault (02 R44, R63,
R64). -/
def raiseWaiting (s : State) : State :=
  let l := s.gov.raiseWaiters
  if (l.isEmpty && s.cluster.arrivals.isEmpty) || !s.gov.checks.isEmpty then s
  else if !s.gov.fault && decide (s.gov.targetMv < s.pointVoltage) then s
  else admitArrivals (l.foldl placeAgain { s with gov := { s.gov with raiseWaiters := [] } })

/-- AVS_CHECK (02 R45, R63, R64) (DEDUCED, log 61; DESIGN CHOICE, log 70). -/
def execAvsCheck (acknowledged : Bool) (railMv : Nat) (s : State) : Host.Outcome State Fault Refusal :=
  .next (if !s.gov.checks.isEmpty && s.rhoper then raiseWaiting (avsCheck acknowledged railMv s) else s)

/-- BLOCK_RESET_TIMEOUT: work in flight is discarded and counted, and the reset is applied (04 R118). `discarded` is the
unit's own count where the model holds no work items of it. A flash operation in progress is lost. -/
def execBlockResetTimeout (block : Fin 84) (discarded : Nat) (s : State) : Host.Outcome State Fault Refusal :=
  .next <|
    let b := block.val
    match s.waitingBlock b with
    | none => s
    | some x =>
      let s1 := advance (x.startedAt + x.timeoutNs) s
      let r := blockApply x true s1
      let n := if b < 64 ∨ b = 79 then r.2 else discarded
      let s2 := countBy (devCtr 17) n (setBlock b (fun x =>
        { x with applied := true, timedOut := true, appliedAt := s1.now, discarded := n }) r.1)
      if b = 82 then flashOver false s2 else s2

end Sys2Proof.Machine
end

