-- ==== Sys2Proof/Machine/Registers.lean ====
section
/-!
DEFINITION. REGISTER_WRITE: a host write to BAR0 of any size and alignment, word by word (06 R162, R164, Table 6-2).
-/
namespace Sys2Proof.Machine

/-- A word of the MSI-X table; a vector that is unmasked with its pending bit set sends its message (06 Table 6-2 and the
base specification). -/
def msixWrite (v part : Nat) (w : Nat) (s : State) : State :=
  if !s.endpointOn then s
  else
    let low (a : BitVec 64) : Nat := a.toNat % 4294967296
    let high (a : BitVec 64) : Nat := a.toNat / 4294967296
    let s1 := { s with ep := { s.ep with msix := upd s.ep.msix v fun m =>
      match part with
      | 0 => { m with address := BitVec.ofNat 64 (high m.address * 4294967296 + w / 4 * 4) }
      | 1 => { m with address := BitVec.ofNat 64 (w * 4294967296 + low m.address) }
      | 2 => { m with data := BitVec.ofNat 32 w }
      | _ => { m with masked := w.testBit 0 } } }
    if s1.ep.pending.getLsbD v && !(s1.ep.msix.getD v {}).masked then
      sendVector v { s1 with ep := { s1.ep with pending := s1.ep.pending &&& ~~~((1 : BitVec 64) <<< v) } }
    else s1

/-- INT_MASK and INT_PIN_EN (06 Table 6-10). -/
def intMaskWrite (w : Nat) (s : State) : State :=
  if !s.endpointOn then s else { s with irq := { s.irq with mask := BitVec.ofNat 3 (bitsOf w 1 3) } }

def intPinWrite (w : Nat) (s : State) : State :=
  if !s.endpointOn then s else { s with irq := { s.irq with pinEn := BitVec.ofNat 4 (bitsOf w 0 4) } }

/-- A BKP register (04 R122). -/
def bkpWrite (n w : Nat) (s : State) : State :=
  if s.power.asserted || s.power.optionLoading then s else { s with bkp := s.bkp.set n (BitVec.ofNat 32 w) }

/-- A word of a queue's configuration block (06 R169); STATE is read-only. -/
def queueWrite (q part w : Nat) (s : State) : State :=
  match part with
  | 0 => queueBaseWrite q false w s
  | 1 => queueBaseWrite q true w s
  | 2 => queueCfgWrite q w s
  | _ => s

/-- DMB_CTRL and DMB_STATUS (06 Table 6-4). -/
def dmbWrite (offset w : Nat) (s : State) : State :=
  if offset = 0x160 then (if w.testBit 0 then dmbGoWrite s else s)
  else if offset = 0x164 then (if w.testBit 1 then dmbDoneWrite s else s)
  else s

/-- The doorbell block (06 Table 6-9). -/
def doorbellWrite (offset w : Nat) (s : State) : State :=
  if offset < 0x2010 then cqTailWrite ((offset - 0x2000) / 4) w s
  else if offset < 0x2020 then ccHeadWrite ((offset - 0x2010) / 4) w s
  else if offset = 0x2020 then eqHeadWrite w s
  else if offset = 0x2024 then cancelWrite w s
  else s

/-- The interrupt block (06 Table 6-10). -/
def interruptWrite (offset w : Nat) (s : State) : State :=
  if offset = 0x3000 then intStatusWrite w s
  else if offset = 0x3004 then intMaskWrite w s
  else if offset = 0x3008 then intPinWrite w s
  else if offset = 0x300C then intTestWrite w s
  else s

/-- One whole aligned word of BAR0 (06 Table 6-2); at every other address the write is ignored (R164). -/
def bar0Write (offset w : Nat) (s : State) : State :=
  if offset = 0x10 then resetCtrlWrite w s
  else if offset = 0x14 then resetCauseWrite w s
  else if 0x20 ≤ offset ∧ offset < 0x60 then bkpWrite ((offset - 0x20) / 4) w s
  else if 0x100 ≤ offset ∧ offset < 0x200 then dmbWrite offset w s
  else if 0x1000 ≤ offset ∧ offset < 0x1090 then queueWrite ((offset - 0x1000) / 16) (offset % 16 / 4) w s
  else if 0x2000 ≤ offset ∧ offset < 0x2040 then doorbellWrite offset w s
  else if 0x3000 ≤ offset ∧ offset < 0x3100 then interruptWrite offset w s
  else if 0x4000 ≤ offset ∧ offset < 0x4400 then msixWrite ((offset - 0x4000) / 16) (offset % 16 / 4) w s
  else if 0x8000 ≤ offset ∧ offset < 0x9000 then userWordWrite ((offset - 0x8000) / 4) w s
  else s

/-- A write word by word in ascending address: a word covered in part is ignored, but for DMB_CMD (06 R162). The words
that it covers number at most `n`. -/
def barWrite : Nat → Nat → List Byte → State → State
  | 0, _, _, s => s
  | n + 1, at_, data, s =>
    if data.isEmpty then s
    else
      let part := data.take (4 - at_ % 4)
      let s1 :=
        if 0x100 ≤ at_ ∧ at_ < 0x140 then dmbCmdWrite (at_ - 0x100) part s
        else if part.length = 4 then bar0Write at_ (bytesNat part) s
        else s
      barWrite n (at_ + part.length) (data.drop part.length) s1

/-- REGISTER_WRITE (06 R162). -/
def execRegisterWrite (offset : Nat) (data : List Byte) (s : State) : Host.Outcome State Fault Refusal :=
  .next (barWrite (data.length + 1) offset data s)

end Sys2Proof.Machine
end

