-- ==== Sys2Proof/Machine/Take.lean ====
section
/-!
DEFINITION. Commands taken from outside: COMMAND_ABORT (07 R205), COMMAND_BEGIN (07 R202), the take of a queue entry (06
R173, R174, R178), of the direct mailbox (06 R167) and of the management mailbox (18 R557), and what another member's
Steward sends (01 R27; 15 R467, R468, R473, R475, R488).
-/
namespace Sys2Proof.Machine

/-- The commands whose rules give them abort points (07 R213; 08 R250; 14 R441; 15 R480) (DEDUCED, log 15). -/
def hasAbortPoints (op : Op) : Bool :=
  op = .settingsSave || op = .engineTest || op = .eyeScan || op = .channelMigrate

/-- The migration that a command asked for has been admitted: its last abort point is past (15 R480). -/
def State.migrationAdmitted (s : State) (t : Entry) : Bool :=
  (s.channel (prm t.cmd 16 4)).any fun ch => ch.outMove.any fun m => m.entry == some t.id && m.admitted

/-- The abort `e` against a target that executes (07 R205, R228): it stops now when it stands at an abort point, goes on to
its next one, where `State.abortsOf` is looked at, or has passed its last (DEDUCED, log 15). -/
def abortRunning (e t : Entry) (s : State) : State :=
  match t.op with
  | .settingsSave =>
    let r := abortSave t s
    if r.2 then finish e stTooLate [] r.1 else r.1
  | .channelMigrate => if s.migrationAdmitted t then finish e stTooLate [] s else abortMigrate t s
  | _ => s

/-- COMMAND_ABORT (07 R205, R228). A target that still waits has begun nothing and stops at once
(DEDUCED, log 15). -/
def commandAbortBegin (e : Entry) (s : State) : State :=
  let c := e.cmd
  checked e runModes [reservedBytes c 18 64]
    (fun s =>
      match e.abortTarget with
      | none => finish e stNotFound [] s
      | some id =>
        match s.entry id with
        | none => finish e stTooLate [] s
        | some t =>
          if !hasAbortPoints t.op then finish e stDenied [] s
          else if t.phase = .waiting then cancelJob t s
          else abortRunning e t s) s

def execCommandAbort (src : Source) (c : Cmd) (s : State) : Host.Outcome State Fault Refusal :=
  .next (takeCommand .commandAbort src c [] commandAbortBegin s)

/-- The objects that each command acts on, which its rule names (07 R202). -/
def objectsOf (op : Op) (c : Cmd) : List Obj :=
  match op with
  | .nop | .identify | .versionGet | .bootSlot | .commandAbort | .deviceReset | .allowanceReport | .paceReport
  | .settingsStatus | .settingsRevert | .settingsFactory => []
  | .modeSet => modeSetObjects c
  | .eqSteerSet => eqSteerSetObjects c
  | .resetPolicySet => resetPolicySetObjects c
  | .governorSet => governorSetObjects c
  | .settingsSave => settingsObject c
  | .allowanceSet => allowanceSetObjects c
  | .paceOffsetSet => paceOffsetSetObjects c
  | .sessionAdd => sessionAddObjects c
  | .sessionModify | .sessionDelete | .sessionQuery | .relatch => sessionObject c
  | .channelOpen => channelOpenObjects c
  | .channelModify => channelModifyObjects c
  | .channelClose | .channelQuery | .srtpKeySet | .toneGenerate | .toneStop => channelObject c
  | .jitterSet => channelOrDefaults 0 c
  | .fcuPhaseSet => channelOrDefaults 1 c
  | .fcuLevelSet => channelOrDefaults 2 c
  | .toneDetectSet => channelOrDefaults 3 c
  | .confCreate | .clusterStatus | .ledgerStatus | .imageStatus | .counterRead | .telemetryRead | .engineStatus
  | .retirementMapGet => []
  | .confAddLeg | .confRemoveLeg => confLegObjects c
  | .confDestroy => confObject c
  | .tbConfigSet | .tbAdjust | .tbTimeGet => tbObject c
  | .ppsSet => ppsObject c
  | .ptpPortSet => ptpObject c
  | .launchQueueSet | .launchCancel => launchObject c
  | .portSet | .portStatus => portObject c
  | .stationAdd => stationAddObjects c
  | .stationDelete | .stationQuery => stationObject c
  | .laneSet | .laneEqTableSet | .eyeScan | .laneLoopback | .prbsSet | .prbsCheck | .errorInject => laneObject c
  | .clusterJoin | .clusterLeave => clusterObject c
  | .channelMigrate => channelObject c
  | .calOffsetSet => calOffsetSetObjects c
  | .imageDownload | .imageVerify | .imageActivate => slotObject c
  | .imageConfirm => imageConfirmObjects c
  | .diagWindowMap => diagWindowMapObjects c
  | .engineTest => engineTestObjects c
  | .engineConfigSet => engineConfigSetObjects c
  | .faultLogRead => faultLogObjects c
  | .retire | .reinstate => unitObjects c

/-- Each command's work, from its beginning on. -/
def beginOf (op : Op) : Entry → State → State :=
  match op with
  | .nop => nopBegin
  | .identify => identifyBegin
  | .modeSet => modeSetBegin
  | .versionGet => versionGetBegin
  | .bootSlot => bootSlotBegin
  | .commandAbort => commandAbortBegin
  | .eqSteerSet => eqSteerSetBegin
  | .deviceReset => deviceResetBegin
  | .resetPolicySet => resetPolicySetBegin
  | .governorSet => governorSetBegin
  | .settingsSave => settingsSaveBegin
  | .settingsStatus => settingsStatusBegin
  | .settingsRevert => settingsRevertBegin
  | .settingsFactory => settingsFactoryBegin
  | .allowanceSet => allowanceSetBegin
  | .allowanceReport => allowanceReportBegin
  | .paceReport => paceReportBegin
  | .paceOffsetSet => paceOffsetSetBegin
  | .sessionAdd => sessionAddBegin
  | .sessionModify => sessionModifyBegin
  | .sessionDelete => sessionDeleteBegin
  | .sessionQuery => sessionQueryBegin
  | .relatch => relatchBegin
  | .channelOpen => channelOpenBegin
  | .channelModify => channelModifyBegin
  | .channelClose => channelCloseBegin
  | .channelQuery => channelQueryBegin
  | .jitterSet => jitterSetBegin
  | .srtpKeySet => srtpKeySetBegin
  | .fcuPhaseSet => fcuPhaseSetBegin
  | .fcuLevelSet => fcuLevelSetBegin
  | .confCreate => confCreateBegin
  | .confAddLeg => confAddLegBegin
  | .confRemoveLeg => confRemoveLegBegin
  | .confDestroy => confDestroyBegin
  | .toneGenerate => toneGenerateBegin
  | .toneStop => toneStopBegin
  | .toneDetectSet => toneDetectSetBegin
  | .tbConfigSet => tbConfigSetBegin
  | .tbAdjust => tbAdjustBegin
  | .tbTimeGet => tbTimeGetBegin
  | .ppsSet => ppsSetBegin
  | .ptpPortSet => ptpPortSetBegin
  | .launchQueueSet => launchQueueSetBegin
  | .launchCancel => launchCancelBegin
  | .portSet => portSetBegin
  | .portStatus => portStatusBegin
  | .stationAdd => stationAddBegin
  | .stationDelete => stationDeleteBegin
  | .stationQuery => stationQueryBegin
  | .laneSet => laneSetBegin
  | .laneEqTableSet => laneEqTableSetBegin
  | .eyeScan => eyeScanBegin
  | .laneLoopback => laneLoopbackBegin
  | .prbsSet => prbsSetBegin
  | .prbsCheck => prbsCheckBegin
  | .errorInject => errorInjectBegin
  | .clusterJoin => clusterJoinBegin
  | .clusterLeave => clusterLeaveBegin
  | .clusterStatus => clusterStatusBegin
  | .channelMigrate => channelMigrateBegin
  | .ledgerStatus => ledgerStatusBegin
  | .calOffsetSet => calOffsetSetBegin
  | .imageDownload => imageDownloadBegin
  | .imageVerify => imageVerifyBegin
  | .imageActivate => imageActivateBegin
  | .imageConfirm => imageConfirmBegin
  | .imageStatus => imageStatusBegin
  | .counterRead => counterReadBegin
  | .telemetryRead => telemetryReadBegin
  | .diagWindowMap => diagWindowMapBegin
  | .engineTest => engineTestBegin
  | .engineConfigSet => engineConfigSetBegin
  | .engineStatus => engineStatusBegin
  | .faultLogRead => faultLogReadBegin
  | .retire => retireBegin
  | .reinstate => reinstateBegin
  | .retirementMapGet => retirementMapGetBegin

/-- COMMAND_BEGIN: the first waiting command, in take order, that nothing holds back any more (07 R202). -/
def beginNext (s : State) : State :=
  match s.cmds.entries.find? s.ready with
  | none => s
  | some e => begin_ (beginOf e.op) e s

def execCommandBegin (s : State) : Host.Outcome State Fault Refusal :=
  .next (beginNext s)

/-- The OPCODE and the rest of a 64-byte command (07 R193, Table 7-1). -/
def descriptorCode (d : Descriptor) : Nat :=
  (d.extractLsb' 0 16).toNat

def descriptorCmd (d : Descriptor) : Cmd :=
  { tag := d.extractLsb' 16 16, flags := d.extractLsb' 32 8, format := d.extractLsb' 40 8,
    reserved := d.extractLsb' 48 16, retryId := d.extractLsb' 64 64, params := d.extractLsb' 128 384 }

/-- A command with an opcode is taken (07 R201, R223) (DESIGN CHOICE, log 12). -/
def takeCode (code : Nat) (src : Source) (c : Cmd) (s : State) : State :=
  match opOf code with
  | some op => takeCommand op src c (objectsOf op c) (beginOf op) s
  | none => takeUnknown code src c s

/-- The command that 64 bytes spell is taken (DESIGN CHOICE, log 12). -/
def takeBytes (bytes : List Byte) (src : Source) (s : State) : State :=
  let d : Descriptor := BitVec.ofNat 512 (bytesNat bytes)
  takeCode (descriptorCode d) src (descriptorCmd d) s

/-- The queues in the order in which the present round and the next one reach them, after what the present queue has already
given (06 R173) (DEDUCED, log 19). A round that no queue had an entry for stands where it stood (DESIGN CHOICE, log 93). -/
def State.roundOrder (s : State) : List Nat :=
  let q := s.ep.roundQueue
  let rest := [(q + 1) % 4, (q + 2) % 4, (q + 3) % 4, q]
  if s.ep.roundTaken < max 1 (s.ep.cq.getD q {}).weight then q :: rest else rest

/-- A queue has an entry in staging to give (06 R173). -/
def State.offers (s : State) (q : Nat) : Bool :=
  (s.ep.cq.getD q {}).enable && !(s.ep.cq.getD q {}).staging.isEmpty

/-- The completion queue of a CQ has a slot for one more command (06 R174). -/
def State.slotFree (s : State) (q : Nat) : Bool :=
  let cc := (s.ep.cq.getD q {}).ccSel
  decide (s.reserved cc < (s.ep.cc.getD cc {}).free)

/-- The Steward takes the entry at a queue's HEAD (06 R173); a cancelled one is answered and not executed (R178). -/
def takeEntry (q : Fin 4) (s : State) : State :=
  let c := s.ep.cq.getD q.val {}
  match c.staging with
  | [] => s
  | d :: rest =>
    let i := c.head
    let goesOn := q.val = s.ep.roundQueue ∧ s.ep.roundTaken < max 1 c.weight
    let taken := if goesOn then s.ep.roundTaken + 1 else 1
    let s1 := setCq q.val (fun c => { c with head := (i + 1) % 2 ^ c.log2, staging := rest, fetchHold := false,
                                             cancelled := c.cancelled.filter fun x => x != i }) s
    let s2 := { s1 with ep := { s1.ep with roundQueue := q.val, roundTaken := taken } }
    let src := Source.cq q (Fin.ofNat 4096 i)
    if i ∈ c.cancelled then
      answer src c.ccSel (descriptorCode d) (descriptorCmd d).tag stCancelled 0 0 s2
    else takeCode (descriptorCode d) src (descriptorCmd d) s2

/-- The queues that offer an entry and find no slot wait for one (06 R174) (DEDUCED, log 19). -/
def holdQueues (s : State) : State :=
  [0, 1, 2, 3].foldl (fun st q =>
    if st.offers q && !st.slotFree q then setCq q (fun c => { c with fetchHold := true }) st else st) s

/-- CQ_ENTRY_TAKE (06 R173, R174): after a submitted mailbox command, in rounds by weight
(DEDUCED, logs 14 and 19). -/
def takeNext (s : State) : State :=
  if !s.running || !s.endpointOn || (s.ep.dmb.busy && !s.ep.dmb.taken) then s
  else
    let s1 := holdQueues s
    match s1.roundOrder.find? fun q => s1.offers q && s1.slotFree q with
    | some q => takeEntry (Fin.ofNat 4 q) s1
    | none => s1

/-- (DEDUCED, log 14) -/
def execCqEntryTake (s : State) : Host.Outcome State Fault Refusal :=
  .next (takeNext s)

/-- DMB_TAKE (06 R167), once the access that stages the command is granted (03 R76). -/
def takeDmb (s : State) : State :=
  if s.takes .dmb && s.endpointOn && s.ep.dmb.busy && !s.ep.dmb.taken then
    let r := payRead 1 0 s
    if r.2 then takeBytes s.ep.dmb.cmd .dmb { r.1 with ep := { r.1.ep with dmb := { r.1.ep.dmb with taken := true } } }
    else r.1
  else s

def execDmbTake (s : State) : Host.Outcome State Fault Refusal :=
  .next (takeDmb s)

/-- MGMT_MB_TAKE (18 R557, R567). -/
def takeMgmt (s : State) : State :=
  if s.islandOn && s.mgmt.busy && !s.mgmt.taken then
    takeBytes s.mgmt.cmd .mgmt (count (devCtr 196) { s with mgmt := { s.mgmt with taken := true } })
  else s

def execMgmtMbTake (s : State) : Host.Outcome State Fault Refusal :=
  .next (takeMgmt s)

/-- Another member has answered what a command asked of it (01 R27): its data goes to the host, then the command goes on or
completes (DESIGN CHOICE, log 13). -/
def replyIn (id : Nat) (status : Byte) (result : BitVec 160) (data : List Byte) (s : State) : State :=
  match s.entry id with
  | none => s
  | some e =>
    let r := result.toNat
    if e.phase ≠ .remote then s
    else if status = stAccepted then (if e.accepted then s else accept e s)
    else match e.op, e.aux with
      | _, 12 :: left :: done :: _ => commitAnswered e left done s
      | _, 9 :: rest =>
        if status = stNotFound then askNext e rest s
        else finish e status [⟨8, 20, r⟩]
          (if status = stDone ∧ e.op = .channelQuery then hostWrite (prm e.cmd 24 8) data s else s)
      | .confCreate, 13 :: rest => if status = stNoResource then confPlace e rest s else finish e status [⟨8, 20, r⟩] s
      | .channelOpen, _ => channelOpenReply e status r s
      | .confAddLeg, 6 :: _ => confAddReply e status r s
      | .sessionQuery, _ =>
        finish e status [⟨8, 20, r⟩] (if status = stDone then hostWrite (prm e.cmd 24 8) data s else s)
      | _, _ => finishJob e status [⟨8, 20, r⟩] s

/-- The home of a session answers a member that wants to bind it (09 R280, R281, Table 9-11). -/
def sessionAsked (node entry h : Nat) (s : State) : State :=
  let s := tellerDrain s
  match s.session h with
  | none => tell node (.reply entry stNotFound 0 []) s
  | some x => if x.bound then tell node (.reply entry stExists 0 []) s else tell node (.sessionIs entry (s.copyOf x)) s

/-- The entry of a session has come from its home: the command goes on (09 R280, R281). -/
def sessionCame (id : Nat) (copy : SessionCopy) (s : State) : State :=
  match s.entry id with
  | none => s
  | some e =>
    let e' := { e with phase := .executing, copies := e.copies ++ [copy] }
    let s1 := setEntry id (fun _ => e') s
    if e.phase ≠ .remote then s
    else match e.aux, s.channel (prm e.cmd 16 4) with
      | [3, service], _ => openPlace e' (service == 1) s1
      | [10], some ch => modifyPlace e' ch s1
      | [10], none => finish e' stNotFound [] s1
      | _, _ => s

/-- A member's write request whose commit its command waits for (11 R330; 01 R17). -/
def commitAsked (node entry : Nat) (req : TellerRequest) (s : State) : State :=
  tell node (.reply entry stDone 0 []) (commitRequest commitSighting req (tellerDrain s))

/-- The octets of the image that this device runs: from Till staging, or in the slot that it has booted (15 R475). -/
def State.runningImage (s : State) : List Byte :=
  let slot := match s.fw.image with
    | some i => i
    | none => s.fw.slots.getD (bit s.boot.slot) {}
  slot.header ++ slot.body

/-- The running image goes to a node as TYPE 7 frames of up to 9,216 octets (15 R475). -/
def sendImage (node : Nat) (s : State) : State :=
  let image := s.runningImage
  (List.range ((image.length + 9215) / 9216)).foldl (fun st k =>
    let part := (image.drop (9216 * k)).take 9216
    tySend node (.image (9216 * k) part) part.length st) s

/-- A boot request of a node goes to the coordinator, which answers in STANDBY, SERVICE and DRAIN (15 R475). -/
def bootAsked (node : Fin 16) (s : State) : State :=
  if s.isKing then
    if s.mode.current ∈ [.standby, .service, .drain] then sendImage node.val s else s
  else match s.cluster.view with
    | some v => if v.king = s.node then s else tell v.king (.bootRequest node) s
    | none => s

/-- A message between the Stewards of two members that a running one takes: `n` sent it (01 R27; 11 R330, R333; 15 R467, R468, R473,
R475). -/
def memberMessage (n : Fin 16) (m : StewardMessage) (s : State) : State :=
  match m with
  | .heartbeat node size mode same epoch coins => heartbeat node.val size mode same epoch coins s
  | .view king epoch members map => viewIn { epoch := epoch, king := king.val, members := members, homeMap := map } s
  | .request opcode c ask => takeCode opcode.toNat (.peer n ask) c s
  | .reply entry status result data => replyIn entry status result data s
  | .sessionAsk entry h => sessionAsked n.val entry h.toNat s
  | .sessionIs entry copy => sessionCame entry copy s
  | .teller req => { s with tables := { s.tables with teller := s.tables.teller ++ [req] } }
  | .commitAsk entry req => commitAsked n.val entry req s
  | .station update => applyStation update s
  | .bootRequest node => bootAsked node s
  | .moveAsk ch cause lost place => admitMove { node := n.val, channel := ch, cause := cause, lost := lost, place := place } s
  | .admitted channel engine slot => moveAnswer channel.toNat (some (engine.val, slot.val)) s
  | .refused channel => moveAnswer channel.toNat none s
  | .moveCopy ch => moveCopied n.val ch s
  | .copyAck channel => copyAcked channel.toNat s
  | .moveCommit channel engine lost =>
    match s.arriving channel.toNat n.val with | some ch => commitArrival ch engine lost s | none => s
  | .moved channel engine slot r => raiseMoved channel.toNat n.val engine slot r s
  | .moveOff channel => match s.arriving channel.toNat n.val with | some ch => removeChannel ch s | none => s
  | .narrow _ _ => s

/-- A Steward message for this node (15 R459): the partner of a link asks Rhoper to narrow it also where the core is stopped (R488). -/
def stewardMessage (link : Nat) (h : TyHeader) (m : StewardMessage) (s : State) : State :=
  match m with
  | .narrow k lane => if k.val = link ∧ s.rhoper then narrowRequest link (tLane lane.val) s else s
  | m => if s.running then memberMessage h.source m s else s

/-- TYLANE_STEWARD_MESSAGE: a TYPE 2 frame, for this node or on its way (15 R459 to R462). -/
def execTylaneStewardMessage (link : Fin 4) (h : TyHeader) (m : StewardMessage) (s : State) :
    Host.Outcome State Fault Refusal :=
  .next (deliverHere link.val h (.steward m) (stewardMessage link.val h m) s)

end Sys2Proof.Machine
end

