-- ==== Sys2Proof/Machine/Dispatch.lean ====
section
/-!
DEFINITION. The dispatch of the commands: one arm per row of spec/opcode_table.json.
-/
namespace Sys2Proof.Machine

def exec (i : Instr) (s : State) : Host.Outcome State Fault Refusal :=
  match i with
  | .nop src c => Sys2Proof.Machine.execNop src c s
  | .identify src c => Sys2Proof.Machine.execIdentify src c s
  | .modeSet src c => Sys2Proof.Machine.execModeSet src c s
  | .versionGet src c => Sys2Proof.Machine.execVersionGet src c s
  | .bootSlot src c => Sys2Proof.Machine.execBootSlot src c s
  | .commandAbort src c => Sys2Proof.Machine.execCommandAbort src c s
  | .eqSteerSet src c => Sys2Proof.Machine.execEqSteerSet src c s
  | .deviceReset src c => Sys2Proof.Machine.execDeviceReset src c s
  | .resetPolicySet src c => Sys2Proof.Machine.execResetPolicySet src c s
  | .governorSet src c => Sys2Proof.Machine.execGovernorSet src c s
  | .settingsSave src c => Sys2Proof.Machine.execSettingsSave src c s
  | .settingsStatus src c => Sys2Proof.Machine.execSettingsStatus src c s
  | .settingsRevert src c => Sys2Proof.Machine.execSettingsRevert src c s
  | .settingsFactory src c => Sys2Proof.Machine.execSettingsFactory src c s
  | .allowanceSet src c => Sys2Proof.Machine.execAllowanceSet src c s
  | .allowanceReport src c => Sys2Proof.Machine.execAllowanceReport src c s
  | .paceReport src c => Sys2Proof.Machine.execPaceReport src c s
  | .paceOffsetSet src c => Sys2Proof.Machine.execPaceOffsetSet src c s
  | .sessionAdd src c => Sys2Proof.Machine.execSessionAdd src c s
  | .sessionModify src c => Sys2Proof.Machine.execSessionModify src c s
  | .sessionDelete src c => Sys2Proof.Machine.execSessionDelete src c s
  | .sessionQuery src c => Sys2Proof.Machine.execSessionQuery src c s
  | .relatch src c => Sys2Proof.Machine.execRelatch src c s
  | .channelOpen src c => Sys2Proof.Machine.execChannelOpen src c s
  | .channelModify src c => Sys2Proof.Machine.execChannelModify src c s
  | .channelClose src c => Sys2Proof.Machine.execChannelClose src c s
  | .channelQuery src c => Sys2Proof.Machine.execChannelQuery src c s
  | .jitterSet src c => Sys2Proof.Machine.execJitterSet src c s
  | .srtpKeySet src c => Sys2Proof.Machine.execSrtpKeySet src c s
  | .fcuPhaseSet src c => Sys2Proof.Machine.execFcuPhaseSet src c s
  | .fcuLevelSet src c => Sys2Proof.Machine.execFcuLevelSet src c s
  | .confCreate src c => Sys2Proof.Machine.execConfCreate src c s
  | .confAddLeg src c => Sys2Proof.Machine.execConfAddLeg src c s
  | .confRemoveLeg src c => Sys2Proof.Machine.execConfRemoveLeg src c s
  | .confDestroy src c => Sys2Proof.Machine.execConfDestroy src c s
  | .toneGenerate src c => Sys2Proof.Machine.execToneGenerate src c s
  | .toneStop src c => Sys2Proof.Machine.execToneStop src c s
  | .toneDetectSet src c => Sys2Proof.Machine.execToneDetectSet src c s
  | .tbConfigSet src c => Sys2Proof.Machine.execTbConfigSet src c s
  | .tbAdjust src c => Sys2Proof.Machine.execTbAdjust src c s
  | .tbTimeGet src c => Sys2Proof.Machine.execTbTimeGet src c s
  | .ppsSet src c => Sys2Proof.Machine.execPpsSet src c s
  | .ptpPortSet src c => Sys2Proof.Machine.execPtpPortSet src c s
  | .launchQueueSet src c => Sys2Proof.Machine.execLaunchQueueSet src c s
  | .launchCancel src c => Sys2Proof.Machine.execLaunchCancel src c s
  | .portSet src c => Sys2Proof.Machine.execPortSet src c s
  | .portStatus src c => Sys2Proof.Machine.execPortStatus src c s
  | .stationAdd src c => Sys2Proof.Machine.execStationAdd src c s
  | .stationDelete src c => Sys2Proof.Machine.execStationDelete src c s
  | .stationQuery src c => Sys2Proof.Machine.execStationQuery src c s
  | .laneSet src c => Sys2Proof.Machine.execLaneSet src c s
  | .laneEqTableSet src c => Sys2Proof.Machine.execLaneEqTableSet src c s
  | .eyeScan src c => Sys2Proof.Machine.execEyeScan src c s
  | .laneLoopback src c => Sys2Proof.Machine.execLaneLoopback src c s
  | .prbsSet src c => Sys2Proof.Machine.execPrbsSet src c s
  | .prbsCheck src c => Sys2Proof.Machine.execPrbsCheck src c s
  | .errorInject src c => Sys2Proof.Machine.execErrorInject src c s
  | .clusterJoin src c => Sys2Proof.Machine.execClusterJoin src c s
  | .clusterLeave src c => Sys2Proof.Machine.execClusterLeave src c s
  | .clusterStatus src c => Sys2Proof.Machine.execClusterStatus src c s
  | .channelMigrate src c => Sys2Proof.Machine.execChannelMigrate src c s
  | .ledgerStatus src c => Sys2Proof.Machine.execLedgerStatus src c s
  | .calOffsetSet src c => Sys2Proof.Machine.execCalOffsetSet src c s
  | .imageDownload src c => Sys2Proof.Machine.execImageDownload src c s
  | .imageVerify src c => Sys2Proof.Machine.execImageVerify src c s
  | .imageActivate src c => Sys2Proof.Machine.execImageActivate src c s
  | .imageConfirm src c => Sys2Proof.Machine.execImageConfirm src c s
  | .imageStatus src c => Sys2Proof.Machine.execImageStatus src c s
  | .counterRead src c => Sys2Proof.Machine.execCounterRead src c s
  | .telemetryRead src c => Sys2Proof.Machine.execTelemetryRead src c s
  | .diagWindowMap src c => Sys2Proof.Machine.execDiagWindowMap src c s
  | .engineTest src c => Sys2Proof.Machine.execEngineTest src c s
  | .engineConfigSet src c => Sys2Proof.Machine.execEngineConfigSet src c s
  | .engineStatus src c => Sys2Proof.Machine.execEngineStatus src c s
  | .faultLogRead src c => Sys2Proof.Machine.execFaultLogRead src c s
  | .retire src c => Sys2Proof.Machine.execRetire src c s
  | .reinstate src c => Sys2Proof.Machine.execReinstate src c s
  | .retirementMapGet src c => Sys2Proof.Machine.execRetirementMapGet src c s
  | .commandBegin => Sys2Proof.Machine.execCommandBegin s
  | .cqEntryTake => Sys2Proof.Machine.execCqEntryTake s
  | .dmbTake => Sys2Proof.Machine.execDmbTake s
  | .mgmtMbTake => Sys2Proof.Machine.execMgmtMbTake s
  | .retryEntryLapse id => Sys2Proof.Machine.execRetryEntryLapse id s
  | .resetCtrlCold w => Sys2Proof.Machine.execResetCtrlCold w s
  | .resetCtrlWarm w => Sys2Proof.Machine.execResetCtrlWarm w s
  | .resetCtrlBlock w => Sys2Proof.Machine.execResetCtrlBlock w s
  | .resetCauseWrite w => Sys2Proof.Machine.execResetCauseWrite w s
  | .registerWrite offset data => Sys2Proof.Machine.execRegisterWrite offset data s
  | .ledgerUserWrite word value => Sys2Proof.Machine.execLedgerUserWrite word value s
  | .ledgerWriteComplete verified => Sys2Proof.Machine.execLedgerWriteComplete verified s
  | .rmemWrite offset data => Sys2Proof.Machine.execRmemWrite offset data s
  | .diagWindowRead offset length uncorrectable => Sys2Proof.Machine.execDiagWindowRead offset length uncorrectable s
  | .queueEnable q cfg => Sys2Proof.Machine.execQueueEnable q cfg s
  | .queueDisable q cfg => Sys2Proof.Machine.execQueueDisable q cfg s
  | .cqTailDoorbell q w => Sys2Proof.Machine.execCqTailDoorbell q w s
  | .ccHeadDoorbell q w => Sys2Proof.Machine.execCcHeadDoorbell q w s
  | .eqHeadDoorbell w => Sys2Proof.Machine.execEqHeadDoorbell w s
  | .cmdCancel w => Sys2Proof.Machine.execCmdCancel w s
  | .intStatusClear w => Sys2Proof.Machine.execIntStatusClear w s
  | .intTest w => Sys2Proof.Machine.execIntTest w s
  | .dmbCmdWrite offset data => Sys2Proof.Machine.execDmbCmdWrite offset data s
  | .dmbGo => Sys2Proof.Machine.execDmbGo s
  | .dmbDoneClear => Sys2Proof.Machine.execDmbDoneClear s
  | .coalesceTimeout vector => Sys2Proof.Machine.execCoalesceTimeout vector s
  | .hostDmaReadFail target kind => Sys2Proof.Machine.execHostDmaReadFail target kind s
  | .functionLevelReset => Sys2Proof.Machine.execFunctionLevelReset s
  | .pciePmStateChange d3hot => Sys2Proof.Machine.execPciePmStateChange d3hot s
  | .pcieLinkDown => Sys2Proof.Machine.execPcieLinkDown s
  | .pcieLinkUp => Sys2Proof.Machine.execPcieLinkUp s
  | .mbCmdWrite t => Sys2Proof.Machine.execMbCmdWrite t s
  | .mbCtrlGo t => Sys2Proof.Machine.execMbCtrlGo t s
  | .mbCmplRead bytes => Sys2Proof.Machine.execMbCmplRead bytes s
  | .mgmtBusTimeout => Sys2Proof.Machine.execMgmtBusTimeout s
  | .entdaa address => Sys2Proof.Machine.execEntdaa address s
  | .setdasa address => Sys2Proof.Machine.execSetdasa address s
  | .rstdaa => Sys2Proof.Machine.execRstdaa s
  | .getpid => Sys2Proof.Machine.execGetpid s
  | .getbcr => Sys2Proof.Machine.execGetbcr s
  | .getdcr => Sys2Proof.Machine.execGetdcr s
  | .getstatus => Sys2Proof.Machine.execGetstatus s
  | .por rail => Sys2Proof.Machine.execPor rail s
  | .resetNAssert lowNs => Sys2Proof.Machine.execResetNAssert lowNs s
  | .perstNAssert => Sys2Proof.Machine.execPerstNAssert s
  | .watchdogExpiry => Sys2Proof.Machine.execWatchdogExpiry s
  | .resetStretchEnd rails => Sys2Proof.Machine.execResetStretchEnd rails s
  | .optionLoadingDone straps fuseError => Sys2Proof.Machine.execOptionLoadingDone straps fuseError s
  | .islandPllLock island => Sys2Proof.Machine.execIslandPllLock island s
  | .resetWaveComplete => Sys2Proof.Machine.execResetWaveComplete s
  | .resetOutRelease => Sys2Proof.Machine.execResetOutRelease s
  | .bootComplete => Sys2Proof.Machine.execBootComplete s
  | .tylaneBootTimeout => Sys2Proof.Machine.execTylaneBootTimeout s
  | .stewardLockstepMismatch => Sys2Proof.Machine.execStewardLockstepMismatch s
  | .stewardSramUe => Sys2Proof.Machine.execStewardSramUe s
  | .rhoperFatalAssertion => Sys2Proof.Machine.execRhoperFatalAssertion s
  | .wdogRunClear => Sys2Proof.Machine.execWdogRunClear s
  | .powerWarnAssert lowNs => Sys2Proof.Machine.execPowerWarnAssert lowNs s
  | .powerWarnRelease => Sys2Proof.Machine.execPowerWarnRelease s
  | .remoteResetRequest node cold => Sys2Proof.Machine.execRemoteResetRequest node cold s
  | .blockIdle block => Sys2Proof.Machine.execBlockIdle block s
  | .blockResetTimeout block discarded => Sys2Proof.Machine.execBlockResetTimeout block discarded s
  | .blockResetRelease block => Sys2Proof.Machine.execBlockResetRelease block s
  | .periodBoundary found => Sys2Proof.Machine.execPeriodBoundary found s
  | .governorStepDown => Sys2Proof.Machine.execGovernorStepDown s
  | .avsCheck acknowledged railMv => Sys2Proof.Machine.execAvsCheck acknowledged railMv s
  | .vddCoreLow railMv => Sys2Proof.Machine.execVddCoreLow railMv s
  | .allowanceRequest cls res size => Sys2Proof.Machine.execAllowanceRequest cls res size s
  | .allowanceGrant res corrected => Sys2Proof.Machine.execAllowanceGrant res corrected s
  | .flashOperationComplete verified => Sys2Proof.Machine.execFlashOperationComplete verified s
  | .scrubOverdue vault => Sys2Proof.Machine.execScrubOverdue vault s
  | .calForcedTake => Sys2Proof.Machine.execCalForcedTake s
  | .calSliceEnd engine result => Sys2Proof.Machine.execCalSliceEnd engine result s
  | .taskEnd engine report => Sys2Proof.Machine.execTaskEnd engine report s
  | .taskPreempt engine => Sys2Proof.Machine.execTaskPreempt engine s
  | .handshakeStall engine => Sys2Proof.Machine.execHandshakeStall engine s
  | .workingMemoryUe engine => Sys2Proof.Machine.execWorkingMemoryUe engine s
  | .suspendedPlacementRetry => Sys2Proof.Machine.execSuspendedPlacementRetry s
  | .tillUncorrectableError row address => Sys2Proof.Machine.execTillUncorrectableError row address s
  | .vaultUncorrectableError row address repairLeft => Sys2Proof.Machine.execVaultUncorrectableError row address repairLeft s
  | .faultLogFlush => Sys2Proof.Machine.execFaultLogFlush s
  | .portFrameReceived port frame => Sys2Proof.Machine.execPortFrameReceived port frame s
  | .stationSightingReport key => Sys2Proof.Machine.execStationSightingReport key s
  | .stationAgeOut key => Sys2Proof.Machine.execStationAgeOut key s
  | .tellerWriteRequest req => Sys2Proof.Machine.execTellerWriteRequest req s
  | .tellerCommit => Sys2Proof.Machine.execTellerCommit s
  | .stationEntryApply update => Sys2Proof.Machine.execStationEntryApply update s
  | .latchSilenceTimeout handle => Sys2Proof.Machine.execLatchSilenceTimeout handle s
  | .jbTargetUpdate channel leg => Sys2Proof.Machine.execJbTargetUpdate channel leg s
  | .rtcpReportTimer channel leg => Sys2Proof.Machine.execRtcpReportTimer channel leg s
  | .blockLockLoss port midFrame => Sys2Proof.Machine.execBlockLockLoss port midFrame s
  | .portLinkUpHold port => Sys2Proof.Machine.execPortLinkUpHold port s
  | .portLinkDownHold port => Sys2Proof.Machine.execPortLinkDownHold port s
  | .launchGrant port => Sys2Proof.Machine.execLaunchGrant port s
  | .ppsOutEdge pin => Sys2Proof.Machine.execPpsOutEdge pin s
  | .ppsInEdge pin falling widthNs => Sys2Proof.Machine.execPpsInEdge pin falling widthNs s
  | .ppsTimeout tb => Sys2Proof.Machine.execPpsTimeout tb s
  | .ptpSourceTimeout tb => Sys2Proof.Machine.execPtpSourceTimeout tb s
  | .ptpFwdTimeout port => Sys2Proof.Machine.execPtpFwdTimeout port s
  | .tbrefStartupTimeout => Sys2Proof.Machine.execTbrefStartupTimeout s
  | .tbrefLoss => Sys2Proof.Machine.execTbrefLoss s
  | .tbrefRestore => Sys2Proof.Machine.execTbrefRestore s
  | .laneSignalDetect lane => Sys2Proof.Machine.execLaneSignalDetect lane s
  | .mLaneBlockLock port => Sys2Proof.Machine.execMLaneBlockLock port s
  | .mLanePolarityCheck port inverted => Sys2Proof.Machine.execMLanePolarityCheck port inverted s
  | .tLaneCommaAlign lane inverted laneId => Sys2Proof.Machine.execTLaneCommaAlign lane inverted laneId s
  | .tLaneAlignLoss lane codeErrors disparityErrors => Sys2Proof.Machine.execTLaneAlignLoss lane codeErrors disparityErrors s
  | .laneCdrLoss lane => Sys2Proof.Machine.execLaneCdrLoss lane s
  | .laneFaultRetry link => Sys2Proof.Machine.execLaneFaultRetry link s
  | .laneErrorWindow lane => Sys2Proof.Machine.execLaneErrorWindow lane s
  | .eyeScanPointDone lane errors => Sys2Proof.Machine.execEyeScanPointDone lane errors s
  | .prbsLockLoss lane bits errors => Sys2Proof.Machine.execPrbsLockLoss lane bits errors s
  | .tylaneLinkBringup link nodeLink => Sys2Proof.Machine.execTylaneLinkBringup link nodeLink s
  | .linkHalfTimeout link nodeLink => Sys2Proof.Machine.execLinkHalfTimeout link nodeLink s
  | .wiringRetry link => Sys2Proof.Machine.execWiringRetry link s
  | .tylaneMediaFrame link h m => Sys2Proof.Machine.execTylaneMediaFrame link h m s
  | .tylaneStewardMessage link h m => Sys2Proof.Machine.execTylaneStewardMessage link h m s
  | .tylanePtpCopy link h copy => Sys2Proof.Machine.execTylanePtpCopy link h copy s
  | .tylaneAck link h => Sys2Proof.Machine.execTylaneAck link h s
  | .tylaneDelayProbe link t1 t2 t3 t4 => Sys2Proof.Machine.execTylaneDelayProbe link t1 t2 t3 t4 s
  | .tylaneBootImage link h offset data => Sys2Proof.Machine.execTylaneBootImage link h offset data s
  | .tylaneReplayTimeout link => Sys2Proof.Machine.execTylaneReplayTimeout link s
  | .heartbeatSend => Sys2Proof.Machine.execHeartbeatSend s
  | .nodeUnheard node => Sys2Proof.Machine.execNodeUnheard node s
  | .viewPublish => Sys2Proof.Machine.execViewPublish s
  | .migrationCopyAck channel => Sys2Proof.Machine.execMigrationCopyAck channel s
  | .drainMoveStart => Sys2Proof.Machine.execDrainMoveStart s
  | .autoStandbyEntry => Sys2Proof.Machine.execAutoStandbyEntry s
  | .trialWatchdogExpiry => Sys2Proof.Machine.execTrialWatchdogExpiry s
  | .thermalSample sample => Sys2Proof.Machine.execThermalSample sample s
  | .thermalWarnClear => Sys2Proof.Machine.execThermalWarnClear s
  | .uartRxByte b => Sys2Proof.Machine.execUartRxByte b s
  | .extest => Sys2Proof.Machine.execExtest s
  | .idcode => Sys2Proof.Machine.execIdcode s
  | .samplePreload => Sys2Proof.Machine.execSamplePreload s
  | .clamp => Sys2Proof.Machine.execClamp s
  | .highz => Sys2Proof.Machine.execHighz s
  | .extestPulse => Sys2Proof.Machine.execExtestPulse s
  | .extestTrain => Sys2Proof.Machine.execExtestTrain s
  | .bypass => Sys2Proof.Machine.execBypass s
  | .trstNAssert => Sys2Proof.Machine.execTrstNAssert s
  | .perstNDeassert => Sys2Proof.Machine.execPerstNDeassert s
  | .rhoperStart => Sys2Proof.Machine.execRhoperStart s
  | .modeTransitionComplete => Sys2Proof.Machine.execModeTransitionComplete s
  | .hostDmaReadComplete target data => Sys2Proof.Machine.execHostDmaReadComplete target data s
  | .localFault port on => Sys2Proof.Machine.execLocalFault port on s
  | .remoteFault port on => Sys2Proof.Machine.execRemoteFault port on s
  | .hiBer port on => Sys2Proof.Machine.execHiBer port on s
  | .prbsCheckerLock lane => Sys2Proof.Machine.execPrbsCheckerLock lane s
  | .errorInjectInterval lane => Sys2Proof.Machine.execErrorInjectInterval lane s
  | .tbAdjustTimeout tb => Sys2Proof.Machine.execTbAdjustTimeout tb s
  | .clusterLeaveResetWait => Sys2Proof.Machine.execClusterLeaveResetWait s
  | .ptpMessageSend tb event => Sys2Proof.Machine.execPtpMessageSend tb event s
  | .vaultRowRepairComplete row => Sys2Proof.Machine.execVaultRowRepairComplete row s

end Sys2Proof.Machine
end

