-- ==== Sys2Proof/Machine/Idle.lean ====
section
/-!
DEFINITION. What the block does while no command waits: time passes, one microsecond at a step (DESIGN CHOICE, log 2).
-/
namespace Sys2Proof.Machine

/-- The quantum of the model's clock in ns (DESIGN CHOICE, log 2). -/
def idleQuantum : Nat := 1000

/-- Time passes; nothing else happens that no row of the table describes (DESIGN CHOICE, log 2). -/
def idle (s : State) : State :=
  advance (s.now + idleQuantum) s

end Sys2Proof.Machine
end

