-- ==== Sys2Proof/WellFormed.lean ====
section
/-!
DEFINITION. Which commands are well formed: what a row brings from outside has the shape that the spec gives the port it
comes through. Every other command is well formed as its type says. The step takes ill-formed commands too.
-/
namespace Sys2Proof

/-- Bytes written inside a region of `size` bytes. -/
def insideRegion (offset length size : Nat) : Bool :=
  decide (0 < length) && decide (offset + length ≤ size)

/-- A write transaction as the SMBus and I3C target sees it (18 R555, R556): at most 255 data bytes. -/
def SmbusWrite.wf (t : SmbusWrite) : Bool :=
  decide (t.count ≤ 255) && decide (t.data.length ≤ 255)

/-- A frame between the minimum that the MAC passes on as a frame at all and the longest MAX_FRAME with what it may be
exceeded by before the MAC gives up (12 R364, R374): the bytes DA to FCS are at least one. -/
def RxFrame.wf (f : RxFrame) : Bool :=
  decide (0 < f.bytes.length)

/-- A Tylane header: at most 9,216 octets of payload (15 Table 15-1). -/
def TyHeader.wf (h : TyHeader) : Bool :=
  decide (h.octets ≤ 9216)

/-- A view's home map has 256 groups, each of a node (15 R471). -/
def StewardMessage.wf : StewardMessage → Bool
  | .view _ _ _ map => decide (map.length = 256) && map.all fun n => decide (n < 16)
  | .heartbeat _ size mode _ _ _ => decide (size ≤ 16) && decide (mode ≤ 7)
  | .reply _ _ _ data => decide (data.length ≤ 9216)
  | _ => true

/-- What a Tylane media frame brings. -/
def TyMedia.wf : TyMedia → Bool
  | .toHome f => f.wf
  | .toRunning _ _ f => f.wf
  | .toEgress _ _ _ _ bytes _ _ => decide (0 < bytes) && decide (bytes ≤ 9216)

/-- Nine sensors and four rails (18 Table 18-2, R558). -/
def TelemetrySample.wf (t : TelemetrySample) : Bool :=
  decide (t.temps.length = 9) && decide (t.rails.length = 4)

/-- The command is well formed. -/
def Instr.wf : Instr → Bool
  | .resetCtrlCold w => w.toNat % 4 == 1
  | .resetCtrlWarm w => w.toNat % 4 == 2
  | .resetCtrlBlock w => w.toNat % 4 == 3
  | .registerWrite offset data => insideRegion offset data.length 0x10000
  | .rmemWrite offset data => insideRegion offset data.length 0x10000
  | .diagWindowRead offset length _ => insideRegion offset length 0x100000
  | .queueEnable _ cfg => cfg.getLsbD 0
  | .queueDisable _ cfg => !cfg.getLsbD 0
  | .dmbCmdWrite offset data => insideRegion offset.val data.length 64
  | .mbCmdWrite t => t.wf && t.code == 0x10
  | .mbCtrlGo t => t.wf && t.code == 0x11
  | .mbCmplRead bytes => decide (bytes ≤ 32)
  | .periodBoundary f => decide (f.gate.length = 72) && decide (f.ports.length ≤ 8) && decide (f.lanes.length ≤ 32)
  | .allowanceRequest _ _ size => decide (0 < size)
  | .portFrameReceived _ f => f.wf
  | .tylaneMediaFrame _ h m => h.wf && m.wf
  | .tylaneStewardMessage _ h m => h.wf && m.wf
  | .tylanePtpCopy _ h _ => h.wf
  | .tylaneBootImage _ h _ data => h.wf && decide (data.length ≤ 9216)
  | .tylaneDelayProbe _ t1 t2 t3 t4 => decide (t1 ≤ t4) && decide (t2 ≤ t3) && decide (t3 - t2 ≤ t4 - t1)
  | .thermalSample t => t.wf
  | _ => true

end Sys2Proof
end

