-- ==== Sys2Proof/Safety.lean ====
section
/-!
DEFINITION. The vocabulary of the statements: what the mode register may hold (05 Table 5-1), when a host command opens
at once and the state in which it executes (07 R201, R202), the state after its completion, and the parts of the state
that statements say are kept.
-/
namespace Sys2Proof.Machine

/-- What a command queue's commands bring back as their operation, source and body: the host command rows. -/
def hostRow : Instr → Option (Op × Source × Cmd)
  | .nop src c => some (.nop, src, c)
  | .identify src c => some (.identify, src, c)
  | .modeSet src c => some (.modeSet, src, c)
  | .versionGet src c => some (.versionGet, src, c)
  | .bootSlot src c => some (.bootSlot, src, c)
  | .commandAbort src c => some (.commandAbort, src, c)
  | .eqSteerSet src c => some (.eqSteerSet, src, c)
  | .deviceReset src c => some (.deviceReset, src, c)
  | .resetPolicySet src c => some (.resetPolicySet, src, c)
  | .governorSet src c => some (.governorSet, src, c)
  | .settingsSave src c => some (.settingsSave, src, c)
  | .settingsStatus src c => some (.settingsStatus, src, c)
  | .settingsRevert src c => some (.settingsRevert, src, c)
  | .settingsFactory src c => some (.settingsFactory, src, c)
  | .allowanceSet src c => some (.allowanceSet, src, c)
  | .allowanceReport src c => some (.allowanceReport, src, c)
  | .paceReport src c => some (.paceReport, src, c)
  | .paceOffsetSet src c => some (.paceOffsetSet, src, c)
  | .sessionAdd src c => some (.sessionAdd, src, c)
  | .sessionModify src c => some (.sessionModify, src, c)
  | .sessionDelete src c => some (.sessionDelete, src, c)
  | .sessionQuery src c => some (.sessionQuery, src, c)
  | .relatch src c => some (.relatch, src, c)
  | .channelOpen src c => some (.channelOpen, src, c)
  | .channelModify src c => some (.channelModify, src, c)
  | .channelClose src c => some (.channelClose, src, c)
  | .channelQuery src c => some (.channelQuery, src, c)
  | .jitterSet src c => some (.jitterSet, src, c)
  | .srtpKeySet src c => some (.srtpKeySet, src, c)
  | .fcuPhaseSet src c => some (.fcuPhaseSet, src, c)
  | .fcuLevelSet src c => some (.fcuLevelSet, src, c)
  | .confCreate src c => some (.confCreate, src, c)
  | .confAddLeg src c => some (.confAddLeg, src, c)
  | .confRemoveLeg src c => some (.confRemoveLeg, src, c)
  | .confDestroy src c => some (.confDestroy, src, c)
  | .toneGenerate src c => some (.toneGenerate, src, c)
  | .toneStop src c => some (.toneStop, src, c)
  | .toneDetectSet src c => some (.toneDetectSet, src, c)
  | .tbConfigSet src c => some (.tbConfigSet, src, c)
  | .tbAdjust src c => some (.tbAdjust, src, c)
  | .tbTimeGet src c => some (.tbTimeGet, src, c)
  | .ppsSet src c => some (.ppsSet, src, c)
  | .ptpPortSet src c => some (.ptpPortSet, src, c)
  | .launchQueueSet src c => some (.launchQueueSet, src, c)
  | .launchCancel src c => some (.launchCancel, src, c)
  | .portSet src c => some (.portSet, src, c)
  | .portStatus src c => some (.portStatus, src, c)
  | .stationAdd src c => some (.stationAdd, src, c)
  | .stationDelete src c => some (.stationDelete, src, c)
  | .stationQuery src c => some (.stationQuery, src, c)
  | .laneSet src c => some (.laneSet, src, c)
  | .laneEqTableSet src c => some (.laneEqTableSet, src, c)
  | .eyeScan src c => some (.eyeScan, src, c)
  | .laneLoopback src c => some (.laneLoopback, src, c)
  | .prbsSet src c => some (.prbsSet, src, c)
  | .prbsCheck src c => some (.prbsCheck, src, c)
  | .errorInject src c => some (.errorInject, src, c)
  | .clusterJoin src c => some (.clusterJoin, src, c)
  | .clusterLeave src c => some (.clusterLeave, src, c)
  | .clusterStatus src c => some (.clusterStatus, src, c)
  | .channelMigrate src c => some (.channelMigrate, src, c)
  | .ledgerStatus src c => some (.ledgerStatus, src, c)
  | .calOffsetSet src c => some (.calOffsetSet, src, c)
  | .imageDownload src c => some (.imageDownload, src, c)
  | .imageVerify src c => some (.imageVerify, src, c)
  | .imageActivate src c => some (.imageActivate, src, c)
  | .imageConfirm src c => some (.imageConfirm, src, c)
  | .imageStatus src c => some (.imageStatus, src, c)
  | .counterRead src c => some (.counterRead, src, c)
  | .telemetryRead src c => some (.telemetryRead, src, c)
  | .diagWindowMap src c => some (.diagWindowMap, src, c)
  | .engineTest src c => some (.engineTest, src, c)
  | .engineConfigSet src c => some (.engineConfigSet, src, c)
  | .engineStatus src c => some (.engineStatus, src, c)
  | .faultLogRead src c => some (.faultLogRead, src, c)
  | .retire src c => some (.retire, src, c)
  | .reinstate src c => some (.reinstate, src, c)
  | .retirementMapGet src c => some (.retirementMapGet, src, c)
  | _ => none

/-- 05 Table 5-1 and Table 5-3: what runs on the Steward in each mode; a transition lies between running modes;
AUTO_STANDBY reads 1 in DRAIN only and HALT_CAUSE is nonzero in HALT only. -/
structure ModeOk (m : ModeReg) : Prop where
  strap : m.current = .strap → m.steward = .stopped
  halt : m.current = .halt → m.steward = .stopped
  recovery : m.current = .recovery → m.steward = .rom
  loader : m.current = .loader → m.steward = .rom ∨ m.steward = .rhoper
  running : m.current ∈ runModes → m.steward = .rhoper
  transition : ∀ t, m.transition = some t → m.current ∈ runModes ∧ t.target ∈ runModes
  auto : m.autoStandby = true → m.current = .drain
  haltCause : m.haltCause ≠ 0 → m.current = .halt

/-- A command passes steps 1 to 4 of 07 R201 and nothing holds it back (07 R202, 05 R154): its source takes commands, its
tag is in range and free, its header is right, its executor is reached, it carries no RETRY_ID, no transition is under
way, no earlier command waits and none holds an object of its own (for a fence: no host command is open). -/
def opens (op : Op) (src : Source) (c : Cmd) (s : State) : Bool :=
  s.takes src && (tagFault (opcodeOf op) src c s).isNone && (headerBad c).isNone && reaches op src s
  && (src != .mgmt || (!islandExecutes op c && s.mode.steward != .stopped))
  && retryId src c == 0 && s.mode.transition.isNone
  && (s.cmds.entries.all fun x => x.phase != .waiting && !shares x.objects (objectsOf op c)
        && !(op == .nop && prmByte c 16 % 2 == 1 && fromHost x))
  && !shares s.movingObjects (objectsOf op c)

/-- Steps 5 and 6 of 07 R201: the mode is one in which the command is accepted, and no parameter check fails. -/
def accepts (modes : List Mode) (checks : List Check) (s : State) : Bool :=
  decide (s.mode.current ∈ modes) && (badOffset checks).isNone

/-- The open command that a row's command becomes. -/
def entryOf (op : Op) (src : Source) (c : Cmd) (s : State) : Entry :=
  { id := s.cmds.nextId, op := op, source := src, cc := s.sourceCc src, cmd := c, phase := .executing,
    objects := objectsOf op c, accepted := false, discard := false, joined := [],
    abortTarget := s.abortTargetOf op src c, aux := [] }

/-- The state in which it executes: one more open command, under the next take number. -/
def opened (op : Op) (src : Source) (c : Cmd) (s : State) : State :=
  { s with cmds := { s.cmds with
      entries := (s.cmds.entries.map fun x => if x.id = s.cmds.nextId then entryOf op src c s else x) ++ [entryOf op src c s],
      nextId := s.cmds.nextId + 1 } }

/-- The command completes with a status and a RESULT, after a change of the state in which it executes. -/
def completes (op : Op) (src : Source) (c : Cmd) (status : Byte) (result : List Fld) (change : State → State)
    (s : State) : State :=
  finish (entryOf op src c s) status result (change (opened op src c s))

/-- HOSTDMA is granted `n` TILL accesses at once, and no transaction toward the host waits for its own (03 R18, R76). -/
def State.hostFree (s : State) (n : Nat) : Bool :=
  (pay 2 1 n s).2 == 0 && s.link.staged.isEmpty

/-- The management island runs the command itself (07 R219, Table 7-7). -/
def islandOpens (op : Op) (c : Cmd) : Bool :=
  (headerBad c).isNone && islandExecutes op c

/-- The command as the island runs it: it names no object. -/
def islandEntry (op : Op) (c : Cmd) (s : State) : Entry :=
  { id := s.cmds.nextId, op := op, source := .mgmt, cc := 0, cmd := c, phase := .executing, objects := [],
    accepted := false, discard := false, joined := [], abortTarget := none, aux := [] }

/-- The state in which the island runs it. -/
def islandOpened (op : Op) (c : Cmd) (s : State) : State :=
  { s with cmds := { s.cmds with entries := s.cmds.entries ++ [islandEntry op c s], nextId := s.cmds.nextId + 1 } }

end Sys2Proof.Machine
end

