-- ==== Sys2Proof/Certificates/Slice0/Obligations.lean ====
section
/-!
DEFINITION. The statements for the provers.
-/

open Sys2Proof Sys2Proof.Machine

/-- NOP (07 R222), IDENTIFY (R216), VERSION_GET (R217), COMMAND_ABORT (R205), EQ_STEER_SET (06 R184), DIAG_WINDOW_MAP (07
R221), COUNTER_READ (12 R376) and TELEMETRY_READ (18 R559): a command that opens in one of its modes with valid parameters
completes with DONE and the RESULT and the change its rule gives; the abort of a save that stands at an abort point cancels
it. -/
def Obligations.DeviceCommandsComplete : Prop :=
  (∀ src c s, opens .nop src c s = true → accepts runModes [reservedBits c 16 1 1, reservedBytes c 17 64] s = true →
    exec (.nop src c) s = .next (completes .nop src c stDone [] id s)) ∧
  (∀ src c s, opens .identify src c s = true → accepts allModes [reservedBytes c 16 64] s = true →
    exec (.identify src c) s = .next (completes .identify src c stDone
      [⟨8, 4, 0x4B488160⟩, ⟨12, 4, 0xA2⟩, ⟨16, 8, Config.serial.toNat⟩, ⟨24, 1, s.boot.straps.nodeId.toNat⟩,
       ⟨25, 1, s.boot.straps.bootSrc.toNat⟩] id s)) ∧
  (∀ src c s, opens .versionGet src c s = true → s.mode.steward = .rhoper →
    accepts runModes [reservedBytes c 16 64] s = true →
    exec (.versionGet src c) s = .next (completes .versionGet src c stDone
      [⟨8, 1, 2⟩, ⟨9, 1, 4⟩, ⟨10, 2, 0⟩, ⟨12, 4, Config.build.toNat⟩, ⟨16, 2, 5⟩,
       ⟨19, 1, bit s.boot.slot + 2 * bit s.boot.trial⟩, ⟨20, 1, 1⟩, ⟨21, 1, 3⟩] id s)) ∧
  (∀ src c s, opens .versionGet src c s = true → s.mode.steward = .rom →
    accepts [.loader, .recovery] [reservedBytes c 16 64] s = true →
    exec (.versionGet src c) s = .next (completes .versionGet src c stDone
      [⟨18, 1, 1⟩, ⟨19, 1, bit s.boot.slot + 2 * bit s.boot.trial⟩, ⟨20, 1, 1⟩, ⟨21, 1, 3⟩] id s)) ∧
  (∀ src c s id t j, opens .commandAbort src c s = true → accepts runModes [reservedBytes c 18 64] s = true →
    s.abortTargetOf .commandAbort src c = some id → (opened .commandAbort src c s).entry id = some t →
    t.op = .settingsSave → t.phase = .executing → s.sets.save = some j → j.done % chunkOps = 0 →
    (s.alw.flashBusy.any fun r => r.job == .settings) = false →
    exec (.commandAbort src c) s = .next (cancelJob t (dropSave (opened .commandAbort src c s)))) ∧
  (∀ src c s, opens .eqSteerSet src c s = true →
    accepts runModes (((List.range 11).map fun f =>
      need (16 + f) (decide (prmByte c (16 + f) = 4) || (decide (6 ≤ prmByte c (16 + f))
        && decide (prmByte c (16 + f) ≤ 63)))) ++ [reservedBytes c 27 64]) s = true →
    ∃ t, exec (.eqSteerSet src c) s = .next t ∧ t.ep.steer = (List.range 11).map (fun f => prmByte c (16 + f)) ∧
      t.ep.cc = (completes .eqSteerSet src c stDone [] id s).ep.cc ∧
      t.link = (completes .eqSteerSet src c stDone [] id s).link) ∧
  (∀ src c s, opens .diagWindowMap src c s = true →
    accepts [.diagnostic] [need 16 (decide (prmByte c 16 ≤ 1) || decide (prmByte c 16 = 255)), reservedBytes c 17 24,
      need 24 (decide (prm c 24 8 % 0x10000 = 0)), reservedBytes c 32 64,
      need 24 (decide (prmByte c 16 = 255)
        || decide (prm c 24 8 + 0xF0000 ≤ if prmByte c 16 = 1 then 0x400000000 else 0x4000000))] s = true →
    exec (.diagWindowMap src c) s = .next (completes .diagWindowMap src c stDone []
      (fun s => { s with window := if prmByte c 16 = 255 then none else some (decide (prmByte c 16 = 1), prm c 24 8) }) s)) ∧
  (∀ src c s, opens .counterRead src c s = true →
    accepts runModes [within c 16 1 0 7, within c 17 1 0 10, hostAddr c 24 64, within c 32 2 1 256, reservedBytes c 34 64,
      need 17 (counterSub (prmByte c 16) (prmByte c 17)),
      need 20 (counterInstance (prmByte c 16) (prmByte c 17) (prm c 20 4)),
      need 32 (decide (prm c 18 2 + prm c 32 2 ≤ 256))] s = true →
    (prmByte c 16 = 3 → ∃ ch ∈ s.voice.channels, ch.id = prm c 20 4) →
    exec (.counterRead src c) s = .next (completes .counterRead src c stDone []
      (hostWrite (prm c 24 8) ((List.range (prm c 32 2)).map fun k =>
        natBytes 8 (s.counter ⟨prmByte c 16, prm c 20 4, prmByte c 17, prm c 18 2 + k⟩)).flatten) s)) ∧
  (∀ src c s, opens .telemetryRead src c s = true →
    accepts runModes [within c 16 1 0 2, within c 17 1 0 71, reservedBytes c 18 64,
      need 17 (decide (prmByte c 16 = 2) || decide (prmByte c 17 = 0))] s = true →
    exec (.telemetryRead src c) s = .next (completes .telemetryRead src c stDone
      (telemetryResult (prmByte c 16) (prmByte c 17) s) id s))

/-- MODE_SET (05 R150 to R152), BOOT_SLOT (R153), DEVICE_RESET (04 R127) and RESET_POLICY_SET (R128): a change between two
modes of Table 5-2 begins a transition; a slot that verifies boots; a COLD or WARM request asserts a reset with its scope; a
policy word goes to the Ledger. -/
def Obligations.ModeAndResetCommandsComplete : Prop :=
  (∀ src c s, opens .modeSet src c s = true → accepts runModes (modeSetChecks c) s = true → prmByte c 16 ≠ 255 →
    modePair s.mode.current (modeOf (prmByte c 16)) = true → s.voice.channels = [] →
    exec (.modeSet src c) s = .next { opened .modeSet src c s with
      mode := { s.mode with transition := some { target := modeOf (prmByte c 16), entry := some s.cmds.nextId, cause := 0 } } }) ∧
  (∀ src c s, opens .modeSet src c s = true → prmByte c 16 = 255 → src ≠ .mgmt →
    accepts (.loader :: .recovery :: runModes) (modeSetChecks c) s = true →
    exec (.modeSet src c) s = .next (completes .modeSet src c stDone [⟨8, 4, modeValue s.mode⟩] id s)) ∧
  (∀ src c s, opens .bootSlot src c s = true → accepts [.recovery] [within c 16 1 0 1, reservedBytes c 17 64] s = true →
    s.slotVerifies (prmByte c 16) = true →
    ∃ t, exec (.bootSlot src c) s = .next t ∧ t.mode.current = .loader ∧ t.mode.previous = .recovery ∧
      t.mode.seq = s.mode.seq + 1 ∧ t.boot.slot = decide (prmByte c 16 = 1) ∧ t.boot.trial = false ∧ t.fw.started = true) ∧
  (∀ src c s, opens .deviceReset src c s = true → src ≠ .mgmt → prmByte c 16 ≠ 3 →
    accepts (.recovery :: runModes) (deviceResetChecks c) s = true →
    exec (.deviceReset src c) s =
      .next (assertReset .deviceReset (decide (prmByte c 16 = 1)) 0 (opened .deviceReset src c s))) ∧
  (∀ src c s, opens .resetPolicySet src c s = true →
    accepts [.standby, .diagnostic] [reservedBits c 16 1 3, reservedBytes c 17 64] s = true →
    exec (.resetPolicySet src c) s = .next (writeWords (entryOf .resetPolicySet src c s) [(wResetPolicy, prmByte c 16)]
      (opened .resetPolicySet src c s)))

/-- The commands that the management island runs itself (07 R219, Table 7-7): IDENTIFY, TELEMETRY_READ, MODE_SET with
TARGET 0xFF and DEVICE_RESET with SCOPE COLD or WARM, in every mode and whatever the Steward does. -/
def Obligations.IslandCommandsComplete : Prop :=
  (∀ c s, islandOpens .identify c = true → reservedBytes c 16 64 = none →
    exec (.identify .mgmt c) s = .next (finish (islandEntry .identify c s) stDone (identifyResult s)
      (islandOpened .identify c s))) ∧
  (∀ c s, islandOpens .telemetryRead c = true →
    badOffset [within c 16 1 0 2, within c 17 1 0 71, reservedBytes c 18 64,
      need 17 (decide (prmByte c 16 = 2) || decide (prmByte c 17 = 0))] = none →
    exec (.telemetryRead .mgmt c) s = .next (finish (islandEntry .telemetryRead c s) stDone
      (telemetryResult (prmByte c 16) (prmByte c 17) s) (islandOpened .telemetryRead c s))) ∧
  (∀ c s, islandOpens .modeSet c = true → badOffset (modeSetChecks c) = none →
    exec (.modeSet .mgmt c) s = .next (finish (islandEntry .modeSet c s) stDone [⟨8, 4, modeValue s.mode⟩]
      (islandOpened .modeSet c s))) ∧
  (∀ c s, islandOpens .deviceReset c = true → badOffset (deviceResetChecks c) = none →
    exec (.deviceReset .mgmt c) s = .next (assertReset .management (decide (prmByte c 16 = 1)) 0
      (finish (islandEntry .deviceReset c s) stDone [] (islandOpened .deviceReset c s))))

/-- GOVERNOR_SET (02 R57, R58), PACE_REPORT (R59), PACE_OFFSET_SET (R60), ALLOWANCE_SET (03 R86, R87) and
ALLOWANCE_REPORT (R88): a configuration that the present voltage covers is in force at once and one that needs a higher
voltage is stepped toward; an allowance change waits for the next boundary; the reports go to host memory. -/
def Obligations.GovernorAndAllowanceCommandsComplete : Prop :=
  (∀ src c s g, opens .governorSet src c s = true →
    accepts [.standby, .service, .drain] [within c 16 1 0 2, within c 17 1 0 2,
      need 18 (decide (650 ≤ prm c 18 2) && decide (prm c 18 2 ≤ 800) && decide (prm c 18 2 % 5 = 0)), within c 20 1 16 128,
      reservedBytes c 21 64, need 18 (decide (prm c 18 2 ≤ pointMv (prmByte c 17)))] s = true →
    ((List.range 64).all fun n => decide (s.coinsOn n ≤ ratedCoins (prmByte c 17))) = true → s.gov.started = true →
    g = { mode := prmByte c 16, point := prmByte c 17, floorMv := prm c 18 2, margin := prmByte c 20 } →
    (match g.mode with
      | 0 => pointMv g.point
      | 1 => ({ s with cfg := { s.cfg with governor := g } } : State).ratedTarget
      | _ => g.floorMv) ≤ s.gov.targetMv →
    exec (.governorSet src c) s = .next (completes .governorSet src c stDone []
      (fun s => stepTarget (min s.gov.targetMv (pointMv g.point))
        { s with cfg := { s.cfg with governor := g }, gov := { s.gov with fault := false } }) s)) ∧
  (∀ src c s g, opens .governorSet src c s = true →
    accepts [.standby, .service, .drain] [within c 16 1 0 2, within c 17 1 0 2,
      need 18 (decide (650 ≤ prm c 18 2) && decide (prm c 18 2 ≤ 800) && decide (prm c 18 2 % 5 = 0)), within c 20 1 16 128,
      reservedBytes c 21 64, need 18 (decide (prm c 18 2 ≤ pointMv (prmByte c 17)))] s = true →
    ((List.range 64).all fun n => decide (s.coinsOn n ≤ ratedCoins (prmByte c 17))) = true → s.gov.started = true →
    g = { mode := 0, point := prmByte c 17, floorMv := prm c 18 2, margin := prmByte c 20 } → prmByte c 16 = 0 →
    s.gov.targetMv < pointMv g.point →
    exec (.governorSet src c) s = .next (stepTarget (toward s.gov.targetMv (pointMv g.point))
      { opened .governorSet src c s with
        cfg := { s.cfg with governor := g }, gov := { s.gov with setEntry := some s.cmds.nextId } })) ∧
  (∀ src c s, opens .paceReport src c s = true → accepts runModes [hostAddr c 16 64, reservedBytes c 24 64] s = true →
    exec (.paceReport src c) s =
      .next (completes .paceReport src c stDone [] (hostWrite (prm c 16 8) (paceReport s)) s)) ∧
  (∀ src c s, opens .paceOffsetSet src c s = true →
    accepts [.standby, .diagnostic] [within c 16 1 0 71, reservedBytes c 18 64] s = true →
    exec (.paceOffsetSet src c) s = .next (writeWords (entryOf .paceOffsetSet src c s)
      [(1416 + prmByte c 16 / 4, withBits (s.word (1416 + prmByte c 16 / 4)).toNat (8 * (prmByte c 16 % 4)) 8 (prmByte c 17))]
      (opened .paceOffsetSet src c s))) ∧
  (∀ src c s new, opens .allowanceSet src c s = true →
    accepts runModes [within c 16 1 0 7, within c 17 1 0 3, reservedBits c 18 1 1, reservedBytes c 19 20,
      reservedBytes c 28 64, need 20 (decide (prm c 20 4 ≤ 256 * ratedCapacity (prmByte c 17))),
      need 24 (background (prmByte c 16) || decide (prm c 24 4 = 0)), need 24 (decide (prm c 24 4 ≤ prm c 20 4))] s = true →
    prmByte c 18 % 2 = 0 → new = s.cfg.allowances.set (4 * prmByte c 16 + prmByte c 17) ⟨prm c 20 4, prm c 24 4⟩ →
    (prmByte c 16 = 4 → prmByte c 17 = 0 → 64 ≤ prm c 24 4) → (prmByte c 16 = 4 → prmByte c 17 = 1 → 2 ≤ prm c 24 4) →
    (List.range 4).all (sumFits new) = true → mediaFits new (s.admitted.map (·.coins)) = true →
    exec (.allowanceSet src c) s = .next { opened .allowanceSet src c s with
      cfg := { s.cfg with allowances := new },
      alw := { s.alw with setEntries := s.alw.setEntries ++ [s.cmds.nextId] } }) ∧
  (∀ src c s, opens .allowanceSet src c s = true →
    accepts runModes [reservedBits c 18 1 1, reservedBytes c 19 20, reservedBytes c 28 64] s = true →
    prmByte c 18 % 2 = 1 → mediaFits defaultAllowances (s.admitted.map (·.coins)) = true →
    exec (.allowanceSet src c) s = .next { opened .allowanceSet src c s with
      cfg := { s.cfg with allowances := defaultAllowances },
      alw := { s.alw with setEntries := s.alw.setEntries ++ [s.cmds.nextId] } }) ∧
  (∀ src c s, opens .allowanceReport src c s = true →
    accepts runModes [hostAddr c 16 64, reservedBytes c 24 64] s = true →
    exec (.allowanceReport src c) s =
      .next (completes .allowanceReport src c stDone [] (hostWrite (prm c 16 8) (allowanceReport s)) s))

/-- SETTINGS_SAVE (07 R213), SETTINGS_STATUS (R214), SETTINGS_REVERT and SETTINGS_FACTORY (R215): a save takes a copy of
the running settings under the next GEN and begins to write the area that R213 chooses; the status is a report in host
memory; a revert or a factory reset replaces the running settings. -/
def Obligations.SettingsCommandsComplete : Prop :=
  (∀ src c s a, opens .settingsSave src c s = true → accepts runModes [reservedBytes c 16 64] s = true →
    s.nextGen ≤ 0xFFFFFFFE → s.mayNotSave = false → s.saveTarget = some a →
    ∃ t, exec (.settingsSave src c) s = .next t ∧
      t.sets.save = some { entry := some s.cmds.nextId, copy := s.cfg, gen := s.nextGen, area := a, done := 0,
                           total := saveOps } ∧ t.cfg = s.cfg ∧ t.sets.areas = s.sets.areas) ∧
  (∀ src c s, opens .settingsStatus src c s = true → accepts runModes [hostAddr c 16 64, reservedBytes c 24 64] s = true →
    exec (.settingsStatus src c) s = .next (completes .settingsStatus src c stDone []
      (fun s => drawn (hostWrite (prm c 16 8) (settingsReport s) s)) s)) ∧
  (∀ src c s x, opens .settingsRevert src c s = true →
    accepts [.standby, .diagnostic] [reservedBytes c 16 64] s = true → s.sets.loaded = some x →
    exec (.settingsRevert src c) s =
      .next (replaceSettings (entryOf .settingsRevert src c s) x (opened .settingsRevert src c s))) ∧
  (∀ src c s, opens .settingsFactory src c s = true → accepts [.standby, .diagnostic] [reservedBytes c 16 64] s = true →
    exec (.settingsFactory src c) s =
      .next (replaceSettings (entryOf .settingsFactory src c s) {} (opened .settingsFactory src c s)))

/-- SESSION_ADD (11 R343), SESSION_MODIFY (R344), SESSION_DELETE and SESSION_QUERY (R345) and RELATCH (R346) at the home
of the session, with no request ahead at its Teller: the entry joins the table with a handle of the place's generation,
changes, leaves it, is reported, or has its address cleared or set. -/
def Obligations.SessionCommandsComplete : Prop :=
  (∀ src c s p rest x, opens .sessionAdd src c s = true → accepts serviceModes (sessionAddChecks c) s = true →
    s.tables.teller = [] → s.homeOf (sessionAddKey c).hash = s.node → s.sessionByKey (sessionAddKey c) = none →
    needsAlias (BitVec.ofNat 8 (prmByte c 16)) = false → s.freePlaces (sessionAddKey c).hash = p :: rest →
    x = newSession c p (sget 1 s.tables.generations p) none →
    exec (.sessionAdd src c) s = .next (completes .sessionAdd src c stDone [⟨8, 4, s.handleOf x⟩, ⟨12, 1, s.node⟩]
      (fun s => { s with tables := { s.tables with sessions := s.tables.sessions ++ [x] } }) s)) ∧
  (∀ src c s p q rest x, opens .sessionAdd src c s = true → accepts serviceModes (sessionAddChecks c) s = true →
    s.tables.teller = [] → s.homeOf (sessionAddKey c).hash = s.node → s.sessionByKey (sessionAddKey c) = none →
    s.sessionByKey { sessionAddKey c with port := (sessionAddKey c).port + 1 } = none →
    needsAlias (BitVec.ofNat 8 (prmByte c 16)) = true → s.freePlaces (sessionAddKey c).hash = p :: q :: rest →
    x = newSession c p (sget 1 s.tables.generations p) (some q) →
    exec (.sessionAdd src c) s = .next (completes .sessionAdd src c stDone [⟨8, 4, s.handleOf x⟩, ⟨12, 1, s.node⟩]
      (fun s => { s with tables := { s.tables with sessions := s.tables.sessions ++ [x] } }) s)) ∧
  (∀ src c s x, opens .sessionModify src c s = true → accepts serviceModes (sessionModifyChecks c) s = true →
    s.tables.teller = [] → handleNode (prm c 16 4) = s.node → s.session (prm c 16 4) = some x → x.runNode = none →
    exec (.sessionModify src c) s =
      .next (completes .sessionModify src c stDone [] (setSession x.index (modifySession c)) s)) ∧
  (∀ src c s x, opens .sessionDelete src c s = true → accepts serviceModes [reservedBytes c 20 64] s = true →
    s.tables.teller = [] → handleNode (prm c 16 4) = s.node → s.session (prm c 16 4) = some x → x.channel = 0 →
    exec (.sessionDelete src c) s =
      .next (completes .sessionDelete src c stDone [] (freeSession (prm c 16 4) x) s)) ∧
  (∀ src c s x, opens .sessionQuery src c s = true →
    accepts serviceModes [reservedBytes c 20 24, hostAddr c 24 64, reservedBytes c 32 64] s = true → (∀ n a, src ≠ .peer n a) →
    s.tables.teller = [] → handleNode (prm c 16 4) = s.node → s.session (prm c 16 4) = some x →
    exec (.sessionQuery src c) s = .next (completes .sessionQuery src c stDone []
      (hostWrite (prm c 24 8) (sessionBytes (prm c 16 4) x)) s)) ∧
  (∀ src c s x, opens .relatch src c s = true → accepts serviceModes (relatchChecks c) s = true →
    s.tables.teller = [] → handleNode (prm c 16 4) = s.node → s.session (prm c 16 4) = some x → x.runNode = none →
    prmByte c 20 % 2 = 0 → latchPolicy x.flags ≠ 2 →
    exec (.relatch src c) s = .next (completes .relatch src c stDone [] (setSession x.index
      (fun _ => { x with epoch := x.epoch + 1, state := 0, remotePort := 0, remoteIp := 0, relatched := true })) s))

/-- CHANNEL_OPEN (09 R280), CHANNEL_MODIFY (R281), CHANNEL_CLOSE (R282) and CHANNEL_QUERY (R283): a channel is admitted on
the engine that 08 R236 chooses; a program within the channel's coins waits for its boundary; a close is held for the next
frame boundary; the query reports the channel. -/
def Obligations.ChannelCommandsComplete : Prop :=
  (∀ src c s a engine, opens .channelOpen src c s = true → accepts [.service] (openChecks c) s = true →
    s.tables.teller = [] → handleNode (openA c) = s.node → s.session (openA c) = some a → a.channel = 0 → openB c = 0 →
    s.chooseEngine (programCoins (programOf c) (isMixer (programOf c))) [] = some engine → s.supplyAdmits = true →
    s.reservedGranules + legGranules (programOf c) .a ((s.cfg.jitter.getD 0 {}).maxMs) ≤ depthPool →
    s.needsRaise engine (programCoins (programOf c) (isMixer (programOf c))) = false →
    exec (.channelOpen src c) s =
      .next (admitChannel (entryOf .channelOpen src c s) engine (opened .channelOpen src c s))) ∧
  (∀ src c s ch, opens .channelModify src c s = true → accepts serviceModes (modifyChecks c) s = true →
    s.tables.teller = [] → s.channel (prm c 16 4) = some ch → ch.state = .running → prm c 20 4 = 0 →
    modifyDenied ch.latest (programOf c) 0 = false →
    programCoins (programOf c) (isMixer (programOf c)) ≤ ch.coins →
    s.reservedGranules - (ch.legA.jb.reserved + ch.legB.jb.reserved) + (legGranules (programOf c) .a ch.legA.jb.cfg.maxMs
      + if ch.legB.session = 0 then 0 else legGranules (programOf c) .b ch.legB.jb.cfg.maxMs) ≤ depthPool →
    ∃ t, exec (.channelModify src c) s = .next t ∧ t.voice.channels = s.voice.channels.map (fun x => if x.id = ch.id then { x with
        next := some (programOf c), coins := programCoins (programOf c) (isMixer (programOf c)),
        level := programLevel (programOf c),
        legA := { x.legA with jb := { x.legA.jb with
          reserved := max x.legA.jb.reserved (legGranules (programOf c) .a ch.legA.jb.cfg.maxMs) } },
        legB := { x.legB with jb := { x.legB.jb with
          reserved := if ch.legB.session = 0 then 0
            else max x.legB.jb.reserved (legGranules (programOf c) .b ch.legB.jb.cfg.maxMs) } } } else x)) ∧
  (∀ src c s ch, opens .channelClose src c s = true → accepts serviceModes [reservedBytes c 20 64] s = true →
    s.channel (prm c 16 4) = some ch →
    exec (.channelClose src c) s = .next (setChannel ch.id (fun x => { x with closing := some (some s.cmds.nextId, s.alw.frame) })
      (opened .channelClose src c s))) ∧
  (∀ src c s ch, opens .channelQuery src c s = true →
    accepts serviceModes [reservedBytes c 20 24, hostAddr c 24 64, reservedBytes c 32 64] s = true → (∀ n a, src ≠ .peer n a) →
    s.channel (prm c 16 4) = some ch →
    exec (.channelQuery src c) s =
      .next (completes .channelQuery src c stDone [] (hostWrite (prm c 24 8) (channelBytes ch s)) s))

/-- JITTER_SET (11 R347), SRTP_KEY_SET (09 R284), FCU_PHASE_SET (10 R313) and FCU_LEVEL_SET (10 R314), for the defaults
and for a leg of a channel that runs here. -/
def Obligations.LegCommandsComplete : Prop :=
  (∀ src c s, opens .jitterSet src c s = true → accepts serviceModes (jitterChecks c) s = true → prm c 16 4 = 0 →
    exec (.jitterSet src c) s = .next (completes .jitterSet src c stDone [] (fun s => { s with cfg := { s.cfg with
      jitter := s.cfg.jitter.set (prmByte c 20) (jitterOf c) } }) s)) ∧
  (∀ src c s ch l, opens .jitterSet src c s = true → accepts serviceModes (jitterChecks c) s = true → prm c 16 4 ≠ 0 →
    s.channel (prm c 16 4) = some ch → ch.state ≠ .suspended → l = legParam c 20 → hasBuffer ch l = true →
    flagUdptl (ch.legOf l).flags = false → (vbd ch.latest = true → prmByte c 21 = 1) →
    legPtime ch.latest (legNum l) ≤ prm c 26 2 →
    s.reservedGranules - (ch.legOf l).jb.reserved + granules ch.latest (legNum l) (prm c 26 2) ≤ depthPool →
    exec (.jitterSet src c) s = .next (completes .jitterSet src c stDone []
      (setLeg ch.id l (fun x => { x with jb := { x.jb with
        next := some (jitterOf c),
        reserved := max (ch.legOf l).jb.reserved (granules ch.latest (legNum l) (prm c 26 2)) } })) s)) ∧
  (∀ src c s ch, opens .srtpKeySet src c s = true → accepts serviceModes [within c 20 1 0 1, within c 21 1 0 1,
      within c 22 1 0 3, reservedBits c 23 1 1, need 24 (decide (prm c 24 8 % 64 = 0)), reservedBytes c 36 64,
      need 24 ((prmByte c 22 == 0) == (prm c 24 8 == 0))] s = true →
    s.channel (prm c 16 4) = some ch → ch.state ≠ .suspended →
    (legParam c 20 = .b → noRtp (pb ch.latest 25) = false) → prmByte c 22 = 0 →
    exec (.srtpKeySet src c) s = .next (completes .srtpKeySet src c stDone [] (installKey c ch.id none) s)) ∧
  (∀ src c s ch, opens .srtpKeySet src c s = true → accepts serviceModes [within c 20 1 0 1, within c 21 1 0 1,
      within c 22 1 0 3, reservedBits c 23 1 1, need 24 (decide (prm c 24 8 % 64 = 0)), reservedBytes c 36 64,
      need 24 ((prmByte c 22 == 0) == (prm c 24 8 == 0))] s = true →
    s.channel (prm c 16 4) = some ch → ch.state ≠ .suspended → (∀ n a, src ≠ .peer n a) →
    (legParam c 20 = .b → noRtp (pb ch.latest 25) = false) → prmByte c 22 ≠ 0 →
    exec (.srtpKeySet src c) s = .next (setEntry s.cmds.nextId (fun x => { x with aux := [1] })
      (opened .srtpKeySet src c s))) ∧
  (∀ src c s new, opens .fcuPhaseSet src c s = true → accepts serviceModes (phaseChecks c) s = true → prm c 16 4 = 0 →
    new = phaseWith c (s.cfg.phase.getD (legNum (legParam c 20)) {}) →
    exec (.fcuPhaseSet src c) s = .next (completes .fcuPhaseSet src c stDone (phaseDefaultReport new)
      (fun s => { s with cfg := { s.cfg with phase := s.cfg.phase.set (legNum (legParam c 20)) new } }) s)) ∧
  (∀ src c s ch l, opens .fcuPhaseSet src c s = true → accepts serviceModes (phaseChecks c) s = true → prm c 16 4 ≠ 0 →
    s.channel (prm c 16 4) = some ch → ch.state ≠ .suspended → l = legParam c 20 → hasPaths ch.latest l = true →
    (prmByte c 21).testBit 1 = true → (prmByte c 21).testBit 2 = false →
    exec (.fcuPhaseSet src c) s = .next (completes .fcuPhaseSet src c stDone (phaseReport ch l s) id s)) ∧
  (∀ src c s, opens .fcuLevelSet src c s = true → accepts serviceModes (levelChecks c) s = true → prm c 16 4 = 0 →
    exec (.fcuLevelSet src c) s = .next (completes .fcuLevelSet src c stDone [] (fun s => { s with cfg := { s.cfg with
      level := s.cfg.level.set (legNum (legParam c 20)) (levelOf c) } }) s)) ∧
  (∀ src c s ch l, opens .fcuLevelSet src c s = true → accepts serviceModes (levelChecks c) s = true → prm c 16 4 ≠ 0 →
    s.channel (prm c 16 4) = some ch → ch.state ≠ .suspended → l = legParam c 20 → hasPaths ch.latest l = true →
    levelOf c ≠ (ch.legOf l).meter.cfg →
    exec (.fcuLevelSet src c) s = .next (completes .fcuLevelSet src c stDone []
      (setLeg ch.id l (fun x => { x with meter := { x.meter with next := some (levelOf c) } })) s))

/-- CONF_CREATE, CONF_ADD_LEG, CONF_REMOVE_LEG and CONF_DESTROY (09 R285) on the node of the conference: a conference of the next
number is created, a single-leg channel becomes its next leg, and a leg that is removed, or every leg of a conference that is
destroyed, leaves at the next frame boundary. The number's form is the model's (log 31). -/
def Obligations.ConferenceCommandsComplete : Prop :=
  (∀ src c s id, opens .confCreate src c s = true →
    accepts serviceModes [within c 16 1 3 64, within c 17 1 0 8, reservedBits c 18 1 1, reservedBytes c 19 64] s = true →
    s.confRoom = true → (∃ n a, src = .peer n a) ∨ s.servicePeers = [] →
    id = s.voice.nextConference % 268435456 * 16 + s.node →
    exec (.confCreate src c) s = .next (completes .confCreate src c stDone [⟨8, 4, id⟩, ⟨12, 1, s.node⟩]
      (fun s => { s with
        voice := { s.voice with
          conferences := s.voice.conferences ++ [⟨id, prmByte c 16, if prmByte c 17 = 0 then 3 else prmByte c 17,
            (prmByte c 18).testBit 0, [], false⟩],
          nextConference := s.voice.nextConference + 1 } }) s)) ∧
  (∀ src c s conf ch coins, opens .confAddLeg src c s = true → accepts serviceModes [reservedBits c 24 1 1,
      need 25 (decide (-12 ≤ prmInt c 25 1) && decide (prmInt c 25 1 ≤ 12)), reservedBytes c 26 64] s = true →
    prm c 16 4 ≠ 0 → s.openConference (prm c 16 4) = some conf → s.channel (prm c 20 4) = some ch →
    s.legDenied ch = none → conf.legs.length < conf.maxLegs →
    coins = programCoins (withCodecB ch.latest 0x11) true → s.admits ch.engine coins (some ch.id) = true →
    s.needsRaise ch.engine (coins - ch.coins) = false →
    exec (.confAddLeg src c) s =
      .next (joinConference (entryOf .confAddLeg src c s) conf ch (opened .confAddLeg src c s))) ∧
  (∀ src c s conf, opens .confRemoveLeg src c s = true → accepts serviceModes [reservedBytes c 24 64] s = true →
    s.openConference (prm c 16 4) = some conf →
    (conf.legs.any fun x => x.channel == prm c 20 4 && !x.leaving) = true →
    exec (.confRemoveLeg src c) s = .next (completes .confRemoveLeg src c stDone []
      (fun s => loadChanged (makeSingle (prm c 20 4) (setConference conf.id (fun x => { x with
        legs := x.legs.map fun l => if l.channel = prm c 20 4 then { l with leaving := true } else l }) s))) s)) ∧
  (∀ src c s conf, opens .confDestroy src c s = true → accepts serviceModes [reservedBytes c 20 64] s = true →
    s.openConference (prm c 16 4) = some conf →
    exec (.confDestroy src c) s = .next (completes .confDestroy src c stDone [] (fun s =>
      loadChanged (setConference conf.id (fun x => { x with ending := true })
        ((conf.legs.filter fun x => !x.leaving).foldl (fun st x => makeSingle x.channel st) s))) s))

/-- TONE_GENERATE (09 R286), TONE_STOP (R287) and TONE_DETECT_SET (R288): a tone waits for the next frame boundary, at
which its command completes; a sounding tone stops at the next boundary; detector settings go to the defaults or to the
legs that LEG_MASK names. -/
def Obligations.ToneCommandsComplete : Prop :=
  (∀ src c s ch, opens .toneGenerate src c s = true → accepts serviceModes (toneChecks c) s = true →
    s.channel (prm c 16 4) = some ch → ch.state ≠ .suspended → noGenerator ch.latest (legParam c 20) = false →
    (prmByte c 21 = 1 → prm c 24 2 ≤ if s.legRate ch (legParam c 20) = 8 then 3400 else 7000) →
    (prmByte c 21 = 1 → prm c 26 2 ≤ if s.legRate ch (legParam c 20) = 8 then 3400 else 7000) →
    exec (.toneGenerate src c) s = .next (setEntry s.cmds.nextId (fun x => { x with aux := [7] })
      (opened .toneGenerate src c s))) ∧
  (∀ src c s ch g, opens .toneStop src c s = true → accepts serviceModes [within c 20 1 0 1, reservedBytes c 21 64] s = true →
    s.channel (prm c 16 4) = some ch → ch.state ≠ .suspended → noGenerator ch.latest (legParam c 20) = false →
    (ch.legOf (legParam c 20)).tone = some g → (ch.legOf (legParam c 20)).toneStopFrame = none →
    exec (.toneStop src c) s = .next (completes .toneStop src c stDone [⟨8, 1, 1⟩] (fun s => setLeg ch.id (legParam c 20)
      (fun x => { x with toneStopFrame := some (s.alw.frame + 1) }) s) s)) ∧
  (∀ src c s ch, opens .toneStop src c s = true → accepts serviceModes [within c 20 1 0 1, reservedBytes c 21 64] s = true →
    s.channel (prm c 16 4) = some ch → ch.state ≠ .suspended → noGenerator ch.latest (legParam c 20) = false →
    (ch.legOf (legParam c 20)).tone = none →
    exec (.toneStop src c) s = .next (completes .toneStop src c stDone [⟨8, 1, 0⟩] id s)) ∧
  (∀ src c s, opens .toneDetectSet src c s = true → accepts serviceModes (detectChecks c) s = true → prm c 16 4 = 0 →
    exec (.toneDetectSet src c) s = .next (completes .toneDetectSet src c stDone [] (fun s => { s with cfg := { s.cfg with
      detect := s.cfg.detect.mapIdx fun i x => if (prmByte c 20).testBit i then detectOf c else x } }) s)) ∧
  (∀ src c s ch, opens .toneDetectSet src c s = true → accepts serviceModes (detectChecks c) s = true → prm c 16 4 ≠ 0 →
    s.channel (prm c 16 4) = some ch → ch.state ≠ .suspended → prmByte c 20 = 1 →
    exec (.toneDetectSet src c) s = .next (completes .toneDetectSet src c stDone []
      (setLeg ch.id .a (fun x => { x with detectNext := some (detectOf c) })) s))

/-- TB_CONFIG_SET (13 R405), TB_ADJUST (R406), TB_TIME_GET (R407), PPS_SET (R408), PTP_PORT_SET (R409), LAUNCH_QUEUE_SET
(R410) and LAUNCH_CANCEL (R411): each completes with its configuration in force; an adjustment answers the value before
it; a cancel takes the packets with the launch time out of the queue. -/
def Obligations.TimeCommandsComplete : Prop :=
  (∀ src c s, opens .tbConfigSet src c s = true → accepts runModes (tbConfigChecks c) s = true →
    (tbConfigOf c).enable = true → (tbConfigOf c).role = (s.tbCfg (prmByte c 16)).role →
    exec (.tbConfigSet src c) s =
      .next (completes .tbConfigSet src c stDone [] (tbConfigure (prmByte c 16) (tbConfigOf c)) s)) ∧
  (∀ src c s, opens .tbConfigSet src c s = true → accepts runModes (tbConfigChecks c) s = true →
    s.tbNamed (prmByte c 16) = false →
    exec (.tbConfigSet src c) s =
      .next (completes .tbConfigSet src c stDone [] (tbConfigure (prmByte c 16) (tbConfigOf c)) s)) ∧
  (∀ src c s i, opens .tbAdjust src c s = true → accepts runModes (tbAdjustChecks c) s = true → i = prmByte c 16 →
    s.tbOn i = true → (s.tbCfg i).source = 0 →
    exec (.tbAdjust src c) s = .next (completes .tbAdjust src c stDone [⟨8, 12, timeField (s.tbValue i)⟩] (fun s =>
      match prmByte c 17 with
      | 0 => setTb i (fun b => b.withRate s.now (prmInt c 20 4)) (tbSync i s)
      | 1 => tbJump i (((s.tbValue i : Int) + prmInt c 24 8) % (2 ^ 48 * tbSecond : Nat)).toNat s
      | _ => tbJump i (fieldTime (prm c 32 12)) s) s)) ∧
  (∀ src c s i, opens .tbTimeGet src c s = true → accepts runModes [within c 16 1 0 3, reservedBytes c 17 64] s = true →
    i = prmByte c 16 →
    exec (.tbTimeGet src c) s = .next (completes .tbTimeGet src c stDone [⟨8, 12, timeField (s.tbValue i)⟩,
      ⟨20, 1, (s.tb i).state.code⟩, ⟨21, 1, (s.tbCfg i).source⟩, ⟨22, 4, twos 4 (s.tb i).rate⟩] id s)) ∧
  (∀ src c s, opens .ppsSet src c s = true → accepts runModes (ppsChecks c) s = true →
    (prmByte c 16 ≤ 3 → (prmByte c 17).testBit 0 = true → s.tbOn (prmByte c 18) = true) →
    exec (.ppsSet src c) s = .next (completes .ppsSet src c stDone [] (fun s => { s with cfg := { s.cfg with
      pps := s.cfg.pps.set (prmByte c 16) ⟨(prmByte c 17).testBit 0, (prmByte c 17).testBit 1, prmByte c 18,
        prmInt c 20 4, prm c 24 4⟩ } }) s)) ∧
  (∀ src c s, opens .ptpPortSet src c s = true → accepts runModes (ptpPortChecks c) s = true →
    prm c 48 16 = 0 → (ptpPortOf c).enable = false →
    exec (.ptpPortSet src c) s = .next (completes .ptpPortSet src c stDone [] (fun s => { s with cfg := { s.cfg with
      ptpPorts := s.cfg.ptpPorts.set (prmByte c 16) (ptpPortOf c) } }) s)) ∧
  (∀ src c s, opens .ptpPortSet src c s = true → accepts runModes (ptpPortChecks c) s = true →
    prm c 48 16 = 0 → (ptpPortOf c).enable = true → (s.cfg.ptpPorts.getD (prmByte c 16) {}).enable = false →
    (s.tbCfg (ptpPortOf c).tb).role = 2 → (s.tbCfg (ptpPortOf c).tb).profile = 0 →
    exec (.ptpPortSet src c) s = .next (completes .ptpPortSet src c stDone [] (fun s => { s with cfg := { s.cfg with
      ptpPorts := s.cfg.ptpPorts.set (prmByte c 16) (ptpPortOf c) } }) s)) ∧
  (∀ src c s, opens .launchQueueSet src c s = true → accepts runModes (launchSetChecks c) s = true →
    ((launchCfgOf c).timed = true → s.tbOn (launchCfgOf c).tb = true) →
    (prmByte c 18).testBit 2 = false →
    (launchCfgOf c).timed = (s.launchCfg (prmByte c 16) (prmByte c 17)).timed →
    (launchCfgOf c).tb = (s.launchCfg (prmByte c 16) (prmByte c 17)).tb →
    (launchCfgOf c).offsetNs = (s.launchCfg (prmByte c 16) (prmByte c 17)).offsetNs →
    (launchCfgOf c).staggerNs = (s.launchCfg (prmByte c 16) (prmByte c 17)).staggerNs →
    exec (.launchQueueSet src c) s = .next (completes .launchQueueSet src c stDone [] (fun s => { s with cfg := { s.cfg with
      launch := s.cfg.launch.set (8 * prmByte c 16 + prmByte c 17) (launchCfgOf c) } }) s)) ∧
  (∀ src c s, opens .launchQueueSet src c s = true → accepts runModes (launchSetChecks c) s = true →
    ((launchCfgOf c).timed = true → s.tbOn (launchCfgOf c).tb = true) →
    (s.launchQueue (prmByte c 16) (prmByte c 17)).packets = [] → (prmByte c 18).testBit 2 = false →
    (launchCfgOf c).offsetNs ≠ (s.launchCfg (prmByte c 16) (prmByte c 17)).offsetNs →
    exec (.launchQueueSet src c) s = .next (completes .launchQueueSet src c stDone []
      (fun s => { setQueue (prmByte c 16) (prmByte c 17) (fun q => { q with lastGranted := none, committed := none }) s with
        cfg := { s.cfg with launch := s.cfg.launch.set (8 * prmByte c 16 + prmByte c 17) (launchCfgOf c) } }) s)) ∧
  (∀ src c s q n, opens .launchCancel src c s = true → accepts runModes [within c 16 1 0 7, within c 17 1 0 7,
      reservedBytes c 18 20, need 24 (timeOk (prm c 24 12)), reservedBytes c 36 64] s = true →
    (s.launchCfg (prmByte c 16) (prmByte c 17)).timed = true → q = s.launchQueue (prmByte c 16) (prmByte c 17) →
    n = (q.packets.filter fun p => p.launch == fieldTime (prm c 24 12)
      && (prm c 20 4 == 0 || prm c 20 4 == p.channel)).length → 0 < n → q.committed = none →
    exec (.launchCancel src c) s = .next (completes .launchCancel src c stDone [⟨8, 2, n⟩, ⟨10, 2, 0⟩] (fun s =>
      countBy (launchCtr (prmByte c 16) (prmByte c 17) 3) n (setQueue (prmByte c 16) (prmByte c 17) (fun q => { q with
        packets := q.packets.filter fun p => !(p.launch == fieldTime (prm c 24 12)
          && (prm c 20 4 == 0 || prm c 20 4 == p.channel)) }) s)) s))

/-- PORT_SET (12 R374), PORT_STATUS (R375), STATION_ADD, STATION_DELETE and STATION_QUERY (11 R348): a port takes its
configuration, restarting where R374 says so; a static station joins, replaces or leaves the table of its home. -/
def Obligations.PortAndStationCommandsComplete : Prop :=
  (∀ src c s old, opens .portSet src c s = true → accepts runModes (portSetChecks c) s = true →
    (s.port (prmByte c 16)).state ≠ .reset → old = s.portCfg (prmByte c 16) →
    (portCfgOf c).enable = old.enable → (portCfgOf c).speed = old.speed → (portCfgOf c).fec = old.fec →
    exec (.portSet src c) s = .next (completes .portSet src c stDone [] (fun s => { s with cfg := { s.cfg with
      ports := s.cfg.ports.set (prmByte c 16) (portCfgOf c) } }) s)) ∧
  (∀ src c s old, opens .portSet src c s = true → accepts runModes (portSetChecks c) s = true →
    (s.port (prmByte c 16)).state ≠ .reset → old = s.portCfg (prmByte c 16) → (portCfgOf c).enable ≠ old.enable →
    exec (.portSet src c) s = .next (completes .portSet src c stDone [] (fun s => startPort (prmByte c 16) 4 0
      (abortFrames (prmByte c 16) { s with cfg := { s.cfg with
        ports := s.cfg.ports.set (prmByte c 16) (portCfgOf c) } })) s)) ∧
  (∀ src c s x g, opens .portStatus src c s = true → accepts runModes [within c 16 1 0 7, reservedBytes c 17 64] s = true →
    x = s.port (prmByte c 16) → g = s.portCfg (prmByte c 16) →
    exec (.portStatus src c) s = .next (completes .portStatus src c stDone
      [⟨8, 1, x.state.code⟩, ⟨9, 1, g.speed⟩, ⟨10, 1, bit g.fec + 2 * bit g.outer88a8⟩,
       ⟨11, 1, bit x.blockLock + 2 * bit x.fecLock + 4 * bit x.hiBer + 8 * bit x.localFault + 16 * bit x.remoteFault⟩,
       ⟨12, 2, g.maxFrame⟩, ⟨14, 6, bytesNat (natBytes 6 g.mac.toNat).reverse⟩, ⟨20, 8, x.changedPeriod⟩] id s)) ∧
  (∀ src c s, opens .stationAdd src c s = true → accepts runModes (stationAddChecks c) s = true → prmByte c 16 % 2 = 1 →
    exec (.stationAdd src c) s = .next (completes .stationAdd src c stDone [] (fun s => { s with cfg := { s.cfg with
      moveHoldMs := prm c 28 2, ageS := prm c 30 2 } }) s)) ∧
  (∀ src c s k, opens .stationAdd src c s = true → accepts runModes (stationAddChecks c) s = true →
    prmByte c 16 % 2 = 0 → k = stationKeyOf c → s.homeOf (stationHash k) = s.node → s.tables.teller = [] →
    s.station k = none → s.tables.stations.length < 4096 →
    exec (.stationAdd src c) s = .next (completes .stationAdd src c stDone [] (fun s => sendMembers k (putStation
      ⟨k, prmByte c 26, prmByte c 27, true, 0, 0⟩ (keepStatic k (some ⟨k, prmByte c 26, prmByte c 27⟩) s))) s)) ∧
  (∀ src c s k x, opens .stationDelete src c s = true → accepts runModes (stationKeyChecks c) s = true →
    k = stationKeyOf c → s.homeOf (stationHash k) = s.node → s.tables.teller = [] → s.station k = some x →
    exec (.stationDelete src c) s = .next (completes .stationDelete src c stDone []
      (fun s => sendMembers k (dropStation k (keepStatic k none s))) s)) ∧
  (∀ src c s x, opens .stationQuery src c s = true → accepts runModes (stationKeyChecks c) s = true →
    s.station (stationKeyOf c) = some x →
    exec (.stationQuery src c) s = .next (completes .stationQuery src c stDone
      [⟨8, 1, x.node⟩, ⟨9, 1, x.port⟩, ⟨10, 1, bit x.isStatic⟩, ⟨12, 8, x.lastSeenPeriod⟩] id s))

/-- LANE_SET (14 R439), LANE_EQ_TABLE_SET (R440), EYE_SCAN (R441), LANE_LOOPBACK (R442), PRBS_SET (R443), PRBS_CHECK (R444)
and ERROR_INJECT (R445): a lane takes its configuration, its table its words, a scan begins, and a test begins or ends. -/
def Obligations.LaneCommandsComplete : Prop :=
  (∀ src c s, opens .laneSet src c s = true → accepts runModes (laneSetChecks c) s = true →
    (prmByte c 17).testBit 5 = true →
    exec (.laneSet src c) s =
      .next (finishLane (entryOf .laneSet src c s) (prmByte c 16) (opened .laneSet src c s))) ∧
  (∀ src c s new old, opens .laneSet src c s = true → accepts runModes (laneSetChecks c) s = true →
    (prmByte c 17).testBit 5 = false → prmByte c 16 < 8 → old = s.laneCfg (prmByte c 16) →
    new = { txInvert := (prmByte c 17).testBit 0, rxPolarityFixed := (prmByte c 17).testBit 1,
            rxInvert := (prmByte c 17).testBit 2, adaptFreeze := (prmByte c 17).testBit 3,
            txOff := (prmByte c 17).testBit 4, txMain := prmByte c 18, txPre := prmByte c 19, txPost := prmByte c 20 } →
    new.txInvert = old.txInvert → new.rxPolarityFixed = old.rxPolarityFixed → new.rxInvert = old.rxInvert →
    new.txOff = old.txOff → new.adaptFreeze = false →
    exec (.laneSet src c) s = .next (finishLane (entryOf .laneSet src c s) (prmByte c 16) (setLane (prmByte c 16)
      (fun x => { x with
        txMain := new.txMain, txPre := new.txPre, txPost := new.txPost,
        eqSource := if new.txMain = 54 ∧ new.txPre = 3 ∧ new.txPost = 6 then 0 else 2 })
      { opened .laneSet src c s with cfg := { s.cfg with lanes := s.cfg.lanes.set (prmByte c 16) new } }))) ∧
  (∀ src c s t, opens .laneEqTableSet src c s = true → accepts runModes (eqTableChecks c) s = true →
    (prmByte c 17).testBit 0 = false → (prmByte c 17).testBit 1 = false → t = prmByte c 16 - 8 →
    exec (.laneEqTableSet src c) s = .next (writeWords (entryOf .laneEqTableSet src c s)
      [(1024 + 4 * t, prm c 20 4 % 2147483648), (1024 + 4 * t + 1, prm c 24 4), (1024 + 4 * t + 2, prm c 28 4),
       (1024 + 4 * t + 3, prm c 32 4), (1024 + 4 * t, prm c 20 4)] (opened .laneEqTableSet src c s))) ∧
  (∀ src c s, opens .eyeScan src c s = true → accepts runModes [within c 16 1 0 39, need 17 (stepOk (prmByte c 17)),
      need 18 (stepOk (prmByte c 18)), within c 19 1 20 36, hostAddr c 24 64, reservedBytes c 32 64] s = true →
    scannable (s.lane (prmByte c 16)).state = true → 64 + 8 * gridPoints (prmByte c 17) (prmByte c 18) ≤ prm c 20 4 →
    ∃ t, exec (.eyeScan src c) s = .next t ∧ t.lanes.scans = s.lanes.scans ++ [⟨s.cmds.nextId, prmByte c 16, prmByte c 17,
      prmByte c 18, prmByte c 19, prm c 24 8, gridPoints (prmByte c 17) (prmByte c 18), 0, false⟩] ∧
      t.lanes.lanes = s.lanes.lanes) ∧
  (∀ src c s, opens .laneLoopback src c s = true →
    accepts [.diagnostic] [within c 16 1 0 39, within c 17 1 0 3, reservedBytes c 18 64] s = true →
    exec (.laneLoopback src c) s = .next (completes .laneLoopback src c stDone [] (fun s => testChanged (prmByte c 16)
      (setLane (prmByte c 16) (fun x => { x with
        loop := prmByte c 17, prbsGen := if prmByte c 17 = 3 then 0 else x.prbsGen }) s)) s)) ∧
  (∀ src c s, opens .prbsSet src c s = true →
    accepts [.diagnostic] [within c 16 1 0 39, within c 17 1 0 6, reservedBits c 18 1 1, reservedBytes c 19 64] s = true →
    (s.lane (prmByte c 16)).state ≠ .off → (s.lane (prmByte c 16)).loop ≠ 3 →
    exec (.prbsSet src c) s = .next (completes .prbsSet src c stDone [] (fun s => testChanged (prmByte c 16)
      (setLane (prmByte c 16) (fun x => { x with
        prbsGen := prmByte c 17, prbsGenInvert := (prmByte c 18).testBit 0 }) s)) s)) ∧
  (∀ src c s l s2, opens .prbsCheck src c s = true → accepts [.diagnostic] [within c 16 1 0 39, within c 17 1 0 2,
      within c 18 1 0 6, reservedBits c 19 1 1, reservedBytes c 20 64,
      need 18 (if prmByte c 17 = 1 then prmByte c 18 != 0 else prmByte c 18 == 0),
      need 19 (prmByte c 17 == 1 || prmByte c 19 == 0)] s = true → prmByte c 17 = 1 → l = prmByte c 16 →
    s2 = testChanged l (setLane l (fun x => { x with
      checker := prmByte c 18, checkerInvert := (prmByte c 19).testBit 0, checkerRunning := true, checkerStarted := true,
      checkerLocked := false, checkerBits := s.counter (laneCtr l 8), checkerErrs := s.counter (laneCtr l 9) })
      (opened .prbsCheck src c s)) →
    exec (.prbsCheck src c) s = .next (finish (entryOf .prbsCheck src c s) stDone (prbsReport l s2) s2)) ∧
  (∀ src c s, opens .errorInject src c s = true → accepts [.diagnostic] [within c 16 1 0 39, within c 17 1 0 2,
      reservedBytes c 18 24, need 24 (prm c 24 8 == 0 || decide (1000 ≤ prm c 24 8 ∧ prm c 24 8 ≤ 1000000000000)),
      reservedBytes c 32 64, need 24 (if prmByte c 17 = 2 then prm c 24 8 != 0 else prm c 24 8 == 0)] s = true →
    (s.lane (prmByte c 16)).state ≠ .off →
    exec (.errorInject src c) s = .next (completes .errorInject src c stDone [] (fun s =>
      let s1 := setLane (prmByte c 16) (fun x => { x with injectInterval := if prmByte c 17 = 2 then prm c 24 8 else 0 }) s
      if prmByte c 17 = 1 then injectBit (prmByte c 16) s1 else s1) s))

/-- CLUSTER_JOIN (15 R477), CLUSTER_LEAVE (R478), CLUSTER_STATUS (R479) and CHANNEL_MIGRATE (R480): SIZE takes its value and
the links follow, another member is told to reset, the status is reported, and a move to another member begins. -/
def Obligations.ClusterCommandsComplete : Prop :=
  (∀ src c s, opens .clusterJoin src c s = true → accepts [.standby, .diagnostic]
      [need 16 (prmByte c 16 == 1 || prmByte c 16 == 2 || prmByte c 16 == 4 || prmByte c 16 == 8 || prmByte c 16 == 16),
       reservedBytes c 17 64] s = true → s.node < prmByte c 16 → s.tables.sessions = [] → prmByte c 16 ≠ s.cfg.clusterSize →
    exec (.clusterJoin src c) s = .next (completes .clusterJoin src c stDone [] (setSize (prmByte c 16)) s)) ∧
  (∀ src c s, opens .clusterLeave src c s = true →
    accepts [.standby, .diagnostic] [within c 17 1 0 2, reservedBytes c 18 64] s = true →
    prmByte c 16 = 255 → prmByte c 17 = 0 → s.tables.sessions = [] → s.cluster.view = none →
    exec (.clusterLeave src c) s = .next (completes .clusterLeave src c stDone [] (setSize 1) s)) ∧
  (∀ src c s n, opens .clusterLeave src c s = true → accepts runModes [within c 17 1 1 2, reservedBytes c 18 64] s = true →
    n = prmByte c 16 → n ≤ 15 → n ≠ s.node → (s.route n).isSome = true →
    ∃ t, exec (.clusterLeave src c) s = .next t ∧ t.cluster.leaveWait = some (s.cmds.nextId, n, s.now) ∧
      t.lanes = (tySend n (.reset (prmByte c 17 == 1)) 1 (opened .clusterLeave src c s)).lanes) ∧
  (∀ src c s, opens .clusterStatus src c s = true → accepts runModes [hostAddr c 16 64, reservedBytes c 24 64] s = true →
    exec (.clusterStatus src c) s =
      .next (completes .clusterStatus src c stDone [] (hostWrite (prm c 16 8) (clusterBytes s)) s)) ∧
  (∀ src c s ch, opens .channelMigrate src c s = true →
    accepts serviceModes [need 20 (decide (prmByte c 20 ≤ 15) || prmByte c 20 == 0xFF), reservedBytes c 21 64] s = true →
    (∀ n a, src ≠ .peer n a) → s.channel (prm c 16 4) = some ch → ch.state ≠ .suspended → ch.conference = none →
    prmByte c 20 ≠ 255 → prmByte c 20 ≠ s.node → prmByte c 20 ∈ s.servicePeers →
    exec (.channelMigrate src c) s = .next (startMove ch (prmByte c 20) 1 0 (some s.cmds.nextId)
      (accept (entryOf .channelMigrate src c s) (opened .channelMigrate src c s))))

/-- LEDGER_STATUS (17 R538), CAL_OFFSET_SET (R539), IMAGE_DOWNLOAD (R527, R540), IMAGE_VERIFY (R528), IMAGE_ACTIVATE (R529),
IMAGE_CONFIRM (R531) and IMAGE_STATUS (R544): the reports go to host memory, an offset and a confirmation to the Ledger, a
chunk to its place, and a verified image's header to its slot or its activation to BOOT_CTRL. -/
def Obligations.StorageCommandsComplete : Prop :=
  (∀ src c s, opens .ledgerStatus src c s = true → accepts runModes [within c 16 2 0 4095, within c 18 2 0 1024,
      reservedBytes c 20 24, hostAddr c 24 64, reservedBytes c 32 64, need 18 (decide (prm c 16 2 + prm c 18 2 ≤ 4096))] s
      = true →
    exec (.ledgerStatus src c) s = .next (completes .ledgerStatus src c stDone []
      (hostWrite (prm c 24 8) (ledgerReport (prm c 16 2) (prm c 18 2) s)) s)) ∧
  (∀ src c s t, opens .calOffsetSet src c s = true → t = prm c 16 2 → accepts [.standby, .diagnostic]
      [within c 16 2 0 140, reservedBits c 20 1 1, reservedBytes c 21 64,
       need 18 (decide ((calRange t).1.1 ≤ prmInt c 18 2) && decide (prmInt c 18 2 ≤ (calRange t).1.2)),
       need 20 (prmByte c 20 % 2 = 0 || prmInt c 18 2 = 0)] s = true → prmByte c 20 % 2 = 0 →
    exec (.calOffsetSet src c) s = .next (writeWords (entryOf .calOffsetSet src c s)
      [(1440 + t / 2, withBits (s.word (1440 + t / 2)).toNat (16 * (t % 2)) 16 (prm c 18 2))]
      (opened .calOffsetSet src c s))) ∧
  (∀ src c s, opens .imageDownload src c s = true →
    accepts (.loader :: .recovery :: runModes) (downloadChecks c) s = true →
    s.downloadDenied (prmByte c 16) ((prmByte c 17).testBit 0) = false →
    (4096 ≤ prm c 20 4 → prm c 20 4 = s.fw.expected) → (prmByte c 17).testBit 1 = true →
    exec (.imageDownload src c) s = .next (downloadData (entryOf .imageDownload src c s)
      (natBytes (prm c 24 4) (prm c 32 32)) (opened .imageDownload src c s))) ∧
  (∀ src c s, opens .imageDownload src c s = true → src ≠ .mgmt →
    accepts (.loader :: .recovery :: runModes) (downloadChecks c) s = true →
    s.downloadDenied (prmByte c 16) ((prmByte c 17).testBit 0) = false →
    (4096 ≤ prm c 20 4 → prm c 20 4 = s.fw.expected) → (prmByte c 17).testBit 1 = false →
    exec (.imageDownload src c) s = .next (setEntry s.cmds.nextId (fun x => { x with aux := [1] })
      (accept (entryOf .imageDownload src c s) (opened .imageDownload src c s)))) ∧
  (∀ src c s h s1, opens .imageVerify src c s = true →
    accepts runModes [within c 16 1 0 1, reservedBytes c 17 64] s = true →
    s1 = accept (entryOf .imageVerify src c s) (opened .imageVerify src c s) → s1.stagedReason (prmByte c 16) = (h, 0) →
    exec (.imageVerify src c) s = .next (programHeader (entryOf .imageVerify src c s) (prmByte c 16) h s1)) ∧
  (∀ src c s s1, opens .imageActivate src c s = true → accepts runModes (activateChecks c) s = true →
    s1 = accept (entryOf .imageActivate src c s) (opened .imageActivate src c s) → s1.mode = s.mode →
    s1.activateDenied c = false → s1.slotVerifies (prmByte c 16) = true →
    exec (.imageActivate src c) s =
      .next (writeWords (entryOf .imageActivate src c s) (s1.activateWords c) s1)) ∧
  (∀ src c s, opens .imageConfirm src c s = true → accepts runModes [reservedBits c 16 1 3, reservedBytes c 17 64] s = true →
    s.trialOpen = true → s.fw.revertReset = false → s.bootCtrl.testBit 5 = false →
    (s.sets.unreadable = true → (prmByte c 16).testBit 0 = true) →
    exec (.imageConfirm src c) s = .next (writeWords (entryOf .imageConfirm src c s) [(wBootCtrl, 3 * bitsOf s.bootCtrl 1 1)]
      { opened .imageConfirm src c s with
        fw := { s.fw with
          burnDue := if (prmByte c 16).testBit 1 then 0 else hdr (s.slot (bitsOf s.bootCtrl 1 1)).header 32 8 } })) ∧
  (∀ src c s, opens .imageStatus src c s = true → accepts runModes [hostAddr c 16 1, reservedBytes c 24 64] s = true →
    exec (.imageStatus src c) s = .next (completes .imageStatus src c stDone []
      (fun s => drawn (hostWrite (prm c 16 8) (imageReport s) s)) s))

/-- ENGINE_CONFIG_SET (08 R248), ENGINE_STATUS (R249), ENGINE_TEST (R250), FAULT_LOG_READ (16 R505), RETIRE and REINSTATE (R506)
and RETIREMENT_MAP_GET (R507): a configuration is in force, a test begins with a transient descriptor where one is free, the
reports go to host memory, and a unit leaves or returns to service. -/
def Obligations.EngineAndFaultCommandsComplete : Prop :=
  (∀ src c s, opens .engineConfigSet src c s = true → accepts [.diagnostic]
      [need 24 (decide (prmByte c 24 ≤ 1) || decide (prmByte c 24 = 255)), reservedBits c 25 1 1, reservedBytes c 26 28,
       within c 28 4 0 76800, reservedBytes c 32 64, need 28 (decide (prmByte c 25 % 2 = 1) || decide (prm c 28 4 = 0))] s
      = true →
    exec (.engineConfigSet src c) s = .next (completes .engineConfigSet src c stDone [] (fun s => { s with
      board := { s.board with
        engines := s.board.engines.mapIdx fun i x =>
          if prmByte c 24 ≤ 1 ∧ (prm c 16 8).testBit i then { x with preempt := decide (prmByte c 24 = 1) } else x,
        reserveCoins := if decide (prmByte c 25 % 2 = 1) then prm c 28 4 else s.board.reserveCoins } }) s)) ∧
  (∀ src c s, opens .engineStatus src c s = true → accepts [.diagnostic] [hostAddr c 16 64, reservedBytes c 24 64] s = true →
    exec (.engineStatus src c) s =
      .next (completes .engineStatus src c stDone [] (hostWrite (prm c 16 8) (engineReport s)) s)) ∧
  (∀ src c s, opens .engineTest src c s = true → accepts [.diagnostic] [within c 16 1 0 63, reservedBytes c 17 18,
      within c 18 2 1 1000, reservedBytes c 20 64] s = true →
    (∀ j ∈ s.board.tests, j.holds = true ∧ j.entry ≠ s.cmds.nextId) →
    ∃ t, exec (.engineTest src c) s = .next t ∧
      t.board.tests = s.board.tests ++
        [⟨s.cmds.nextId, prmByte c 16, prm c 18 2, 0, decide (0 < s.board.transientFree), 0⟩] ∧
      t.board.transientFree = s.board.transientFree - 1 ∧ t.board.engines = s.board.engines) ∧
  (∀ src c s out, opens .faultLogRead src c s = true → accepts runModes (logChecks c) s = true → prmByte c 22 % 2 = 0 →
    out = ((s.faults.log ++ s.faults.staged).filter fun r => seqAfter r.seq (BitVec.ofNat 32 (prm c 16 4))).take
      (prm c 20 2) → out ≠ [] →
    exec (.faultLogRead src c) s = .next (completes .faultLogRead src c stDone [⟨8, 2, out.length⟩, ⟨10, 1, 0⟩,
      ⟨12, 4, ((s.faults.log ++ s.faults.staged).head?.map fun r => r.seq.toNat).getD s.faults.nextSeq.toNat⟩,
      ⟨16, 4, s.faults.nextSeq.toNat⟩] (hostWrite (prm c 24 8) (out.map recordBytes).flatten) s)) ∧
  (∀ src c s, opens .retire src c s = true → accepts runModes (unitChecks c) s = true → prmByte c 16 = 1 →
    s.laneRetired (prm c 18 2) = false →
    exec (.retire src c) s = .next (completes .retire src c stDone [] (retireLane (prm c 18 2) 9 true) s)) ∧
  (∀ src c s n, opens .retire src c s = true → accepts runModes (unitChecks c) s = true → prmByte c 16 = 0 → n = prm c 18 2 →
    (s.engine n).retired = false →
    exec (.retire src c) s = .next (settleRetires (grantAll (retireEngine n 9
      (setEntry s.cmds.nextId (fun x => { x with aux := [8, n] }) (opened .retire src c s)))))) ∧
  (∀ src c s, opens .reinstate src c s = true → accepts [.standby, .diagnostic] (unitChecks c) s = true →
    prmByte c 16 = 1 → s.laneRetired (prm c 18 2) = true →
    exec (.reinstate src c) s = .next (completes .reinstate src c stDone [] (reinstateLane (prm c 18 2)) s)) ∧
  (∀ src c s, opens .reinstate src c s = true → accepts [.standby, .diagnostic] (unitChecks c) s = true →
    prmByte c 16 = 0 → (s.engine (prm c 18 2)).retired = true → s.blockInReset (prm c 18 2) = false →
    exec (.reinstate src c) s = .next (completes .reinstate src c stDone [] (reinstateEngine (prm c 18 2)) s)) ∧
  (∀ src c s, opens .retirementMapGet src c s = true →
    accepts runModes [hostAddr c 16 64, reservedBytes c 24 64] s = true →
    exec (.retirementMapGet src c) s =
      .next (completes .retirementMapGet src c stDone [] (hostWrite (prm c 16 8) (mapReport s)) s))

/-- COMMAND_BEGIN (07 R202), CQ_ENTRY_TAKE (06 R173), DMB_TAKE (R167), MGMT_MB_TAKE (18 R557) and RETRY_ENTRY_LAPSE (07 R207):
the first waiting command that nothing holds back begins; the first queue of the round with an entry and a free completion
slot gives the entry at its HEAD; a submitted mailbox command, whose fetch HOSTDMA is granted, is taken once; a record lapses
60 s after its final completion. -/
def Obligations.TakesComplete : Prop :=
  (∀ s e, s.cmds.entries.find? s.ready = some e → exec .commandBegin s = .next (begin_ (beginOf e.op) e s)) ∧
  (∀ s q d rest, s.running = true → s.endpointOn = true → s.ep.dmb.busy = false →
    (∀ k ∈ [0, 1, 2, 3], s.offers k = true → s.slotFree k = true) →
    (s.roundOrder.find? fun k => s.offers k && s.slotFree k) = some q → q < 4 → (s.ep.cq.getD q {}).staging = d :: rest →
    (s.ep.cq.getD q {}).head ∉ (s.ep.cq.getD q {}).cancelled →
    exec .cqEntryTake s = .next (takeCode (descriptorCode d)
      (.cq (Fin.ofNat 4 q) (Fin.ofNat 4096 (s.ep.cq.getD q {}).head)) (descriptorCmd d) { s with
        ep := { s.ep with
          cq := upd s.ep.cq q (fun c => { c with
            head := (c.head + 1) % 2 ^ c.log2, staging := rest, fetchHold := false,
            cancelled := c.cancelled.filter fun x => x != (s.ep.cq.getD q {}).head }),
          roundQueue := q, roundTaken := if q = s.ep.roundQueue ∧ s.ep.roundTaken < max 1 (s.ep.cq.getD q {}).weight
            then s.ep.roundTaken + 1 else 1 } })) ∧
  (∀ s s1, s.takes .dmb = true → s.endpointOn = true → s.ep.dmb.busy = true → s.ep.dmb.taken = false →
    payRead 1 0 s = (s1, true) → exec .dmbTake s = .next (takeBytes s.ep.dmb.cmd .dmb
      { s1 with ep := { s1.ep with dmb := { s1.ep.dmb with taken := true } } })) ∧
  (∀ s, s.islandOn = true → s.mgmt.busy = true → s.mgmt.taken = false →
    exec .mgmtMbTake s = .next (takeBytes s.mgmt.cmd .mgmt
      (count (devCtr 196) { s with mgmt := { s.mgmt with taken := true } }))) ∧
  (∀ s id r, (s.cmds.retry.find? fun r => r.id == id && r.result.isSome) = some r →
    exec (.retryEntryLapse id) s = .next { s with
      now := max s.now (r.finishedAt + 60000000000),
      cmds := { s.cmds with retry := s.cmds.retry.filter fun x => x.entry != r.entry } })

/-- RESET_CTRL_COLD, RESET_CTRL_WARM and RESET_CTRL_BLOCK (04 R120), RESET_CAUSE_WRITE (R121), REGISTER_WRITE (06 R162) of a BKP
register (04 R122), LEDGER_USER_WRITE and LEDGER_WRITE_COMPLETE (17 R519, R516), RMEM_WRITE (04 R124) and DIAG_WINDOW_READ
(07 R221) of the Vault once its accesses are granted. -/
def Obligations.RegisterAndMemoryWritesComplete : Prop :=
  (∀ s w, exec (.resetCtrlCold (0xA5C30000 + BitVec.ofNat 32 (4 * (w % 256) + 1))) s =
    .next (assertReset .resetCtrl true 0 s)) ∧
  (∀ s w, exec (.resetCtrlWarm (0xA5C30000 + BitVec.ofNat 32 (4 * (w % 256) + 2))) s =
    .next (assertReset .resetCtrl false 0 s)) ∧
  (∀ s b, s.running = true → b < 84 → exec (.resetCtrlBlock (0xA5C30000 + BitVec.ofNat 32 (4 * b + 3))) s =
    .next (requestBlock b .resetCtrl 2000000 none s)) ∧
  (∀ s w, exec (.resetCauseWrite w) s = .next { s with cause := { s.cause with
    history := s.cause.history &&& ~~~(w.extractLsb' 8 9) } }) ∧
  (∀ s n w, n < 16 → s.power.asserted = false → s.power.optionLoading = false →
    exec (.registerWrite (0x20 + 4 * n) (natBytes 4 w)) s =
      .next { s with bkp := s.bkp.set n (BitVec.ofNat 32 w) }) ∧
  (∀ s word v, s.running = true → s.power.warnActive = false →
    exec (.ledgerUserWrite word v) s = .next (ledgerPut { word := word.val, value := v, writer := .host } s).1) ∧
  (∀ s w, s.ledger.started = true → s.ledger.queue = [w] → w.writer = .host →
    ∃ t, exec (.ledgerWriteComplete true) s = .next t ∧ t.ledger.words = sset 0 s.ledger.words w.word w.value ∧
      t.ledger.counts = sset 0 s.ledger.counts w.word (min (s.writeCount w.word + 1) 0xFFFFFF) ∧ t.ledger.queue = [] ∧
      t.ledger.started = false) ∧
  (∀ s o data, s.power.asserted = false → s.power.optionLoading = false → o + data.length ≤ o / 8 * 8 + 8 → o < 0xF000 →
    data ≠ [] → o / 8 ∉ s.rmemBad →
    exec (.rmemWrite o data) s = .next { s with rmem := swrite s.rmem o data }) ∧
  (∀ s s1 o n base, s.window = some (false, base) → s.mode.current = .diagnostic → 0x10000 ≤ o → o + n ≤ 0x100000 → 0 < n →
    payRead ((o + n - 1) / 64 - o / 64 + 1) 0 s = (s1, true) →
    exec (.diagWindowRead o n false) s = .next (drawn { s1 with
      link := { s1.link with windowData := s.liveBytes false (base + (o - 0x10000)) n } }))

/-- QUEUE_ENABLE and QUEUE_DISABLE (06 R170), the doorbells (R172), CMD_CANCEL (R178), INT_STATUS_CLEAR and INT_TEST (Table
6-10), DMB_CMD_WRITE, DMB_GO and DMB_DONE_CLEAR (R166), COALESCE_TIMEOUT (R180) and the end of a read of host memory, whose
staging HOSTDMA is granted (R173, R182; 03 R76). A host that has not restored configuration space does so before it
configures a queue or submits the mailbox (the model's choice, log 18). -/
def Obligations.HostTransportComplete : Prop :=
  (∀ s (q : Fin 9) cfg, s.endpointOn = true → s.running = true → q.val < 4 →
    (s.ep.cq.getD q.val {}).enable = false → 4 ≤ bitsOf cfg.toNat 4 4 → bitsOf cfg.toNat 4 4 ≤ 12 →
    (s.ep.cc.getD (bitsOf cfg.toNat 8 2) {}).enable = true →
    exec (.queueEnable q cfg) s = .next (setCq q.val (fun c => { c with
      weight := bitsOf cfg.toNat 16 4, ccSel := bitsOf cfg.toNat 8 2, log2 := bitsOf cfg.toNat 4 4, enable := true,
      err := false, fetchHold := false, head := 0, tail := 0, staging := [], fetchFailed := false, cancelled := [] })
      (hostConfigures s))) ∧
  (∀ s (q : Fin 9) cfg, s.endpointOn = true → s.running = true → 4 ≤ q.val → q.val < 8 →
    (s.ep.cc.getD (q.val - 4) {}).enable = false → 4 ≤ bitsOf cfg.toNat 4 4 → bitsOf cfg.toNat 4 4 ≤ 12 →
    exec (.queueEnable q cfg) s = .next (setCc (q.val - 4) (fun c => { c with
      coalUs := bitsOf cfg.toNat 24 8, coalCount := bitsOf cfg.toNat 16 8, log2 := bitsOf cfg.toNat 4 4, enable := true,
      head := 0, tail := 0, phase := true, unsignalled := 0 }) (hostConfigures s))) ∧
  (∀ s (q : Fin 9) cfg, s.endpointOn = true → s.running = true → q.val = 8 → s.eq.enable = false →
    6 ≤ bitsOf cfg.toNat 4 4 → bitsOf cfg.toNat 4 4 ≤ 14 → s.eq.lostPending = false →
    exec (.queueEnable q cfg) s = .next { hostConfigures s with eq := { s.eq with
      coalUs := bitsOf cfg.toNat 24 8, coalCount := bitsOf cfg.toNat 16 8, log2 := bitsOf cfg.toNat 4 4, enable := true,
      head := 0, tail := 0, phase := true, unsignalled := [] } }) ∧
  (∀ s (q : Fin 9) cfg, s.endpointOn = true → q.val < 4 → (s.ep.cq.getD q.val {}).enable = true →
    exec (.queueDisable q cfg) s = .next (setCq q.val (fun c => { c with
      weight := bitsOf cfg.toNat 16 4, enable := false, staging := [], cancelled := [], fetchHold := false })
      (hostConfigures s))) ∧
  (∀ s q w, s.endpointOn = true → (s.ep.cq.getD q.val {}).enable = true → w.toNat < 2 ^ (s.ep.cq.getD q.val {}).log2 →
    exec (.cqTailDoorbell q w) s = .next (setCq q.val (fun c => { c with tail := w.toNat }) s)) ∧
  (∀ s q w c, s.endpointOn = true → c = s.ep.cc.getD q.val {} → c.enable = true →
    headInRange (2 ^ c.log2) c.head c.tail w.toNat = true →
    ∃ t, exec (.ccHeadDoorbell q w) s = .next t ∧ t.ep.cc = upd s.ep.cc q.val (fun c => { c with head := w.toNat })) ∧
  (∀ s w, s.endpointOn = true → s.eq.enable = true → headInRange (2 ^ s.eq.log2) s.eq.head s.eq.tail w.toNat = true →
    s.eq.lostPending = false →
    exec (.eqHeadDoorbell w) s = .next { s with eq := { s.eq with head := w.toNat } }) ∧
  (∀ s w c, s.endpointOn = true → c = s.ep.cq.getD (bitsOf w.toNat 12 2) {} → c.enable = true →
    bitsOf w.toNat 0 12 < 2 ^ c.log2 → bitsOf w.toNat 0 12 ∉ c.cancelled →
    ∃ t, exec (.cmdCancel w) s = .next t ∧ t.ep.cancel.seq = s.ep.cancel.seq + 1 ∧
      t.ep.cancel.result = (if c.isPending (bitsOf w.toNat 0 12) then stCancelled else stTooLate) ∧
      t.ep.cq = (if c.isPending (bitsOf w.toNat 0 12) then
        upd s.ep.cq (bitsOf w.toNat 12 2) (fun c => { c with cancelled := c.cancelled ++ [bitsOf w.toNat 0 12] })
        else s.ep.cq)) ∧
  (∀ s w, s.endpointOn = true → exec (.intStatusClear w) s = .next { s with irq := { s.irq with
    dbErr := s.irq.dbErr && !w.getLsbD 1, dmaErr := s.irq.dmaErr && !w.getLsbD 2,
    eqOverflow := s.irq.eqOverflow && !w.getLsbD 3 } }) ∧
  (∀ s w, s.endpointOn = true → exec (.intTest w) s = .next (sendVector (w.toNat % 64) s)) ∧
  (∀ s o data, s.endpointOn = true → s.ep.dmb.busy = false → exec (.dmbCmdWrite o data) s = .next { s with
    ep := { s.ep with dmb := { s.ep.dmb with cmd := patch s.ep.dmb.cmd o.val data } } }) ∧
  (∀ s, s.endpointOn = true → s.ep.dmb.busy = false → exec .dmbGo s = .next { hostConfigures s with
    ep := { (hostConfigures s).ep with dmb := { s.ep.dmb with busy := true, taken := false } } }) ∧
  (∀ s, s.endpointOn = true → exec .dmbDoneClear s = .next { s with
    ep := { s.ep with dmb := { s.ep.dmb with done := false } } }) ∧
  (∀ s (v : Fin 64) c, v.val < 4 → c = s.ep.cc.getD v.val {} → c.unsignalled ≠ 0 →
    exec (.coalesceTimeout v) s = .next (sendVector v.val (setCc v.val (fun c => { c with unsignalled := 0 })
      (advance (c.firstUnsignalledAt + 1000 * c.coalUs) s)))) ∧
  (∀ s q kind, s.fetching q.val = true → exec (.hostDmaReadFail (.fetch q) kind) s =
    .next (captureDmaError (s.ep.cq.getD q.val {}).fetchAddress q.val kind
      (setCq q.val (fun c => { c with fetchFailed := true, err := true }) s))) ∧
  (∀ s s1 q data got, s.fetching q.val = true →
    got = descriptors (min 16 (s.ep.cq.getD q.val {}).pendingCount - (s.ep.cq.getD q.val {}).staging.length) data →
    payRead got.length 0 s = (s1, true) → exec (.hostDmaReadComplete (.fetch q) data) s =
      .next (setCq q.val (fun c => { c with staging := c.staging ++ got }) s1)) ∧
  (∀ s s1 id e data words, s.entry id = some e → awaitsData e = true → s.linkHolds = false → data.length = dataLength e →
    e.op = .srtpKeySet → words = packFrame false false data → payRead (stagingCharge words) 0 s = (s1, true) →
    exec (.hostDmaReadComplete (.command id) data) s =
      .next (keyData e (wordBytes words) (setEntry id (fun x => { x with aux := [] }) s1)))

/-- FUNCTION_LEVEL_RESET and PCIE_PM_STATE_CHANGE (06 R161), PCIE_LINK_DOWN and PCIE_LINK_UP (R185), with no TAP
instruction holding the pins (18 R564). -/
def Obligations.HostLinkComplete : Prop :=
  (∀ s, s.endpointOn = true → exec .functionLevelReset s = .next (requestBlock 83 .flr 2000000 none s)) ∧
  (∀ s, s.endpointOn = true → exec (.pciePmStateChange true) s = .next { s with link := { s.link with d3hot := true } }) ∧
  (∀ s, s.endpointOn = true → exec (.pciePmStateChange false) s =
    .next (releaseHeld { s with link := { s.link with d3hot := false } })) ∧
  (∀ s, exec .pcieLinkDown s = .next { s with link := { s.link with up := false } }) ∧
  (∀ s, s.endpointOn = true → s.testPort.pinsTaken = false → exec .pcieLinkUp s = .next (releaseHeld { s with
    link := { s.link with up := true } }))

/-- The management target (18 R555 to R557): a Block Write of the right form fills the mailbox or submits it, a full Block
Read of MB_CMPL clears DONE, and the CCCs give and take the dynamic address or answer. -/
def Obligations.ManagementTargetComplete : Prop :=
  (∀ s t, s.islandOn = true → t.code = 0x10 → nack t 64 s = none → s.mgmt.busy = false →
    exec (.mbCmdWrite t) s = .next { s with mgmt := { s.mgmt with cmd := t.data } }) ∧
  (∀ s t, s.islandOn = true → t.code = 0x11 → nack t 1 s = none → (t.data.headD 0).getLsbD 0 = true → s.mgmt.busy = false →
    exec (.mbCtrlGo t) s = .next { s with mgmt := { s.mgmt with busy := true, taken := false } }) ∧
  (∀ s, s.islandOn = true → exec (.mbCmplRead 32) s =
    .next { s with mgmt := { s.mgmt with readback := s.mgmt.cmpl.take 32, done := false } }) ∧
  (∀ s n, s.islandOn = true → n < 32 → exec (.mbCmplRead n) s =
    .next { s with mgmt := { s.mgmt with readback := s.mgmt.cmpl.take n } }) ∧
  (∀ s, s.islandOn = true → exec .mgmtBusTimeout s = .next (count (devCtr 195) s)) ∧
  (∀ s a, s.islandOn = true → s.mgmt.dynamic = none →
    exec (.entdaa a) s = .next { s with mgmt := { s.mgmt with dynamic := some a } }) ∧
  (∀ s a, s.islandOn = true → s.mgmt.dynamic = none →
    exec (.setdasa a) s = .next { s with mgmt := { s.mgmt with dynamic := some a } }) ∧
  (∀ s, s.islandOn = true → exec .rstdaa s = .next { s with mgmt := { s.mgmt with dynamic := none } }) ∧
  (∀ s a, s.islandOn = true → s.mgmt.dynamic = some a → exec .getpid s = .next { s with mgmt := { s.mgmt with
    readback := (natBytes 6 (0x1F6B * 2 ^ 33 + Config.serial.toNat % 4294967296)).reverse } }) ∧
  (∀ s a, s.islandOn = true → s.mgmt.dynamic = some a →
    exec .getbcr s = .next { s with mgmt := { s.mgmt with readback := [0] } } ∧
    exec .getdcr s = .next { s with mgmt := { s.mgmt with readback := [0] } }) ∧
  (∀ s a, s.islandOn = true → s.mgmt.dynamic = some a → exec .getstatus s = .next { s with
    freeCount := s.freeCount + 1,
    mgmt := { s.mgmt with readback := natBytes 2 (Config.free 110 s.freeCount) } })

/-- The reset sources (04 Table 4-2, R100, R105, R106, R108, R110) assert a reset with their scope, the release of PERST_N lets
the PCIe island out, and the stretch ends once nothing holds it, or goes on with the rails that still read low (R110, R111).
-/
def Obligations.ResetSourcesComplete : Prop :=
  (∀ s rail, exec (.por rail) s = .next (assertReset .por true (if rail = .vddAon then 800000 else 0) { s with
    power := { s.power with
      railsLow := if rail ∈ s.power.railsLow then s.power.railsLow else rail :: s.power.railsLow } })) ∧
  (∀ s n, 1000 ≤ n → exec (.resetNAssert n) s =
    .next (assertReset .resetN true n { s with freeCount := s.freeCount + 1 })) ∧
  (∀ s, s.perstBlock = false → exec .perstNAssert s =
    .next (assertReset .perstN false 0 { s with power := { s.power with perstLow := true } })) ∧
  (∀ s, s.perstBlock = true → s.power.asserted = false → s.power.optionLoading = false → exec .perstNAssert s =
    .next (requestBlock 83 .perstN 2000000 none { s with
      power := { s.power with perstLow := true }, link := { s.link with up := false } })) ∧
  (∀ s, exec .perstNDeassert s = .next { s with power := { s.power with
    perstLow := false, pcieReleased := s.power.pcieReleased || s.power.pcieLocked } }) ∧
  (∀ s, s.power.wdogArmed = true → exec .watchdogExpiry s = .next (assertReset .watchdog false 0 s)) ∧
  (∀ s node cold, s.remoteEn = true → ∃ t, exec (.remoteResetRequest node cold) s = .next t ∧
    t.power.remoteNode = node.val ∧ t.power.asserted = true ∧ ResetSource.remote ∈ t.power.sources ∧ t.mode = {}) ∧
  (∀ s mv low, s.power.asserted = true → s.stretchHeld mv low = false → exec (.resetStretchEnd ⟨mv, low⟩) s = .next { s with
    now := max s.now s.power.releaseDue,
    power := { s.power with
      asserted := false, optionLoading := true, releasedAt := max s.now s.power.releaseDue, railsLow := [] } }) ∧
  (∀ s mv low, s.power.asserted = true → s.stretchHeld mv low = true → exec (.resetStretchEnd ⟨mv, low⟩) s = .next { s with
    power := { s.power with railsLow := low } }) ∧
  (∀ s, s.power.asserted = false → s.power.resetOutLow = true → exec .resetOutRelease s = .next { s with
    now := max s.now (s.power.releasedAt + 2000000), power := { s.power with resetOutLow := false } }) ∧
  (∀ s, s.rhoper = true → countedMode s.mode.current = true → s.power.runNs < 600000000000 →
    ∃ t, exec .wdogRunClear s = .next t ∧ t.cause = { s.cause with wdogRun := 0 } ∧ t.mode = s.mode ∧
      t.now = max s.now (s.power.runSince + (600000000000 - s.power.runNs)))

/-- From option loading to STANDBY (04 R111, R112, R114, R121; 05 Table 5-5; 15 R475), and HALT (05 R141 to R143). -/
def Obligations.BootAndHaltComplete : Prop :=
  (∀ s straps, s.power.optionLoading = true → ∃ t, exec (.optionLoadingDone straps false) s = .next t ∧
    t.boot.straps = straps ∧ t.boot.stage = 1 ∧ t.boot.warm = !s.power.cold ∧ t.power.optionLoading = false ∧
    t.cause = causeAfter s.power s.cause ∧ (s.power.cold = true → t.bkp = List.replicate 16 0 ∧ t.rmem = []) ∧
    (s.power.cold = false → t.bkp = s.bkp)) ∧
  (∀ s, s.power.asserted = false → s.power.optionLoading = false → exec (.islandPllLock .refclk) s =
    .next { s with power := { s.power with refclkLocked := true } }) ∧
  (∀ s, s.power.asserted = false → s.power.optionLoading = false → exec (.islandPllLock .pcie) s = .next { s with
    power := { s.power with pcieLocked := true, pcieReleased := s.power.pcieReleased || !s.power.perstLow } }) ∧
  (∀ s, s.power.asserted = false → s.power.optionLoading = false → exec (.islandPllLock .timeBase) s =
    .next { s with power := { s.power with timeBaseReleased := true } }) ∧
  (∀ s, s.mode.current = .strap → s.boot.stage = 1 → s.power.refclkLocked = true → s.boot.straps.bootSrc = 2 →
    s.power.wdogFull = false → ∃ t, exec .resetWaveComplete s = .next t ∧ t.mode.current = .loader ∧
      t.mode.steward = .rom ∧ t.mode.previous = .strap ∧ t.mode.seq = s.mode.seq + 1 ∧ t.boot.stage = 2 ∧
      t.alw.running = true ∧ t.alw.period = 1) ∧
  (∀ s, s.mode.current = .loader → s.inRom = true → s.fw.started = true → ∃ t, exec .rhoperStart s = .next t ∧
    t.mode.steward = .rhoper ∧ t.mode.current = .loader ∧ t.boot.stage = 4 ∧ t.power.wdogArmed = true) ∧
  (∀ s, s.mode.current = .loader → s.rhoper = true → ∃ t, exec .bootComplete s = .next t ∧ t.mode.current = .standby ∧
    t.mode.previous = .loader ∧ t.mode.seq = s.mode.seq + 1 ∧ t.boot.stage = 6) ∧
  (∀ s, s.mode.current = .loader → s.inRom = true → s.boot.straps.bootSrc = 1 → s.fw.started = false →
    ∃ t, exec .tylaneBootTimeout s = .next t ∧ t.mode.current = .recovery ∧ t.mode.previous = .loader ∧
      t.boot.stage = 15 ∧ t.now = max s.now (s.power.romSince + 60000000000)) ∧
  (∀ s, s.stewardOn = true → exec .stewardLockstepMismatch s = .next (enterHalt 2 s)) ∧
  (∀ s, s.stewardOn = true → exec .stewardSramUe s = .next (enterHalt 3 (count (devCtr 12) s))) ∧
  (∀ s, s.stewardOn = true → s.mode.steward = .rhoper → exec .rhoperFatalAssertion s =
    .next (enterHalt 4 (crashHeader 4 (logFault 7 5 0 12 4 0 0 s)))) ∧
  (∀ s c, (enterHalt c s).mode.current = .halt ∧ (enterHalt c s).mode.haltCause = BitVec.ofNat 4 c ∧
    (enterHalt c s).mode.steward = .stopped ∧ (enterHalt c s).irq.fatal = true)

/-- MODE_TRANSITION_COMPLETE and AUTO_STANDBY_ENTRY (05 R145, R151, R156), TRIAL_WATCHDOG_EXPIRY (17 R530), POWER_WARN_N (04
R102, R104), GOVERNOR_STEP_DOWN (02 R43), AVS_CHECK (R45) and VDD_CORE_LOW (R36). -/
def Obligations.ModeAndPowerEventsComplete : Prop :=
  (∀ s tr, s.mode.transition = some tr → ∃ t, exec .modeTransitionComplete s = .next t ∧ t.mode.current = tr.target ∧
    t.mode.previous = s.mode.current ∧ t.mode.seq = s.mode.seq + 1 ∧ t.mode.transition = none) ∧
  (∀ s, s.mode.current = .drain → s.mode.autoStandby = true → s.voice.channels = [] → s.mode.transition = none →
    (s.cmds.entries.any fun e => e.op == .modeSet && e.phase == .executing && e.aux == [7]) = false →
    ∃ t, exec .autoStandbyEntry s = .next t ∧ t.mode.current = .standby ∧ t.mode.previous = .drain ∧
      t.mode.seq = s.mode.seq + 1 ∧ t.mode.autoStandby = false) ∧
  (∀ s since, s.fw.trialSince = some since → s.rhoper = true → s.trialOpen = true →
    (s.cmds.entries.any fun e => e.op == .imageConfirm && e.phase == .executing) = false → s.worn wBootCtrl = false →
    s.ledger.queue = [] → s.power.warnActive = false → s.ledger.started = false →
    ∃ t, exec .trialWatchdogExpiry s = .next t ∧ t.fw.trialSince = none ∧ t.fw.revertReset = true ∧
      t.now = max s.now (since + 10000000000 * bitsOf s.bootCtrl 8 8) ∧ t.ledger.started = true ∧
      t.ledger.queue = [⟨wBootCtrl, BitVec.ofNat 32 (withBits (withBits s.bootCtrl 5 1 1) 19 2 1), .rhoper none⟩]) ∧
  (∀ s n, 200 < n → s.power.warnActive = false → ∃ t, exec (.powerWarnAssert n) s = .next t ∧
    t.power.warnActive = true ∧ t.power.warnSince = s.now ∧ t.power.warnDue = s.now + n + 100000) ∧
  (∀ s, s.power.warnActive = true → ∃ t, exec .powerWarnRelease s = .next t ∧ t.power.warnActive = false ∧
    t.now = max s.now s.power.warnDue) ∧
  (∀ s since, s.gov.spareSince = some since → s.rhoper = true → s.gov.started = true → s.gov.fault = false → s.cfg.governor.mode = 2 →
    s.gov.loadChangedIn = 0 → s.raiseUnderWay = false → s.cfg.governor.floorMv < s.gov.targetMv → ∃ t, exec .governorStepDown s = .next t ∧
      t.gov.targetMv = max (s.gov.targetMv - 5) s.cfg.governor.floorMv ∧
      t.now = max s.now (max (since + 1000000000) (s.gov.lastStepDown + 100000000)) ∧ t.gov.lastStepDown = t.now) ∧
  (∀ s due, s.gov.checks = [(due, s.gov.targetMv)] → s.rhoper = true → s.gov.setEntry = none →
    s.gov.raiseWaiters = [] → s.cluster.arrivals = [] → s.effectiveRail 0 s.gov.targetMv = s.gov.targetMv →
    ∃ t, exec (.avsCheck true s.gov.targetMv) s = .next t ∧
      t.now = max s.now due ∧ t.gov.ackedMv = s.gov.targetMv ∧ t.gov.checks = [] ∧ t.gov.failures = 0 ∧
      t.gov.targetMv = s.gov.targetMv) ∧
  (∀ s mv low, 600 ≤ mv → low = s.effectiveRail 0 mv → low < 640 → ∃ t, exec (.vddCoreLow mv) s = .next t ∧
    t.tele.rails = s.tele.rails.set 0 low ∧ t.gov.targetMv = s.gov.targetMv)

/-- The block reset sequence (04 R118): idle or the timeout applies the reset, and its release at least 20 µs later returns
the block, completes its commands and reports it. -/
def Obligations.BlockResetsComplete : Prop :=
  (∀ s (b : Fin 84) x r, s.waitingBlock b.val = some x → s.blockBusy b.val = false → r = blockApply x false s →
    exec (.blockIdle b) s = .next (countBy (devCtr 17) r.2 (setBlock b.val (fun x => { x with
      applied := true, appliedAt := s.now, discarded := r.2 }) r.1))) ∧
  (∀ s (b : Fin 84) x n s1 r, s.waitingBlock b.val = some x → 64 ≤ b.val → b.val ≠ 79 → b.val ≠ 82 →
    s1 = advance (x.startedAt + x.timeoutNs) s → r = blockApply x true s1 →
    exec (.blockResetTimeout b n) s = .next (countBy (devCtr 17) n (setBlock b.val (fun x => { x with
      applied := true, timedOut := true, appliedAt := s1.now, discarded := n }) r.1))) ∧
  (∀ s (b : Fin 84) x, (s.power.blocks.find? fun x => x.block == b.val && x.applied) = some x →
    (b.val = 83 → s.power.perstLow = false) → x.entries = [] →
    ∃ t, exec (.blockResetRelease b) s = .next t ∧ t.now = max s.now (x.appliedAt + 20000) ∧
      t.power.blocks = s.power.blocks.filter fun y => y.block != b.val)

/-- ALLOWANCE_REQUEST, ALLOWANCE_GRANT (03 R18, R78), FLASH_OPERATION_COMPLETE (R76), SCRUB_OVERDUE (R90), CAL_FORCED_TAKE (R83)
and CAL_SLICE_END (R82): a request waits behind its class's own, the grant charges it, or one access of a transfer of
several, to the class that Table 3-3 puts first, DISPATCH grants the task whose class comes first, and a slice begins and
ends; a slice of an engine test that is not its 250th asks for the next. -/
def Obligations.AllowanceEventsComplete : Prop :=
  (∀ s (cls : Fin 8) (res : Fin 4) n, s.alw.running = true → exec (.allowanceRequest cls res n) s =
    .next (setBalance cls.val res.val (fun b => { b with
      waiting := b.waiting ++ [⟨chargedSize res.val n, .other⟩] }) s)) ∧
  (∀ s (res : Fin 4) corrected cls q rest, s.alw.running = true → res.val ≠ 2 →
    pickClass res.val (s.serves res.val) s = some cls → (s.balance cls res.val).waiting = q :: rest → q.job ≠ .host →
    exec (.allowanceGrant res corrected) s =
      .next (carryOut cls res.val q corrected (countCorrected res.val corrected (chargeGrant cls res.val q.size
        (setBalance cls res.val (fun b => { b with waiting := rest }) s))))) ∧
  (∀ s (res : Fin 4) corrected cls q rest, s.alw.running = true → res.val ≠ 2 →
    pickClass res.val (s.serves res.val) s = some cls → (s.balance cls res.val).waiting = q :: rest → q.job = .host →
    1 < q.size → exec (.allowanceGrant res corrected) s =
      .next (carryOut cls res.val q corrected (countCorrected res.val corrected (chargeGrant cls res.val 1
        (setBalance cls res.val (fun b => { b with waiting := { q with size := q.size - 1 } :: rest }) s))))) ∧
  (∀ s corrected cls, s.alw.running = true → (collectAskers s).dispatchNext = some cls →
    exec (.allowanceGrant 2 corrected) s = .next (dispatchGrant cls (collectAskers s))) ∧
  (∀ s n, s.alw.flashBusy = some ⟨n, .other⟩ → exec (.flashOperationComplete true) s =
    .next { s with alw := { s.alw with flashBusy := none } }) ∧
  (∀ s vault, s.alw.running = true → (if vault then s.alw.vaultOverdue else s.alw.tillOverdue) = false →
    ∃ t, exec (.scrubOverdue vault) s = .next t ∧
      (if vault then t.alw.vaultOverdue else t.alw.tillOverdue) = true ∧
      t.now = max s.now ((if vault then s.alw.vaultPassStart else s.alw.tillPassStart)
        + (if vault then 48 else 6) * 3600000000000)) ∧
  (∀ s e, s.calHeld = true → s.alw.running = true → s.forcedChoice = some e → (s.engine e).running = none →
    exec .calForcedTake s = .next (chargeGrant 5 2 1 (let s1 := count (devCtr 13) (startSlice e s)
      { s1 with alw := { s1.alw with calForcedDue := false, calCount := 0 } }))) ∧
  (∀ s (e : Fin 64) result, (s.engine e.val).calSlice = true → (s.engine e.val).testSlice = false → s.tallyRuns = true →
    exec (.calSliceEnd e result) s = .next (grantAll (beginIterations (sliceResult e.val result
      (setEngine e.val (fun x => { x with lastCal := s.alw.period })
        (freeDescriptor (setEngine e.val (fun x => { x with calSlice := false, testSlice := false }) s))))))) ∧
  (∀ s (e : Fin 64) result job, (s.engine e.val).calSlice = true → (s.engine e.val).testSlice = true →
    s.tallyRuns = true → s.testOn e.val = some job → job.slices + 1 < 250 →
    exec (.calSliceEnd e result) s = .next (grantAll (beginIterations (requestSlice job.engine
      (let s1 := setEngine e.val (fun x => { x with lastCal := s.alw.period })
        (setEngine e.val (fun x => { x with calSlice := false, testSlice := false }) s)
      { s1 with board := { s1.board with tests := s1.board.tests.map fun j =>
        if j.entry = job.entry then { j with slices := j.slices + 1 } else j } })))))

/-- TASK_END (08 R239, R244), TASK_PREEMPT (R242), HANDSHAKE_STALL and WORKING_MEMORY_UE (16 R489). -/
def Obligations.TaskEventsComplete : Prop :=
  (∀ s (e : Fin 64) t report, s.tallyRuns = true → (s.engine e.val).running = some t → report.accepted = true →
    exec (.taskEnd e report) s = .next (taskOver t e.val (acceptFrame t report
      (freeTask t (setEngine e.val (fun x => { x with running := none }) s))))) ∧
  (∀ s (e : Fin 64) t k, s.tallyRuns = true → s.blockInReset e.val = false →
    (s.engine e.val).running = some t → (s.engine e.val).preempt = true → 2 ≤ t.level →
    (s.engine e.val).parked = none → ((s.engine e.val).ready.any fun x => decide (x.level ≤ 1)) = true →
    headTask (s.engine e.val).ready = some k → s.mayGrant (taskClass k) 2 = true →
    exec (.taskPreempt e) s = .next (grantTask e.val (count (engineCtr e.val 2) (setEngine e.val
      (fun x => { x with running := none, parked := some t }) s)))) ∧
  (∀ s (e : Fin 64), s.blockInReset e.val = false → s.tallyRuns = true → (s.engine e.val).retired = false →
    (s.engine e.val).faults = [] → (s.engine e.val).running = none → (s.engine e.val).calSlice = false →
    ∃ t u, exec (.handshakeStall e) s = .next t ∧ exec (.workingMemoryUe e) s = .next u ∧
      (t.engine e.val).faults = ((s.engine e.val).faults ++ if e.val < s.board.engines.length then [s.now] else []) ∧
      (u.engine e.val).faults = (t.engine e.val).faults)

/-- PERIOD_BOUNDARY (03 R71, R73): once the controller runs, a boundary begins the next period at the instant that State.nextBoundary
gives, and the next frame with it where that is a frame boundary. -/
def Obligations.PeriodBoundaryComplete : Prop :=
  ∀ s found due frame, s.alw.running = true → s.nextBoundary = (due, frame) →
    ∃ t, exec (.periodBoundary found) s = .next t ∧ t.alw.period = s.alw.period + 1 ∧
      t.alw.frame = s.alw.frame + bit frame ∧ t.alw.lastBoundary = max s.now due ∧ t.bkp = s.bkp ∧ t.cause = s.cause

/-- SUSPENDED_PLACEMENT_RETRY (16 R497), TILL_UNCORRECTABLE_ERROR (R498), VAULT_UNCORRECTABLE_ERROR and
VAULT_ROW_REPAIR_COMPLETE (R499), FAULT_LOG_FLUSH (R502): a row's first error is noted and its second repairs it or, with no
spare, leaves it in service; the placed channel runs on its new engine. -/
def Obligations.MemoryRepairComplete : Prop :=
  (∀ s (r : Fin 32768) a, s.tallyRuns = true → r.val ∉ s.faults.tillRows →
    ∃ t, exec (.tillUncorrectableError r a) s = .next t ∧ t.faults.tillRows = s.faults.tillRows ++ [r.val] ∧
      t.faults.tillSpares = s.faults.tillSpares) ∧
  (∀ s (r : Fin 32768) a, s.tallyRuns = true → r.val ∈ s.faults.tillRows → r.val + 32768 ∉ s.faults.tillRows →
    s.faults.tillSpares.length < 256 →
    ∃ t, exec (.tillUncorrectableError r a) s = .next t ∧ t.faults.tillSpares = s.faults.tillSpares ++ [r.val] ∧
      t.faults.tillRows = s.faults.tillRows.filter fun x => x != r.val) ∧
  (∀ s (r : Fin 32768) a, s.tallyRuns = true → r.val ∈ s.faults.tillRows → r.val + 32768 ∉ s.faults.tillRows →
    256 ≤ s.faults.tillSpares.length →
    ∃ t, exec (.tillUncorrectableError r a) s = .next t ∧ t.faults.tillSpares = s.faults.tillSpares) ∧
  (∀ s r a left, s.tallyRuns = true → r ∉ s.faults.vaultRows →
    ∃ t, exec (.vaultUncorrectableError r a left) s = .next t ∧ t.faults.vaultRows = s.faults.vaultRows ++ [r] ∧
      t.faults.vaultBusy = s.faults.vaultBusy ∧ t.faults.vaultRepairs = s.faults.vaultRepairs) ∧
  (∀ s r a, s.tallyRuns = true → r ∈ s.faults.vaultRows → r + 4294967296 ∉ s.faults.vaultRows →
    ∃ t, exec (.vaultUncorrectableError r a true) s = .next t ∧ t.faults.vaultBusy = s.faults.vaultBusy ++ [r] ∧
      t.faults.vaultRepairs = s.faults.vaultRepairs + 1 ∧
      t.faults.vaultRows = s.faults.vaultRows.filter fun x => x != r) ∧
  (∀ s r a, s.tallyRuns = true → r ∈ s.faults.vaultRows → r + 4294967296 ∉ s.faults.vaultRows →
    ∃ t, exec (.vaultUncorrectableError r a false) s = .next t ∧ t.faults.vaultBusy = s.faults.vaultBusy ∧
      t.faults.vaultRepairs = s.faults.vaultRepairs) ∧
  (∀ s r, s.rhoper = true → exec (.vaultRowRepairComplete r) s = .next { s with
    faults := { s.faults with vaultBusy := s.faults.vaultBusy.filter fun x => x != r } }) ∧
  (∀ s, s.running = true → s.faults.staged ≠ [] →
    ((s.balance 7 3).waiting.any fun r => r.job == .faultLog) = false →
    (s.alw.flashBusy.any fun r => r.job == .faultLog) = false →
    exec .faultLogFlush s = .next (setBalance 7 3 (fun b => { b with
      waiting := b.waiting ++ [{ size := 64 * min 4 s.faults.staged.length, job := .faultLog }] }) s)) ∧
  (∀ s ch e, s.mode.current ∈ serviceModes → (s.voice.channels.filter fun c => c.state = .suspended) = [ch] →
    ch.outMove = none → s.placement ch = some e →
    ∃ t, exec .suspendedPlacementRetry s = .next t ∧
      ∀ c ∈ t.voice.channels, c.id = ch.id → c.engine = e ∧ c.state = .running)

/-- PORT_FRAME_RECEIVED (12 R362, R364), STATION_SIGHTING_REPORT and STATION_AGE_OUT (11 R335), TELLER_WRITE_REQUEST and
TELLER_COMMIT (01 R17), STATION_ENTRY_APPLY (11 R333) and LATCH_SILENCE_TIMEOUT (11 R331). -/
def Obligations.FrameAndStationEventsComplete : Prop :=
  (∀ s (p : Fin 8) f, (s.port p.val).state = .up → s.testPort.pinsTaken = false →
    exec (.portFrameReceived p f) s = .next (receive p.val f s)) ∧
  (∀ s k x r, (s.tables.sightings.find? fun y => y.key == k) = some x → x.lastReport = some r → r < x.at_ → s.running = true →
    ∃ t, exec (.stationSightingReport k) s = .next t ∧ t.now = max s.now (r + 100000000) ∧
      ((t.tables.sightings.find? fun y => y.key == k).bind fun y => y.lastReport) = some t.now) ∧
  (∀ s k x, s.station k = some x → x.isStatic = false → s.homeOf (stationHash k) = s.node → s.running = true →
    s.tables.teller = [] → ∃ t, exec (.stationAgeOut k) s = .next t ∧ t.now = max s.now (x.lastSeenAt + s.cfg.ageS * 1000000000 + 1) ∧
      t.tables.stations = s.tables.stations.filter fun y => y.key != k) ∧
  (∀ s req, s.running = true → exec (.tellerWriteRequest req) s =
    .next { s with tables := { s.tables with teller := s.tables.teller ++ [req] } }) ∧
  (∀ s h e rest, s.running = true → s.tables.teller = .unlatch h e :: rest → exec .tellerCommit s =
    .next (commitUnlatch h.toNat e { s with tables := { s.tables with teller := rest } })) ∧
  (∀ s h epoch n ip port rest, s.running = true → s.tables.teller = .latch h epoch n ip port :: rest →
    exec .tellerCommit s = .next (commitLatch h.toNat epoch ip port { s with tables := { s.tables with teller := rest } })) ∧
  (∀ s (u : StationUpdate), s.running = true → u.present = false → ∃ t, exec (.stationEntryApply u) s = .next t ∧
    t.station u.key = none) ∧
  (∀ s (u : StationUpdate), s.running = true → u.present = true → ∃ t x, exec (.stationEntryApply u) s = .next t ∧
    t.station u.key = some x ∧ x.node = u.node.val ∧ x.port = u.port.val ∧ x.isStatic = u.isStatic ∧
      x.lastSeenPeriod = u.lastSeen) ∧
  (∀ s h ch l, s.boundLeg h.toNat = some (ch, l) → latchPolicy (ch.legOf l).flags = 1 → (ch.legOf l).latched.isSome = true → s.running = true →
    ∃ t, exec (.latchSilenceTimeout h) s = .next t ∧ t.now = max s.now ((ch.legOf l).lastAcceptedAt + 2000000000) ∧
      ∀ c ∈ t.voice.channels, c.id = ch.id → (c.legOf l).latched = none)

/-- JB_TARGET_UPDATE (11 R339, R340): the target of the next second is the packet time and the latest lateness in whole
steps of 10 ms, within its bounds, unless it is fixed. RTCP_REPORT_TIMER (09 R278). -/
def Obligations.MediaTimersComplete : Prop :=
  (∀ s id l ch, s.channel id.toNat = some ch → hasBuffer ch l = true → s.running = true →
    (ch.legOf l).jb.cfg.fixed = true →
    ∃ t, exec (.jbTargetUpdate id l) s = .next t ∧ ∀ c ∈ t.voice.channels, c.id = ch.id →
      (c.legOf l).jb.targetMs = (ch.legOf l).jb.cfg.nominalMs ∧ (c.legOf l).jb.secondMinimum = none) ∧
  (∀ s id l ch late, s.channel id.toNat = some ch → hasBuffer ch l = true → s.running = true →
    (ch.legOf l).jb.cfg.fixed = false →
    vbd ch.program = false →
    late = ((ch.legOf l).jb.latenessMs.filter fun p => decide (s.now < p.1 + 2000000000)).foldl (fun n p => max n p.2) 0 →
    ∃ t, exec (.jbTargetUpdate id l) s = .next t ∧ ∀ c ∈ t.voice.channels, c.id = ch.id →
      (c.legOf l).jb.targetMs = max (ch.legOf l).jb.cfg.minMs (min (ch.legOf l).jb.cfg.maxMs
        ((legPtime ch.program (legNum l) + 2 * late + 9) / 10 * 10))) ∧
  (∀ s id l ch, s.channel id.toNat = some ch → ch.state = .running → s.mode.current ∈ serviceModes →
    hasBuffer ch l = true → (s.entryOf (ch.legOf l)).isSome = true →
    ∃ t, exec (.rtcpReportTimer id l) s = .next t ∧
      ∀ c ∈ t.voice.channels, c.id = ch.id → (c.legOf l).sentSinceReport = false)

/-- BLOCK_LOCK_LOSS, PORT_LINK_UP_HOLD, PORT_LINK_DOWN_HOLD, LOCAL_FAULT, REMOTE_FAULT and HI_BER (12 R361 to R363),
M_LANE_BLOCK_LOCK and M_LANE_POLARITY_CHECK (14 R429). -/
def Obligations.PortLinkEventsComplete : Prop :=
  (∀ s (p : Fin 8) mid, s.portRuns p.val = true → (s.port p.val).blockLock = true →
    ∃ t, exec (.blockLockLoss p mid) s = .next t ∧ (t.port p.val).blockLock = false ∧
      (t.port p.val).fecLock = false ∧ (t.lane p.val).blockLockAt = none) ∧
  (∀ s (p : Fin 8), (s.port p.val).state = .down → s.linkGood p.val = true →
    ∃ t, exec (.portLinkUpHold p) s = .next t ∧ (t.port p.val).state = .up ∧
      t.now = max s.now ((s.port p.val).linkSince + 10000000)) ∧
  (∀ s (p : Fin 8), (s.port p.val).state = .up → s.linkGood p.val = false →
    ∃ t, exec (.portLinkDownHold p) s = .next t ∧ (t.port p.val).state = .down ∧ (t.port p.val).blockLock = false ∧
      t.now = max s.now ((s.port p.val).linkSince + 20000000)) ∧
  (∀ s (p : Fin 8) on, s.portRuns p.val = true →
    ∃ t u v, exec (.localFault p on) s = .next t ∧ exec (.remoteFault p on) s = .next u ∧ exec (.hiBer p on) s = .next v ∧
      (t.port p.val).localFault = on ∧ (u.port p.val).remoteFault = on ∧ (v.port p.val).hiBer = on) ∧
  (∀ s (p : Fin 8), s.portRuns p.val = true → (s.lane p.val).cdrLocked = true →
    ∃ t, exec (.mLaneBlockLock p) s = .next t ∧ (t.port p.val).blockLock = true ∧
      (t.port p.val).fecLock = (s.portCfg p.val).fec ∧ (t.lane p.val).blockLockAt = some s.now) ∧
  (∀ s (p : Fin 8) inv at_, s.portRuns p.val = true → (s.lane p.val).state = .training →
    (s.lane p.val).blockLockAt = some at_ →
    ∃ t, exec (.mLanePolarityCheck p inv) s = .next t ∧ (t.lane p.val).state = .ready ∧
      (t.lane p.val).polarityDone = true ∧ t.now = max s.now (at_ + 2000000) ∧
      (t.lane p.val).polarityInverted = ((s.lane p.val).polarityInverted
        || (inv && !(s.lane p.val).polarityDone && !(s.laneCfg p.val).rxPolarityFixed)))

/-- LAUNCH_GRANT (13 R400), the PPS pins (R389, R390), the loss of a source (R387) and of TBREF (R386), the end of a SET that
waited (Table 13-9), and PTP's waiting messages (R394, R396). -/
def Obligations.TimeEventsComplete : Prop :=
  (∀ s (p : Fin 8) s1 q k, (s.port p.val).state = .up → (s.port p.val).remoteFault = false →
    (s.port p.val).localFault = false → s.blockInReset 79 = false → s1 = advance (s.port p.val).sendingUntil s →
    s1.earliest p.val ((s1.timedHeads p.val).filter fun x =>
      decide (s1.grantInstant p.val x.2 ≤ s1.tbValue (s1.launchCfg p.val x.1).tb)) = some (q, k) →
    exec (.launchGrant p) s = .next (grantTimed p.val q k s1)) ∧
  (∀ s (p : Fin 8) s1 q k, (s.port p.val).state = .up → (s.port p.val).remoteFault = false →
    (s.port p.val).localFault = false → s.blockInReset 79 = false → s1 = advance (s.port p.val).sendingUntil s →
    s1.timedHeads p.val = [] → s1.time.waiting = [] → s1.immediateHead p.val = some (q, k) →
    exec (.launchGrant p) s = .next (sendQueued p.val q k s1)) ∧
  (∀ s (pin : Fin 4) p, p = s.cfg.pps.getD pin.val {} → p.enable = true → s.tbOn p.tb = true →
    ∃ t, exec (.ppsOutEdge pin) s = .next t ∧ t.time.ppsPulses = upd s.time.ppsPulses pin.val (· + 1) ∧
      t.now = s.now + tbDelay (((p.offsetNs - ((s.tbValue p.tb / 65536 : Nat) : Int) - 1) % 1000000000 + 1).toNat)
        (s.tb p.tb).rate ∧ t.time.ppsUntil = s.time.ppsUntil.set pin.val (t.now + tbDelay p.widthNs (s.tb p.tb).rate)) ∧
  (∀ s (pin : Fin 2) falling w, s.running = true → (s.cfg.pps.getD (4 + pin.val) {}).enable = true →
    (s.cfg.pps.getD (4 + pin.val) {}).falling = falling → 100 ≤ w →
    (∀ t, s.time.pinLastEdge.getD pin.val none = some t → t + 500000000 ≤ s.now) →
    ∃ t, exec (.ppsInEdge pin falling w) s = .next t ∧
      t.time.pinLastEdge = s.time.pinLastEdge.set pin.val (some s.now)) ∧
  (∀ s (pin : Fin 2) falling w, s.running = true → (s.cfg.pps.getD (4 + pin.val) {}).enable = true →
    (s.cfg.pps.getD (4 + pin.val) {}).falling = falling → w < 100 →
    ∃ t, exec (.ppsInEdge pin falling w) s = .next t ∧ t.time = s.time) ∧
  (∀ s (i : Fin 4) e, 2 ≤ (s.tbCfg i.val).source → (s.tb i.val).state = .acquiring ∨ (s.tb i.val).state = .locked →
    (s.tb i.val).lastEdge = some e →
    ∃ t, exec (.ppsTimeout i) s = .next t ∧ (t.tb i.val).state = .holdover ∧ t.now = max s.now (e + 1500000000)) ∧
  (∀ s (i : Fin 4), (s.tbCfg i.val).source = 1 → (s.tb i.val).state = .acquiring ∨ (s.tb i.val).state = .locked →
    ∃ t, exec (.ptpSourceTimeout i) s = .next t ∧ (t.tb i.val).state = .holdover ∧ t.now = s.now) ∧
  (∀ s (p : Fin 8) w, s.running = true → (s.time.waiting.find? fun w => w.port == p.val && !w.own) = some w →
    ∃ t, exec (.ptpFwdTimeout p) s = .next t ∧ t.time.waiting = s.time.waiting.erase w ∧
      t.now = max s.now (w.ingressAt + 1000000 - w.residence / 65536)) ∧
  (∀ s, s.usesTbref = true → s.power.timeBaseReleased = false → s.time.onTbref = true →
    ∃ t, exec .tbrefStartupTimeout s = .next t ∧ t.time.onTbref = false ∧ t.time.bases = s.time.bases) ∧
  (∀ s, s.power.timeBaseReleased = true → s.time.onTbref = true →
    ∃ t, exec .tbrefLoss s = .next t ∧ t.time.onTbref = false ∧ t.tele.tbref = false ∧ t.now = s.now + 10000 ∧
      t.time.bases = s.time.bases) ∧
  (∀ s since, s.usesTbref = true → s.power.timeBaseReleased = true → s.time.onTbref = false →
    s.time.tbrefBackSince = some since →
    ∃ t, exec .tbrefRestore s = .next t ∧ t.time.onTbref = true ∧ t.tele.tbref = true ∧
      t.now = max s.now (since + 1000000000) ∧ t.time.bases = s.time.bases) ∧
  (∀ s (i : Fin 4) id e, (s.tb i.val).setEntry = some id → s.entry id = some e → exec (.tbAdjustTimeout i) s =
    .next (finish e stTimeout [] (setTb i.val (fun b => { b with setEntry := none })
      (advance (e.aux.headD 0 + 1500000000) s)))) ∧
  (∀ s (i : Fin 4) event p, s.running = true → s.tbOn i.val = true → (s.tbCfg i.val).role = 1 →
    ((List.range 8).find? fun p => (s.cfg.ptpPorts.getD p {}).enable && (s.cfg.ptpPorts.getD p {}).tb == i.val) = some p →
    ∃ t w, exec (.ptpMessageSend i event) s = .next t ∧ t.time.waiting = s.time.waiting ++ [w] ∧ w.port = p ∧
      w.tb = i.val ∧ w.isEvent = event ∧ w.own = true)

/-- LANE_SIGNAL_DETECT, T_LANE_COMMA_ALIGN, T_LANE_ALIGN_LOSS and LANE_CDR_LOSS (14 R429 to R432), LANE_FAULT_RETRY (Table
14-3), LANE_ERROR_WINDOW (R433), EYE_SCAN_POINT_DONE (R434), the PRBS checker (R435) and ERROR_INJECT_INTERVAL (R436). -/
def Obligations.LaneEventsComplete : Prop :=
  (∀ s (l : Fin 40), (s.lane l.val).state ≠ .off → (s.lane l.val).state ≠ .fault → (s.lane l.val).cdrLocked = false →
    s.testPort.pinsTaken = false →
    ∃ t, exec (.laneSignalDetect l) s = .next t ∧ (t.lane l.val).cdrLocked = true) ∧
  (∀ s (l : Fin 32) inv id x, x = s.lane (tLane l.val) → x.cdrLocked = true → x.aligned = false → x.state = .training →
    (setLane (tLane l.val) (fun x => { x with aligned := true, laneId := id }) s).mapStraight (linkOfLane (tLane l.val)) = true →
    ∃ t, exec (.tLaneCommaAlign l inv id) s = .next t ∧ (t.lane (tLane l.val)).state = .ready ∧
      (t.lane (tLane l.val)).aligned = true ∧ (t.lane (tLane l.val)).laneId = id ∧
      (t.lane (tLane l.val)).polarityInverted =
        (x.polarityInverted || (inv && !(s.laneCfg (tLane l.val)).rxPolarityFixed))) ∧
  (∀ s (l : Fin 32) c d, (s.lane (tLane l.val)).aligned = true →
    ∃ t, exec (.tLaneAlignLoss l c d) s = .next t ∧ (t.lane (tLane l.val)).aligned = false) ∧
  (∀ s (l : Fin 40), (s.lane l.val).cdrLocked = true →
    ∃ t, exec (.laneCdrLoss l) s = .next t ∧ (t.lane l.val).cdrLocked = false ∧ (t.lane l.val).aligned = false ∧
      (t.lane l.val).checkerLocked = false) ∧
  (∀ s (k : Fin 4), ((List.range 8).any fun j => (s.lane (laneOfLink k.val j)).state == .fault) = true →
    exec (.laneFaultRetry k) s =
      .next (linkStart k.val 8 (advance ((s.tyLink k.val).trainingSince + 100000000) s))) ∧
  (∀ s (l : Fin 32) x w, s.rhoper = true → s.laneRetired (tLane l.val) = false → x = s.lane (tLane l.val) →
    w = ((s.counter (laneCtr (tLane l.val) 2) + s.counter (laneCtr (tLane l.val) 3) - x.errorMark) :: x.errorSeconds).take 10 →
    ∃ u, u = setLane (tLane l.val) (fun x => { x with
        errorSeconds := w,
        errorMark := s.counter (laneCtr (tLane l.val) 2) + s.counter (laneCtr (tLane l.val) 3),
        windowAt := max s.now (x.windowAt + 1000000000) }) (advance (x.windowAt + 1000000000) s) ∧
      exec (.laneErrorWindow l) s = .next (if 125 < w.foldl (· + ·) 0 then laneFault (tLane l.val) 7 u else u)) ∧
  (∀ s (l : Fin 40) n x e, (s.lanes.scans.find? fun x => x.lane == l.val) = some x → s.entry x.entry = some e →
    x.broken = false → x.done + 1 ≠ x.points → s.abortsOf x.entry = [] →
    ∃ t, exec (.eyeScanPointDone l n) s = .next t ∧ t.now = max s.now (s.now + s.bitsNs x.lane x.bitsLog2) ∧
      t.lanes.scans = s.lanes.scans.map fun y => if y.entry = x.entry then { y with done := x.done + 1 } else y) ∧
  (∀ s (l : Fin 40) n x e, (s.lanes.scans.find? fun x => x.lane == l.val) = some x → s.entry x.entry = some e →
    x.broken = false → x.done + 1 = x.points →
    ∃ t, exec (.eyeScanPointDone l n) s = .next t ∧ t.lanes.scans = s.lanes.scans.filter fun y => y.entry != x.entry) ∧
  (∀ s (l : Fin 40) b e, (s.lane l.val).checkerLocked = true →
    ∃ t, exec (.prbsLockLoss l b e) s = .next t ∧ (t.lane l.val).checkerLocked = false) ∧
  (∀ s (l : Fin 40), (s.lane l.val).checkerRunning = true →
    ∃ t, exec (.prbsCheckerLock l) s = .next t ∧ (t.lane l.val).checkerLocked = true) ∧
  (∀ s (l : Fin 40), (s.lane l.val).injectInterval ≠ 0 → (s.lane l.val).state ≠ .off →
    exec (.errorInjectInterval l) s = .next (count (laneCtr l.val 11) s))

/-- TYLANE_LINK_BRINGUP, LINK_HALF_TIMEOUT and WIRING_RETRY (15 R464), TYLANE_DELAY_PROBE (R465), TYLANE_ACK and
TYLANE_REPLAY_TIMEOUT (R459, R460). -/
def Obligations.TylaneLinkEventsComplete : Prop :=
  (∀ s (k : Fin 4) w, (s.tyLink k.val).state = .training → (s.tyLink k.val).width = 0 → s.halfReady k.val 0 = true →
    s.halfReady k.val 1 = true → w = s.partnerWord k.val →
    exec (.tylaneLinkBringup k w) s = .next (setLink k.val (fun l => { l with
      width := 8, half := 0xFF, probes := 0, probeMin := 0 }) s)) ∧
  (∀ s (k : Fin 4) w, (s.tyLink k.val).state = .training → (s.tyLink k.val).width = 0 → s.halfReady k.val 0 = true →
    s.halfReady k.val 1 = true → w ≠ s.partnerWord k.val →
    ∃ t, exec (.tylaneLinkBringup k w) s = .next t ∧ (t.tyLink k.val).state = .wiring) ∧
  (∀ s (k : Fin 4) w low, (s.tyLink k.val).state = .training → (s.tyLink k.val).width = 0 → s.halfReady k.val 0 = low →
    s.halfReady k.val 1 = !low → w = s.partnerWord k.val →
    exec (.linkHalfTimeout k w) s = .next (setLink k.val (fun l => { l with
      width := 4, half := if low then 0 else 1, probes := 0, probeMin := 0 })
      (advance ((s.tyLink k.val).trainingSince + 100000000) s))) ∧
  (∀ s (k : Fin 4), (s.tyLink k.val).state = .wiring → exec (.wiringRetry k) s =
    .next (linkStart k.val 8 (advance ((s.tyLink k.val).trainingSince + 100000000) s))) ∧
  (∀ s (k : Fin 4) t1 t2 t3 t4 l d, l = s.tyLink k.val → l.state = .training → l.width ≠ 0 → l.probes + 1 < 16 →
    d = ((t4 - t1) - (t3 - t2)) / 2 →
    exec (.tylaneDelayProbe k t1 t2 t3 t4) s = .next (setLink k.val (fun l => { l with
      probes := l.probes + 1, probeMin := if l.probes = 0 then d else min d l.probeMin }) s)) ∧
  (∀ s (k : Fin 4) t1 t2 t3 t4 l d, l = s.tyLink k.val → l.state = .training → l.width ≠ 0 → 15 ≤ l.probes →
    d = ((t4 - t1) - (t3 - t2)) / 2 →
    ∃ t, exec (.tylaneDelayProbe k t1 t2 t3 t4) s = .next t ∧ (t.tyLink k.val).state = .up ∧
      (t.tyLink k.val).delayPs = min d l.probeMin) ∧
  (∀ s (k : Fin 4) h, (s.tyLink k.val).state = .up → s.testPort.pinsTaken = false → h.crcOk = true → h.nak = false →
    (s.tyLink k.val).waiting = [] →
    exec (.tylaneAck k h) s = .next (ackFrames k.val h.ack (setLink k.val (fun l => { l with buffer := h.buffer }) s))) ∧
  (∀ s (k : Fin 4) h, (s.tyLink k.val).state = .up → s.testPort.pinsTaken = false → h.crcOk = false →
    ∃ t, exec (.tylaneAck k h) s = .next t ∧ (t.tyLink k.val).nakOwed = true ∧
      (t.tyLink k.val).replay = (s.tyLink k.val).replay) ∧
  (∀ s (k : Fin 4) f rest, (s.tyLink k.val).state = .up → (s.tyLink k.val).replay = f :: rest →
    (s.tyLink k.val).replayCount < 4 →
    ∃ t, exec (.tylaneReplayTimeout k) s = .next t ∧ t.now = max s.now (f.sentAt + 10000) ∧
      (t.tyLink k.val).replayCount = (s.tyLink k.val).replayCount + 1)

/-- TYLANE_MEDIA_FRAME (01 R19 to R21), TYLANE_STEWARD_MESSAGE (15 R459), TYLANE_PTP_COPY (13 R396) and TYLANE_BOOT_IMAGE (15
R475): a frame whose SEQ is the next one is accepted, and acknowledges; for this node it does its work, and for another it
goes on with one hop more. -/
def Obligations.TylaneFramesComplete : Prop :=
  (∀ s (k : Fin 4) h, (s.tyLink k.val).state = .up → s.testPort.pinsTaken = false → h.crcOk = true →
    h.seq = (s.tyLink k.val).rxSeq → h.nak = false → (s.tyLink k.val).waiting = [] →
    (linkReceive k.val h s).2 = true ∧ ((linkReceive k.val h s).1.tyLink k.val).rxSeq = (s.tyLink k.val).rxSeq + 1 ∧
      ((linkReceive k.val h s).1.tyLink k.val).ackOwed = true) ∧
  (∀ s (k : Fin 4) h m, (linkReceive k.val h s).2 = true → h.dest.val = s.node → s.running = true →
    exec (.tylaneMediaFrame k h m) s = .next (mediaFrame m (linkReceive k.val h s).1)) ∧
  (∀ s (k : Fin 4) h m, (linkReceive k.val h s).2 = true → h.dest.val = s.node →
    exec (.tylaneStewardMessage k h m) s = .next (stewardMessage k.val h m (linkReceive k.val h s).1)) ∧
  (∀ s (k : Fin 4) h copy, (linkReceive k.val h s).2 = true → h.dest.val = s.node → (s.tbCfg copy.tb.val).enable = true →
    (s.tbCfg copy.tb.val).role = 2 → (s.tbCfg copy.tb.val).domain = copy.domain.toNat →
    exec (.tylanePtpCopy k h copy) s = .next (forwardHere { copy with
      residence := h.residence + (s.tyLink k.val).delayPs * 65536 / 1000, stamp := s.tbShadow copy.tb.val } 8
      (linkReceive k.val h s).1)) ∧
  (∀ s (k : Fin 4) h o data, (linkReceive k.val h s).2 = true → h.dest.val = s.node →
    exec (.tylaneBootImage k h o data) s = .next (bootImage o data (linkReceive k.val h s).1)) ∧
  (∀ s (k : Fin 4) h m n copy o data f, (linkReceive k.val h s).2 = true → h.dest.val ≠ s.node →
    f = (fun p => (⟨0, h.dest.val, p, h.octets, s.now, h.source.val, h.hops + 1, 0⟩ : ReplayFrame)) →
    exec (.tylaneMediaFrame k h m) s = .next (tyRoute (f (.media m)) (linkReceive k.val h s).1) ∧
    exec (.tylaneStewardMessage k h n) s = .next (tyRoute (f (.steward n)) (linkReceive k.val h s).1) ∧
    exec (.tylanePtpCopy k h copy) s = .next (tyRoute (f (.ptp (s.arrived k.val h copy))) (linkReceive k.val h s).1) ∧
    exec (.tylaneBootImage k h o data) s = .next (tyRoute (f (.image o data)) (linkReceive k.val h s).1))

/-- HEARTBEAT_SEND and NODE_UNHEARD (15 R467), VIEW_PUBLISH (R468), MIGRATION_COPY_ACK (R473), DRAIN_MOVE_START (R474) and
CLUSTER_LEAVE_RESET_WAIT (R478). -/
def Obligations.ClusterEventsComplete : Prop :=
  (∀ s, s.joined = true → exec .heartbeatSend s = .next ((List.range s.cfg.clusterSize).foldl (fun st n =>
    if n = st.node then st else tell n s.ownHeartbeat st) s)) ∧
  (∀ s (n : Fin 16) at_, (s.cluster.peers.getD n.val {}).heardAt = some at_ → s.joined = true →
    ∃ t, exec (.nodeUnheard n) s = .next t ∧ (t.cluster.peers.getD n.val {}).heardAt = none ∧
      t.now = max s.now (at_ + 5000000)) ∧
  (∀ s v, s.isKing = true → s.cluster.view = some v → v.members = s.heardMask → v.king = s.node →
    exec .viewPublish s = .next (sendView s)) ∧
  (∀ s, s.isKing = true → s.cluster.view = none → s.viewElsewhere = false → s.enough s.heardMask = true →
    ∃ t, exec .viewPublish s = .next t ∧ t.cluster.view = some {
      epoch := s.cluster.epochSeen + 1, king := s.node, members := s.heardMask, homeMap := s.nextMap s.heardMask }) ∧
  (∀ s id ch m, s.channel id.toNat = some ch → ch.outMove = some m → m.admitted = true → m.copied = true →
    ∃ t, exec (.migrationCopyAck id) s = .next t ∧ ∀ c ∈ t.voice.channels, c.id ≠ ch.id) ∧
  (∀ s ch n, s.mode.current = .drain → s.mode.autoStandby = true →
    (s.drainOrder.find? fun c => !s.drainHeld c.id) = some ch → s.chooseTarget ch = some n →
    ((s.cluster.drainStarts.filter fun t => decide (s.now < t + 1000000000)) = [] ∨
      (s.cluster.drainStarts.filter fun t => decide (s.now < t + 1000000000)).length + (s.moveGroup ch).length ≤ 32) →
    ∃ t, exec .drainMoveStart s = .next t ∧ t.cluster.drainStarts =
      (s.cluster.drainStarts.filter fun t => decide (s.now < t + 1000000000)) ++ (s.moveGroup ch).map fun _ => s.now) ∧
  (∀ s id n at_, s.cluster.leaveWait = some (id, n, at_) →
    ∃ t, exec .clusterLeaveResetWait s = .next t ∧ t.cluster.leaveWait = none ∧ t.now = max s.now (at_ + 10000000))

/-- THERMAL_SAMPLE and THERMAL_WARN_CLEAR (18 R558, R560, R561), UART_RX_BYTE (R565), and the TAP's instructions (R562 to
R564, R583). -/
def Obligations.ThermalAndDebugEventsComplete : Prop :=
  (∀ s x temps, temps = ((List.range 9).map fun k => (x.temps.getD k none).map (s.effectiveTemp k)) →
    temps.any (atLeast 1000) = false →
    ∃ t, exec (.thermalSample x) s = .next t ∧ t.tele.temps = temps ∧ t.tele.gpio = x.gpio ∧
      t.tele.rails = ((List.range 4).map fun k => s.effectiveRail k (x.rails.getD k 0)) ∧ t.mode = s.mode) ∧
  (∀ s x (k : Fin 9), atLeast 1000 ((x.temps.getD k.val none).map (s.effectiveTemp k.val)) = true →
    1 ≤ s.tele.tripping.getD k.val 0 → s.power.thermalHold = false →
    ∃ t, exec (.thermalSample x) s = .next t ∧ t.power.asserted = true ∧ ResetSource.thermal ∈ t.power.sources ∧
      t.power.thermalHold = true ∧ t.mode = {}) ∧
  (∀ s since, s.tele.coolSince = some since → s.tele.warn = true → s.rhoper = true →
    ∃ t, exec .thermalWarnClear s = .next t ∧ t.tele.warn = false ∧ t.now = max s.now (since + 1000000000)) ∧
  (∀ s b, s.mode.steward ≠ .stopped → s.testPort.uartRx.length < 64 →
    ∃ t n, exec (.uartRxByte b) s = .next t ∧ t.testPort.uartRx = s.testPort.uartRx.drop n ++ [b]) ∧
  (∀ s, exec .idcode s = .next { s with testPort := { s.testPort with ir := 0x01 } }) ∧
  (∀ s, exec .samplePreload s = .next { s with testPort := { s.testPort with ir := 0x02 } }) ∧
  (∀ s, exec .bypass s = .next { s with testPort := { s.testPort with ir := 0xFF } }) ∧
  (∀ s, exec .trstNAssert s = .next { s with testPort := { s.testPort with ir := 0x01 } }) ∧
  (∀ s i ir, (i, ir) ∈ [(Instr.extest, (0x00 : BitVec 8)), (.clamp, 0x04), (.highz, 0x05), (.extestPulse, 0x08), (.extestTrain, 0x09)] →
    ∃ t, exec i s = .next t ∧ t.testPort.ir = ir ∧ (t.testPort.pinsTaken = true) ∧
      (s.testPort.pinsTaken = false → t.link.up = false ∧ ∀ l < 40, (t.lane l).cdrLocked = false))

/-- The step of the model: the command at the front of the queue runs on the rest of the queue, and an empty queue idles for
1 µs of the model's clock (DESIGN CHOICE, logs 1 and 2). -/
def Obligations.StepRunsTheFrontCommand : Prop :=
  (∀ c rest s, s.pending = c :: rest → step s = exec c { s with pending := rest }) ∧
  (∀ s, s.pending = [] → step s = .next { s with now := s.now + 1000 })

/-- Every command answers a next state but VDD_CORE_LOW below 0.60 V, where the core's behaviour is undefined until the next
POR (02 R36): that is the block's one fault; where the effective reading is 0.64 V or more there is no fall (log 71). -/
def Obligations.EveryCommandAnswersAState : Prop :=
  (∀ c s, (∀ mv, c = .vddCoreLow mv → 600 ≤ mv) → ∃ t, exec c s = .next t) ∧
  (∀ s mv, mv < 600 → exec (.vddCoreLow mv) s = .fault .undefinedSupply) ∧
  (∀ s mv, 600 ≤ mv → 640 ≤ s.effectiveRail 0 mv → exec (.vddCoreLow mv) s = .next s)

/-- No command touches the commands that wait behind it (log 1). -/
def Obligations.QueueIsKept : Prop :=
  ∀ c s t, exec c s = .next t → t.pending = s.pending

/-- The mode register keeps the form that 05 Table 5-1 and Table 5-3 give it: every step keeps it. -/
def Obligations.ModeRegisterStaysLegal : Prop :=
  ∀ s t, ModeOk s.mode → step s = .next t → ModeOk t.mode

/-- The block as a power-on reset leaves it: STRAP with the Steward stopped (05 R145), the mode register legal, BKP and RMEM
zero (04 R122, R125), the queue empty, no reset yet released, and every sparse memory in its canonical form. -/
def Obligations.ResetState : Prop :=
  ModeOk State.reset.mode ∧ State.reset.mode.current = .strap ∧ State.reset.mode.steward = .stopped ∧
    State.reset.pending = [] ∧ (∀ n < 16, State.reset.bkp.getD n 1 = 0) ∧ (∀ a, sget 0 State.reset.rmem a = 0) ∧
    swf 0 State.reset.rmem = true ∧ swf 0 State.reset.tally = true ∧ swf 0 State.reset.ledger.words = true ∧
    (∀ c, State.reset.counter c = 0) ∧ State.reset.endpointOn = false

/-- BKP0 to BKP15 (04 R122): zero at a cold reset, kept by every other reset, written whole by the host's own write and by
nothing else, and not written while a reset is asserted. -/
def Obligations.BackupRegisters : Prop :=
  State.reset.bkp = List.replicate 16 0 ∧
  (∀ c s t, exec c s = .next t → (∀ o d, c ≠ .registerWrite o d) → (∀ p f, c ≠ .optionLoadingDone p f) → t.bkp = s.bkp) ∧
  (∀ s p f t, s.power.optionLoading = true → exec (.optionLoadingDone p f) s = .next t →
    t.bkp = if s.power.cold then List.replicate 16 0 else s.bkp) ∧
  (∀ s n w, n < 16 → s.power.asserted = false → s.power.optionLoading = false →
    exec (.registerWrite (0x20 + 4 * n) (natBytes 4 w)) s = .next { s with bkp := s.bkp.set n (BitVec.ofNat 32 w) }) ∧
  (∀ s o d t, (s.power.asserted = true ∨ s.power.optionLoading = true) → exec (.registerWrite o d) s = .next t →
    t.bkp = s.bkp)

/-- The strap samples change at the end of option loading only (04 R115), and RESET_CAUSE there, at a write of it and when
WDOG_RUN's time has passed (04 R108, R121). -/
def Obligations.StrapsAndCauseKept : Prop :=
  (∀ c s t, exec c s = .next t → (∀ p f, c ≠ .optionLoadingDone p f) → (∀ o d, c ≠ .registerWrite o d) →
    t.boot.straps = s.boot.straps) ∧
  (∀ c s t, exec c s = .next t → (∀ p f, c ≠ .optionLoadingDone p f) → (∀ o d, c ≠ .registerWrite o d) →
    (∀ w, c ≠ .resetCauseWrite w) → c ≠ .wdogRunClear → t.cause = s.cause)

/-- 07 R201 steps 1 to 3, 5 and 6: a TAG above 4,095, a bad header, and an opcode outside the ROM's subset are answered
before the command is one; the mode is checked before the parameters, and the first failing parameter is named. -/
def Obligations.RefusalOrder : Prop :=
  (∀ i op q j c s, hostRow i = some (op, .cq q j, c) → s.running = true → 4095 < c.tag.toNat →
    exec i s = .next (answer (.cq q j) (s.sourceCc (.cq q j)) (opcodeOf op) c.tag stBadArg 0 (resultOf [⟨8, 2, 2⟩]) s)) ∧
  (∀ i op src c s o, hostRow i = some (op, src, c) → s.takes src = true → (tagFault (opcodeOf op) src c s).isNone = true →
    headerBad c = some o →
    exec i s = .next (answer src (s.sourceCc src) (opcodeOf op) c.tag stBadArg 0 (resultOf [⟨8, 2, o⟩]) s)) ∧
  (∀ i op c s, hostRow i = some (op, .dmb, c) → headerBad c = none → s.mode.current = .loader ∨ s.mode.current = .recovery →
    romSubset op s.mode.current = false →
    exec i s = .next (answer .dmb 0 (opcodeOf op) c.tag stBadMode 0 0 s)) ∧
  (∀ i op c s, hostRow i = some (op, .mgmt, c) → headerBad c = none → mgmtCarries op = false →
    exec i s = .next (answer .mgmt 0 (opcodeOf op) c.tag stBadMode 0 0 s)) ∧
  (∀ e modes checks effect s, s.mode.current ∉ modes → checked e modes checks effect s = finish e stBadMode [] s) ∧
  (∀ e modes checks effect s pre o post, s.mode.current ∈ modes → checks = pre ++ some o :: post → (∀ x ∈ pre, x = none) →
    checked e modes checks effect s = finish e stBadArg [⟨8, 2, o⟩] s)

/-- 06 R189: the command that is taken first holds its tag, and the second is answered with DUP_TAG. -/
def Obligations.DuplicateTag : Prop :=
  (∀ op q j c s, opens op (.cq q j) c s = true → (opened op (.cq q j) c s).tagInFlight c.tag = true) ∧
  (∀ i op q j c s, hostRow i = some (op, .cq q j, c) → s.running = true → c.tag.toNat ≤ 4095 →
    s.tagInFlight c.tag = true →
    exec i s = .next (answer (.cq q j) (s.sourceCc (.cq q j)) (opcodeOf op) c.tag stDupTag 0 0 s))

/-- 07 R208: a retry of a finished command is answered from its record with RETRY_MATCH, one whose original still executes
joins it, and one with another opcode or other parameters is answered with EXISTS; none of them executes. -/
def Obligations.RetryMatch : Prop :=
  ∀ i op q j c s r, hostRow i = some (op, .cq q j, c) → s.running = true → c.tag.toNat ≤ 4095 →
    s.tagInFlight c.tag = false → headerBad c = none → c.retryId ≠ 0 →
    (s.cmds.retry.find? fun r => r.id == c.retryId && !lapsed s.now r) = some r →
    (∀ st res, r.op = op → r.params = c.params → r.result = some (st, res) → exec i s =
      .next (answer (.cq q j) (s.sourceCc (.cq q j)) (opcodeOf op) c.tag st 2 res.toNat s)) ∧
    (r.op = op → r.params = c.params → r.result = none → ∃ t, exec i s = .next t ∧ t.cmds.nextId = s.cmds.nextId ∧
      t.cmds.entries = s.cmds.entries.map fun e => if e.id = r.entry then { e with
        joined := e.joined ++ [⟨.cq q j, c.tag, s.sourceCc (.cq q j), c.flags.getLsbD 0, false⟩] } else e) ∧
    (r.op ≠ op ∨ r.params ≠ c.params → exec i s =
      .next (answer (.cq q j) (s.sourceCc (.cq q j)) (opcodeOf op) c.tag stExists 0 0 s))

/-- 07 R202: a command that names an object of an earlier open one waits, and begins when the other's final completion has
gone out. -/
def Obligations.SharedObjectWaits : Prop :=
  (∀ i op src c s x, hostRow i = some (op, src, c) → s.takes src = true → src ≠ .mgmt →
    (tagFault (opcodeOf op) src c s).isNone = true → headerBad c = none → reaches op src s = true → retryId src c = 0 →
    x ∈ s.cmds.entries → x.id < s.cmds.nextId → shares x.objects (objectsOf op c) = true →
    exec i s = .next { s with cmds := { s.cmds with
      entries := s.cmds.entries ++ [{ entryOf op src c s with phase := .waiting }], nextId := s.cmds.nextId + 1 } }) ∧
  (∀ (s : State) (e x : Entry), s.cmds.entries = [x, e] → x.id < e.id → shares x.objects e.objects = true → s.ready e = false) ∧
  (∀ s e, s.cmds.entries = [e] → e.phase = .waiting → s.mode.transition = none → shares s.movingObjects e.objects = false →
    exec .commandBegin s = .next (begin_ (beginOf e.op) e s))

/-- The final completion (07 R195, 06 R175, 18 R557): it leaves the command closed and carries Table 7-2's fields to the
transport of the command: 32 bytes at the TAIL of the completion queue, or the mailbox's completion with DONE. -/
def Obligations.FinalCompletion : Prop :=
  (∀ e st r s q j, s.entry e.id = some e → e.source = .cq q j → e.discard = false → e.joined = [] → s.endpointOn = true →
    s.linkHolds = false → s.hostFree 1 = true → (s.ep.cc.getD e.cc {}).enable = true →
    (finish e st r s).entry e.id = none ∧
    (finish e st r s).link.hostMem = swrite s.link.hostMem
      (baseAddr (s.ep.cc.getD e.cc {}).baseLo (s.ep.cc.getD e.cc {}).baseHi + 32 * (s.ep.cc.getD e.cc {}).tail)
      (natBytes 32 (layout 0 [⟨0, 2, opcodeOf e.op⟩, ⟨2, 2, e.cmd.tag.toNat⟩, ⟨4, 1, st.toNat⟩, ⟨5, 1, 1⟩,
        ⟨6, 2, q.val * 4096 + j.val⟩, ⟨8, 20, resultOf r⟩, ⟨31, 1, if (s.ep.cc.getD e.cc {}).phase then 0x80 else 0⟩])) ∧
    (e.cc < s.ep.cc.length → ((finish e st r s).ep.cc.getD e.cc {}).tail =
      ((s.ep.cc.getD e.cc {}).tail + 1) % 2 ^ (s.ep.cc.getD e.cc {}).log2)) ∧
  (∀ e st r s, s.entry e.id = some e → e.source = .dmb → e.discard = false → e.joined = [] →
    s.endpointOn = true → s.hostFree 1 = true →
    (finish e st r s).entry e.id = none ∧ (finish e st r s).ep.dmb = { s.ep.dmb with
      cmpl := natBytes 32 (layout 0 [⟨0, 2, opcodeOf e.op⟩, ⟨2, 2, e.cmd.tag.toNat⟩, ⟨4, 1, st.toNat⟩, ⟨5, 1, 5⟩,
        ⟨6, 2, 0⟩, ⟨8, 20, resultOf r⟩]),
      seq := s.ep.dmb.seq + 1, done := true, busy := false, taken := false }) ∧
  (∀ e st r s, s.entry e.id = some e → e.source = .mgmt → e.joined = [] →
    (finish e st r s).entry e.id = none ∧ (finish e st r s).mgmt = { s.mgmt with
      cmpl := natBytes 32 (layout 0 [⟨0, 2, opcodeOf e.op⟩, ⟨2, 2, e.cmd.tag.toNat⟩, ⟨4, 1, st.toNat⟩, ⟨5, 1, 9⟩,
        ⟨6, 2, 0⟩, ⟨8, 20, resultOf r⟩]),
      seq := s.mgmt.seq + 1, done := true, busy := false, taken := false })

/-- An event (07 R198, R199; 06 R176): with two free slots its 32 bytes go to the EQ's TAIL under the next SEQ; with one
or none it is dropped, consumes its SEQ, and makes EVENTS_LOST due. -/
def Obligations.EventQueuePosts : Prop :=
  (∀ code fields s, s.eqRoom = true → s.eq.lostPending = false → s.endpointOn = true → s.linkHolds = false →
    s.hostFree 1 = true → (raiseCore code fields s).link.hostMem = swrite s.link.hostMem (baseAddr s.eq.baseLo s.eq.baseHi + 32 * s.eq.tail)
      (natBytes 32 (layout 0 [⟨0, 2, code⟩, ⟨2, 1, s.node⟩, ⟨4, 4, s.eq.seq.toNat⟩, ⟨8, 8, s.alw.period⟩,
        ⟨16, 15, layout 16 fields⟩, ⟨31, 1, if s.eq.phase then 0x80 else 0⟩])) ∧
    (raiseCore code fields s).eq.tail = (s.eq.tail + 1) % 2 ^ s.eq.log2 ∧
    (raiseCore code fields s).eq.seq = s.eq.seq + 1) ∧
  (∀ code fields s, s.eqRoom = false →
    (raiseCore code fields s).eq.tail = s.eq.tail ∧ (raiseCore code fields s).eq.seq = s.eq.seq + 1 ∧
    (raiseCore code fields s).eq.dropped = s.eq.dropped + 1 ∧ (raiseCore code fields s).eq.lostPending = true ∧
    (raiseCore code fields s).irq.eqOverflow = true ∧ (raiseCore code fields s).link.hostMem = s.link.hostMem)

/-- RMEM_WRITE (04 R123, R124): only the bytes written change, none of the crash record's region, none of a word that takes
part of itself while it holds an uncorrectable error, none while a reset is asserted, and the memory keeps its canonical form. -/
def Obligations.RmemWriteFrame : Prop :=
  ∀ s o data t, exec (.rmemWrite o data) s = .next t →
    (∀ a, a < o ∨ o + data.length ≤ a → sget 0 t.rmem a = sget 0 s.rmem a) ∧
    (∀ a, 0xF000 ≤ a → sget 0 t.rmem a = sget 0 s.rmem a) ∧
    (∀ a, a / 8 ∈ s.rmemBad → (a / 8 * 8 < o ∨ o + data.length < a / 8 * 8 + 8) → sget 0 t.rmem a = sget 0 s.rmem a) ∧
    (s.power.asserted = true ∨ s.power.optionLoading = true → t = s) ∧
    (swf 0 s.rmem = true → swf 0 t.rmem = true) ∧ t = { s with rmem := t.rmem, rmemBad := t.rmemBad }

/-- The commands that only report change nothing but the transports, the open commands, the counters, the allowance balances, the
settings areas' bookkeeping, the free values drawn and Tylane's links. (SESSION_QUERY, which is none of them here, reads after the Teller's waiting commits, 01 R17.) -/
def Obligations.ReportsChangeNothingElse : Prop :=
  ∀ i op src c s t, hostRow i = some (op, src, c) →
    op ∈ [Op.identify, .versionGet, .settingsStatus, .allowanceReport, .paceReport, .channelQuery, .tbTimeGet, .portStatus,
      .stationQuery, .clusterStatus, .ledgerStatus, .counterRead, .telemetryRead, .imageStatus, .engineStatus,
      .retirementMapGet] →
    exec i s = .next t →
    t = { s with
      cmds := t.cmds, ep := t.ep, link := t.link, eq := t.eq, irq := t.irq, tally := t.tally, mgmt := t.mgmt,
      alw := { s.alw with balances := t.alw.balances }, lanes := t.lanes, freeCount := t.freeCount, sets := t.sets }

/-- The host's writes of its queues, doorbells, mailboxes and interrupt registers change the endpoint, the EQ, the link and
the interrupt registers, with the counters, the allowance balances and the free values drawn, and nothing else. -/
def Obligations.TransportWritesChangeTheTransport : Prop :=
  ∀ i s t, (∃ q w, i = .cqTailDoorbell q w) ∨ (∃ q w, i = .ccHeadDoorbell q w) ∨ (∃ w, i = .eqHeadDoorbell w) ∨
      (∃ w, i = .intStatusClear w) ∨ (∃ w, i = .intTest w) ∨ (∃ o d, i = .dmbCmdWrite o d) ∨ i = .dmbGo ∨ i = .dmbDoneClear ∨
      (∃ q w, i = .queueDisable q w) ∨ (∃ b, i = .pciePmStateChange b) ∨ i = .pcieLinkUp ∨ i = .pcieLinkDown ∨
      (∃ w, i = .cmdCancel w) →
    exec i s = .next t →
    t = { s with
      cmds := t.cmds, ep := t.ep, link := t.link, eq := t.eq, irq := t.irq, tally := t.tally,
      alw := { s.alw with balances := t.alw.balances }, freeCount := t.freeCount }

/-- 06 R188: of two doorbells before a take, the later accepted value alone sets TAIL. -/
def Obligations.LaterDoorbellSetsTail : Prop :=
  ∀ s t q v w, s.endpointOn = true → (s.ep.cq.getD q.val {}).enable = true →
    v.toNat < 2 ^ (s.ep.cq.getD q.val {}).log2 → w.toNat < 2 ^ (s.ep.cq.getD q.val {}).log2 →
    exec (.cqTailDoorbell q v) s = .next t →
    exec (.cqTailDoorbell q w) t = exec (.cqTailDoorbell q w) s ∧
    ∃ u, exec (.cqTailDoorbell q w) t = .next u ∧ (u.ep.cq.getD q.val {}).tail = w.toNat

/-- 06 R183: HALT sets FATAL and, with the link up, sends the message of vector 5. -/
def Obligations.HaltSignalsFatal : Prop :=
  ∀ i s t, i ∈ [Instr.stewardLockstepMismatch, .stewardSramUe, .rhoperFatalAssertion] → s.rhoper = true →
    s.stewardOn = true → s.irq.fatal = false → exec i s = .next t →
    t.mode.current = .halt ∧ t.mode.steward = .stopped ∧ t.irq.fatal = true ∧
    (s.endpointOn = true → s.linkHolds = false → s.ep.config.msixEnable = true → s.ep.config.functionMask = false →
      (s.ep.msix.getD 5 {}).masked = false →
      t.link.messages.getLast? = some 5)

/-- 04 R106: a remote reset request without REMOTE_EN is counted and has no other effect. -/
def Obligations.RemoteResetRefused : Prop :=
  ∀ s node cold, s.remoteEn = false → exec (.remoteResetRequest node cold) s = .next (count (devCtr 16) s)

/-- 12 Table 12-2, rows 1 to 5, with R379 and R380: the first check that fails decides, and the port counts the frame once; a
runt is a runt whatever its FCS, and a PAUSE frame with a bad FCS an FCS error. What the crossing's ECC found in the frame
counts beside it (02 R56, R69). Block 77 is not in reset (log 45). -/
def Obligations.FirstReceiveCheckDecides : Prop :=
  ∀ s (p : Fin 8) f s0, (s.port p.val).state = .up → s.testPort.pinsTaken = false → s.blockInReset 77 = false →
    s0 = countBy (devCtr 5) f.corrected (if f.poisoned then count (devCtr 6) s else s) →
    (f.fifoFull = true → exec (.portFrameReceived p f) s = .next (count (portCtr p.val 21) s0)) ∧
    (f.fifoFull = false → f.codeError = true → exec (.portFrameReceived p f) s = .next (count (portCtr p.val 20) s0)) ∧
    (f.fifoFull = false → f.codeError = false → f.bytes.length < 64 →
      exec (.portFrameReceived p f) s = .next (count (portCtr p.val 18) s0)) ∧
    (f.fifoFull = false → f.codeError = false → 64 ≤ f.bytes.length → (s.portCfg p.val).maxFrame < f.bytes.length →
      exec (.portFrameReceived p f) s = .next (count (portCtr p.val 19) s0)) ∧
    (f.fifoFull = false → f.codeError = false → 64 ≤ f.bytes.length → f.bytes.length ≤ (s.portCfg p.val).maxFrame →
      crc32 (f.bytes.take (f.bytes.length - 4)) ≠ bytesNat (f.bytes.drop (f.bytes.length - 4)) →
      exec (.portFrameReceived p f) s = .next (count (portCtr p.val 17) s0))

/-- 03 R77: the refill of every balance, with debts and caps, and what a grant takes. -/
def Obligations.RefillAndCharge : Prop :=
  (∀ (s : State) cls res (b : Balance), cls < 8 → res < 4 → s.alw.balances[4 * cls + res]? = some b →
    ∃ a : AllowanceCfg, a = (if s.running then s.cfg.allowances else defaultAllowances).getD (4 * cls + res) { allow := 0, floor := 0 } ∧
      ((refillAll s).balance cls res).b = min (b.b + a.allow) (2 * a.allow) ∧
      ((refillAll s).balance cls res).c = (if background cls then min (b.c + a.floor) (2 * a.floor) else b.c) ∧
      ((refillAll s).balance cls res).s = 0) ∧
  (∀ (s : State) cls res (n : Nat) (b : Balance), cls < 8 → res < 4 → s.alw.balances[4 * cls + res]? = some b →
    ((chargeGrant cls res n s).balance cls res).b = b.b - 256 * n ∧
    ((chargeGrant cls res n s).balance cls res).s = b.s + 256 * n ∧
    ((chargeGrant cls res n s).balance cls res).c = (if background cls then b.c - 256 * n else b.c) ∧
    ∀ i, i ≠ 4 * cls + res → (chargeGrant cls res n s).alw.balances[i]? = s.alw.balances[i]?)

/-- 08 R242: every engine is PREEMPT after a device-level reset, whatever asserts it. -/
def Obligations.EnginesPreemptAfterReset : Prop :=
  (∀ src cold n s e, ((assertReset src cold n s).engine e).preempt = true) ∧
  (∀ s rail e t, exec (.por rail) s = .next t → (t.engine e).preempt = true) ∧
  (∀ s e t, s.power.wdogArmed = true → exec .watchdogExpiry s = .next t → (t.engine e).preempt = true)
end

