-- ==== Sys2Proof/Laws/State.lean ====
section
/-!
SUPPORT. What the model's named updates of the state leave: one lemma for each field of each update.
-/
namespace Sys2Proof.Machine

/-! advance -/

section
variable (d : Nat) (s : State)

@[simp] theorem advance_pending : (advance d s).pending = s.pending := rfl
@[simp] theorem advance_now : (advance d s).now = max s.now d := rfl
@[simp] theorem advance_freeCount : (advance d s).freeCount = s.freeCount := rfl
@[simp] theorem advance_power : (advance d s).power = s.power := rfl
@[simp] theorem advance_cause : (advance d s).cause = s.cause := rfl
@[simp] theorem advance_boot : (advance d s).boot = s.boot := rfl
@[simp] theorem advance_mode : (advance d s).mode = s.mode := rfl
@[simp] theorem advance_bkp : (advance d s).bkp = s.bkp := rfl
@[simp] theorem advance_rmem : (advance d s).rmem = s.rmem := rfl
@[simp] theorem advance_rmemBad : (advance d s).rmemBad = s.rmemBad := rfl
@[simp] theorem advance_ep : (advance d s).ep = s.ep := rfl
@[simp] theorem advance_eq : (advance d s).eq = s.eq := rfl
@[simp] theorem advance_irq : (advance d s).irq = s.irq := rfl
@[simp] theorem advance_link : (advance d s).link = s.link := rfl
@[simp] theorem advance_cmds : (advance d s).cmds = s.cmds := rfl
@[simp] theorem advance_cfg : (advance d s).cfg = s.cfg := rfl
@[simp] theorem advance_sets : (advance d s).sets = s.sets := rfl
@[simp] theorem advance_gov : (advance d s).gov = s.gov := rfl
@[simp] theorem advance_alw : (advance d s).alw = s.alw := rfl
@[simp] theorem advance_board : (advance d s).board = s.board := rfl
@[simp] theorem advance_voice : (advance d s).voice = s.voice := rfl
@[simp] theorem advance_tables : (advance d s).tables = s.tables := rfl
@[simp] theorem advance_ports : (advance d s).ports = s.ports := rfl
@[simp] theorem advance_time : (advance d s).time = s.time := rfl
@[simp] theorem advance_launch : (advance d s).launch = s.launch := rfl
@[simp] theorem advance_lanes : (advance d s).lanes = s.lanes := rfl
@[simp] theorem advance_cluster : (advance d s).cluster = s.cluster := rfl
@[simp] theorem advance_faults : (advance d s).faults = s.faults := rfl
@[simp] theorem advance_ledger : (advance d s).ledger = s.ledger := rfl
@[simp] theorem advance_fw : (advance d s).fw = s.fw := rfl
@[simp] theorem advance_mgmt : (advance d s).mgmt = s.mgmt := rfl
@[simp] theorem advance_tele : (advance d s).tele = s.tele := rfl
@[simp] theorem advance_testPort : (advance d s).testPort = s.testPort := rfl
@[simp] theorem advance_window : (advance d s).window = s.window := rfl
@[simp] theorem advance_tally : (advance d s).tally = s.tally := rfl

end

/-! drawn -/

section
variable (s : State)

@[simp] theorem drawn_pending : (drawn s).pending = s.pending := rfl
@[simp] theorem drawn_now : (drawn s).now = s.now := rfl
@[simp] theorem drawn_freeCount : (drawn s).freeCount = s.freeCount + 1 := rfl
@[simp] theorem drawn_power : (drawn s).power = s.power := rfl
@[simp] theorem drawn_cause : (drawn s).cause = s.cause := rfl
@[simp] theorem drawn_boot : (drawn s).boot = s.boot := rfl
@[simp] theorem drawn_mode : (drawn s).mode = s.mode := rfl
@[simp] theorem drawn_bkp : (drawn s).bkp = s.bkp := rfl
@[simp] theorem drawn_rmem : (drawn s).rmem = s.rmem := rfl
@[simp] theorem drawn_rmemBad : (drawn s).rmemBad = s.rmemBad := rfl
@[simp] theorem drawn_ep : (drawn s).ep = s.ep := rfl
@[simp] theorem drawn_eq : (drawn s).eq = s.eq := rfl
@[simp] theorem drawn_irq : (drawn s).irq = s.irq := rfl
@[simp] theorem drawn_link : (drawn s).link = s.link := rfl
@[simp] theorem drawn_cmds : (drawn s).cmds = s.cmds := rfl
@[simp] theorem drawn_cfg : (drawn s).cfg = s.cfg := rfl
@[simp] theorem drawn_sets : (drawn s).sets = s.sets := rfl
@[simp] theorem drawn_gov : (drawn s).gov = s.gov := rfl
@[simp] theorem drawn_alw : (drawn s).alw = s.alw := rfl
@[simp] theorem drawn_board : (drawn s).board = s.board := rfl
@[simp] theorem drawn_voice : (drawn s).voice = s.voice := rfl
@[simp] theorem drawn_tables : (drawn s).tables = s.tables := rfl
@[simp] theorem drawn_ports : (drawn s).ports = s.ports := rfl
@[simp] theorem drawn_time : (drawn s).time = s.time := rfl
@[simp] theorem drawn_launch : (drawn s).launch = s.launch := rfl
@[simp] theorem drawn_lanes : (drawn s).lanes = s.lanes := rfl
@[simp] theorem drawn_cluster : (drawn s).cluster = s.cluster := rfl
@[simp] theorem drawn_faults : (drawn s).faults = s.faults := rfl
@[simp] theorem drawn_ledger : (drawn s).ledger = s.ledger := rfl
@[simp] theorem drawn_fw : (drawn s).fw = s.fw := rfl
@[simp] theorem drawn_mgmt : (drawn s).mgmt = s.mgmt := rfl
@[simp] theorem drawn_tele : (drawn s).tele = s.tele := rfl
@[simp] theorem drawn_testPort : (drawn s).testPort = s.testPort := rfl
@[simp] theorem drawn_window : (drawn s).window = s.window := rfl
@[simp] theorem drawn_tally : (drawn s).tally = s.tally := rfl

end

/-! setEntry -/

section
variable (i : Nat) (f : Entry → Entry) (s : State)

@[simp] theorem setEntry_pending : (setEntry i f s).pending = s.pending := rfl
@[simp] theorem setEntry_now : (setEntry i f s).now = s.now := rfl
@[simp] theorem setEntry_freeCount : (setEntry i f s).freeCount = s.freeCount := rfl
@[simp] theorem setEntry_power : (setEntry i f s).power = s.power := rfl
@[simp] theorem setEntry_cause : (setEntry i f s).cause = s.cause := rfl
@[simp] theorem setEntry_boot : (setEntry i f s).boot = s.boot := rfl
@[simp] theorem setEntry_mode : (setEntry i f s).mode = s.mode := rfl
@[simp] theorem setEntry_bkp : (setEntry i f s).bkp = s.bkp := rfl
@[simp] theorem setEntry_rmem : (setEntry i f s).rmem = s.rmem := rfl
@[simp] theorem setEntry_rmemBad : (setEntry i f s).rmemBad = s.rmemBad := rfl
@[simp] theorem setEntry_ep : (setEntry i f s).ep = s.ep := rfl
@[simp] theorem setEntry_eq : (setEntry i f s).eq = s.eq := rfl
@[simp] theorem setEntry_irq : (setEntry i f s).irq = s.irq := rfl
@[simp] theorem setEntry_link : (setEntry i f s).link = s.link := rfl
@[simp] theorem setEntry_cmds : (setEntry i f s).cmds = { s.cmds with entries := s.cmds.entries.map fun e => if e.id = i then f e else e } := rfl
@[simp] theorem setEntry_cfg : (setEntry i f s).cfg = s.cfg := rfl
@[simp] theorem setEntry_sets : (setEntry i f s).sets = s.sets := rfl
@[simp] theorem setEntry_gov : (setEntry i f s).gov = s.gov := rfl
@[simp] theorem setEntry_alw : (setEntry i f s).alw = s.alw := rfl
@[simp] theorem setEntry_board : (setEntry i f s).board = s.board := rfl
@[simp] theorem setEntry_voice : (setEntry i f s).voice = s.voice := rfl
@[simp] theorem setEntry_tables : (setEntry i f s).tables = s.tables := rfl
@[simp] theorem setEntry_ports : (setEntry i f s).ports = s.ports := rfl
@[simp] theorem setEntry_time : (setEntry i f s).time = s.time := rfl
@[simp] theorem setEntry_launch : (setEntry i f s).launch = s.launch := rfl
@[simp] theorem setEntry_lanes : (setEntry i f s).lanes = s.lanes := rfl
@[simp] theorem setEntry_cluster : (setEntry i f s).cluster = s.cluster := rfl
@[simp] theorem setEntry_faults : (setEntry i f s).faults = s.faults := rfl
@[simp] theorem setEntry_ledger : (setEntry i f s).ledger = s.ledger := rfl
@[simp] theorem setEntry_fw : (setEntry i f s).fw = s.fw := rfl
@[simp] theorem setEntry_mgmt : (setEntry i f s).mgmt = s.mgmt := rfl
@[simp] theorem setEntry_tele : (setEntry i f s).tele = s.tele := rfl
@[simp] theorem setEntry_testPort : (setEntry i f s).testPort = s.testPort := rfl
@[simp] theorem setEntry_window : (setEntry i f s).window = s.window := rfl
@[simp] theorem setEntry_tally : (setEntry i f s).tally = s.tally := rfl

end

/-! setCq -/

section
variable (q : Nat) (f : CommandQueue → CommandQueue) (s : State)

@[simp] theorem setCq_pending : (setCq q f s).pending = s.pending := rfl
@[simp] theorem setCq_now : (setCq q f s).now = s.now := rfl
@[simp] theorem setCq_freeCount : (setCq q f s).freeCount = s.freeCount := rfl
@[simp] theorem setCq_power : (setCq q f s).power = s.power := rfl
@[simp] theorem setCq_cause : (setCq q f s).cause = s.cause := rfl
@[simp] theorem setCq_boot : (setCq q f s).boot = s.boot := rfl
@[simp] theorem setCq_mode : (setCq q f s).mode = s.mode := rfl
@[simp] theorem setCq_bkp : (setCq q f s).bkp = s.bkp := rfl
@[simp] theorem setCq_rmem : (setCq q f s).rmem = s.rmem := rfl
@[simp] theorem setCq_rmemBad : (setCq q f s).rmemBad = s.rmemBad := rfl
@[simp] theorem setCq_ep : (setCq q f s).ep = { s.ep with cq := upd s.ep.cq q f } := rfl
@[simp] theorem setCq_eq : (setCq q f s).eq = s.eq := rfl
@[simp] theorem setCq_irq : (setCq q f s).irq = s.irq := rfl
@[simp] theorem setCq_link : (setCq q f s).link = s.link := rfl
@[simp] theorem setCq_cmds : (setCq q f s).cmds = s.cmds := rfl
@[simp] theorem setCq_cfg : (setCq q f s).cfg = s.cfg := rfl
@[simp] theorem setCq_sets : (setCq q f s).sets = s.sets := rfl
@[simp] theorem setCq_gov : (setCq q f s).gov = s.gov := rfl
@[simp] theorem setCq_alw : (setCq q f s).alw = s.alw := rfl
@[simp] theorem setCq_board : (setCq q f s).board = s.board := rfl
@[simp] theorem setCq_voice : (setCq q f s).voice = s.voice := rfl
@[simp] theorem setCq_tables : (setCq q f s).tables = s.tables := rfl
@[simp] theorem setCq_ports : (setCq q f s).ports = s.ports := rfl
@[simp] theorem setCq_time : (setCq q f s).time = s.time := rfl
@[simp] theorem setCq_launch : (setCq q f s).launch = s.launch := rfl
@[simp] theorem setCq_lanes : (setCq q f s).lanes = s.lanes := rfl
@[simp] theorem setCq_cluster : (setCq q f s).cluster = s.cluster := rfl
@[simp] theorem setCq_faults : (setCq q f s).faults = s.faults := rfl
@[simp] theorem setCq_ledger : (setCq q f s).ledger = s.ledger := rfl
@[simp] theorem setCq_fw : (setCq q f s).fw = s.fw := rfl
@[simp] theorem setCq_mgmt : (setCq q f s).mgmt = s.mgmt := rfl
@[simp] theorem setCq_tele : (setCq q f s).tele = s.tele := rfl
@[simp] theorem setCq_testPort : (setCq q f s).testPort = s.testPort := rfl
@[simp] theorem setCq_window : (setCq q f s).window = s.window := rfl
@[simp] theorem setCq_tally : (setCq q f s).tally = s.tally := rfl

end

/-! setCc -/

section
variable (q : Nat) (f : CompletionQueue → CompletionQueue) (s : State)

@[simp] theorem setCc_pending : (setCc q f s).pending = s.pending := rfl
@[simp] theorem setCc_now : (setCc q f s).now = s.now := rfl
@[simp] theorem setCc_freeCount : (setCc q f s).freeCount = s.freeCount := rfl
@[simp] theorem setCc_power : (setCc q f s).power = s.power := rfl
@[simp] theorem setCc_cause : (setCc q f s).cause = s.cause := rfl
@[simp] theorem setCc_boot : (setCc q f s).boot = s.boot := rfl
@[simp] theorem setCc_mode : (setCc q f s).mode = s.mode := rfl
@[simp] theorem setCc_bkp : (setCc q f s).bkp = s.bkp := rfl
@[simp] theorem setCc_rmem : (setCc q f s).rmem = s.rmem := rfl
@[simp] theorem setCc_rmemBad : (setCc q f s).rmemBad = s.rmemBad := rfl
@[simp] theorem setCc_ep : (setCc q f s).ep = { s.ep with cc := upd s.ep.cc q f } := rfl
@[simp] theorem setCc_eq : (setCc q f s).eq = s.eq := rfl
@[simp] theorem setCc_irq : (setCc q f s).irq = s.irq := rfl
@[simp] theorem setCc_link : (setCc q f s).link = s.link := rfl
@[simp] theorem setCc_cmds : (setCc q f s).cmds = s.cmds := rfl
@[simp] theorem setCc_cfg : (setCc q f s).cfg = s.cfg := rfl
@[simp] theorem setCc_sets : (setCc q f s).sets = s.sets := rfl
@[simp] theorem setCc_gov : (setCc q f s).gov = s.gov := rfl
@[simp] theorem setCc_alw : (setCc q f s).alw = s.alw := rfl
@[simp] theorem setCc_board : (setCc q f s).board = s.board := rfl
@[simp] theorem setCc_voice : (setCc q f s).voice = s.voice := rfl
@[simp] theorem setCc_tables : (setCc q f s).tables = s.tables := rfl
@[simp] theorem setCc_ports : (setCc q f s).ports = s.ports := rfl
@[simp] theorem setCc_time : (setCc q f s).time = s.time := rfl
@[simp] theorem setCc_launch : (setCc q f s).launch = s.launch := rfl
@[simp] theorem setCc_lanes : (setCc q f s).lanes = s.lanes := rfl
@[simp] theorem setCc_cluster : (setCc q f s).cluster = s.cluster := rfl
@[simp] theorem setCc_faults : (setCc q f s).faults = s.faults := rfl
@[simp] theorem setCc_ledger : (setCc q f s).ledger = s.ledger := rfl
@[simp] theorem setCc_fw : (setCc q f s).fw = s.fw := rfl
@[simp] theorem setCc_mgmt : (setCc q f s).mgmt = s.mgmt := rfl
@[simp] theorem setCc_tele : (setCc q f s).tele = s.tele := rfl
@[simp] theorem setCc_testPort : (setCc q f s).testPort = s.testPort := rfl
@[simp] theorem setCc_window : (setCc q f s).window = s.window := rfl
@[simp] theorem setCc_tally : (setCc q f s).tally = s.tally := rfl

end

/-! setBalance -/

section
variable (c r : Nat) (f : Balance → Balance) (s : State)

@[simp] theorem setBalance_pending : (setBalance c r f s).pending = s.pending := rfl
@[simp] theorem setBalance_now : (setBalance c r f s).now = s.now := rfl
@[simp] theorem setBalance_freeCount : (setBalance c r f s).freeCount = s.freeCount := rfl
@[simp] theorem setBalance_power : (setBalance c r f s).power = s.power := rfl
@[simp] theorem setBalance_cause : (setBalance c r f s).cause = s.cause := rfl
@[simp] theorem setBalance_boot : (setBalance c r f s).boot = s.boot := rfl
@[simp] theorem setBalance_mode : (setBalance c r f s).mode = s.mode := rfl
@[simp] theorem setBalance_bkp : (setBalance c r f s).bkp = s.bkp := rfl
@[simp] theorem setBalance_rmem : (setBalance c r f s).rmem = s.rmem := rfl
@[simp] theorem setBalance_rmemBad : (setBalance c r f s).rmemBad = s.rmemBad := rfl
@[simp] theorem setBalance_ep : (setBalance c r f s).ep = s.ep := rfl
@[simp] theorem setBalance_eq : (setBalance c r f s).eq = s.eq := rfl
@[simp] theorem setBalance_irq : (setBalance c r f s).irq = s.irq := rfl
@[simp] theorem setBalance_link : (setBalance c r f s).link = s.link := rfl
@[simp] theorem setBalance_cmds : (setBalance c r f s).cmds = s.cmds := rfl
@[simp] theorem setBalance_cfg : (setBalance c r f s).cfg = s.cfg := rfl
@[simp] theorem setBalance_sets : (setBalance c r f s).sets = s.sets := rfl
@[simp] theorem setBalance_gov : (setBalance c r f s).gov = s.gov := rfl
@[simp] theorem setBalance_alw : (setBalance c r f s).alw = { s.alw with balances := upd s.alw.balances (balIndex c r) f } := rfl
@[simp] theorem setBalance_board : (setBalance c r f s).board = s.board := rfl
@[simp] theorem setBalance_voice : (setBalance c r f s).voice = s.voice := rfl
@[simp] theorem setBalance_tables : (setBalance c r f s).tables = s.tables := rfl
@[simp] theorem setBalance_ports : (setBalance c r f s).ports = s.ports := rfl
@[simp] theorem setBalance_time : (setBalance c r f s).time = s.time := rfl
@[simp] theorem setBalance_launch : (setBalance c r f s).launch = s.launch := rfl
@[simp] theorem setBalance_lanes : (setBalance c r f s).lanes = s.lanes := rfl
@[simp] theorem setBalance_cluster : (setBalance c r f s).cluster = s.cluster := rfl
@[simp] theorem setBalance_faults : (setBalance c r f s).faults = s.faults := rfl
@[simp] theorem setBalance_ledger : (setBalance c r f s).ledger = s.ledger := rfl
@[simp] theorem setBalance_fw : (setBalance c r f s).fw = s.fw := rfl
@[simp] theorem setBalance_mgmt : (setBalance c r f s).mgmt = s.mgmt := rfl
@[simp] theorem setBalance_tele : (setBalance c r f s).tele = s.tele := rfl
@[simp] theorem setBalance_testPort : (setBalance c r f s).testPort = s.testPort := rfl
@[simp] theorem setBalance_window : (setBalance c r f s).window = s.window := rfl
@[simp] theorem setBalance_tally : (setBalance c r f s).tally = s.tally := rfl

end

/-! setEngine -/

section
variable (e : Nat) (f : Engine → Engine) (s : State)

@[simp] theorem setEngine_pending : (setEngine e f s).pending = s.pending := rfl
@[simp] theorem setEngine_now : (setEngine e f s).now = s.now := rfl
@[simp] theorem setEngine_freeCount : (setEngine e f s).freeCount = s.freeCount := rfl
@[simp] theorem setEngine_power : (setEngine e f s).power = s.power := rfl
@[simp] theorem setEngine_cause : (setEngine e f s).cause = s.cause := rfl
@[simp] theorem setEngine_boot : (setEngine e f s).boot = s.boot := rfl
@[simp] theorem setEngine_mode : (setEngine e f s).mode = s.mode := rfl
@[simp] theorem setEngine_bkp : (setEngine e f s).bkp = s.bkp := rfl
@[simp] theorem setEngine_rmem : (setEngine e f s).rmem = s.rmem := rfl
@[simp] theorem setEngine_rmemBad : (setEngine e f s).rmemBad = s.rmemBad := rfl
@[simp] theorem setEngine_ep : (setEngine e f s).ep = s.ep := rfl
@[simp] theorem setEngine_eq : (setEngine e f s).eq = s.eq := rfl
@[simp] theorem setEngine_irq : (setEngine e f s).irq = s.irq := rfl
@[simp] theorem setEngine_link : (setEngine e f s).link = s.link := rfl
@[simp] theorem setEngine_cmds : (setEngine e f s).cmds = s.cmds := rfl
@[simp] theorem setEngine_cfg : (setEngine e f s).cfg = s.cfg := rfl
@[simp] theorem setEngine_sets : (setEngine e f s).sets = s.sets := rfl
@[simp] theorem setEngine_gov : (setEngine e f s).gov = s.gov := rfl
@[simp] theorem setEngine_alw : (setEngine e f s).alw = s.alw := rfl
@[simp] theorem setEngine_board : (setEngine e f s).board = { s.board with engines := upd s.board.engines e f } := rfl
@[simp] theorem setEngine_voice : (setEngine e f s).voice = s.voice := rfl
@[simp] theorem setEngine_tables : (setEngine e f s).tables = s.tables := rfl
@[simp] theorem setEngine_ports : (setEngine e f s).ports = s.ports := rfl
@[simp] theorem setEngine_time : (setEngine e f s).time = s.time := rfl
@[simp] theorem setEngine_launch : (setEngine e f s).launch = s.launch := rfl
@[simp] theorem setEngine_lanes : (setEngine e f s).lanes = s.lanes := rfl
@[simp] theorem setEngine_cluster : (setEngine e f s).cluster = s.cluster := rfl
@[simp] theorem setEngine_faults : (setEngine e f s).faults = s.faults := rfl
@[simp] theorem setEngine_ledger : (setEngine e f s).ledger = s.ledger := rfl
@[simp] theorem setEngine_fw : (setEngine e f s).fw = s.fw := rfl
@[simp] theorem setEngine_mgmt : (setEngine e f s).mgmt = s.mgmt := rfl
@[simp] theorem setEngine_tele : (setEngine e f s).tele = s.tele := rfl
@[simp] theorem setEngine_testPort : (setEngine e f s).testPort = s.testPort := rfl
@[simp] theorem setEngine_window : (setEngine e f s).window = s.window := rfl
@[simp] theorem setEngine_tally : (setEngine e f s).tally = s.tally := rfl

end

/-! setTb -/

section
variable (i : Nat) (f : TimeBase → TimeBase) (s : State)

@[simp] theorem setTb_pending : (setTb i f s).pending = s.pending := rfl
@[simp] theorem setTb_now : (setTb i f s).now = s.now := rfl
@[simp] theorem setTb_freeCount : (setTb i f s).freeCount = s.freeCount := rfl
@[simp] theorem setTb_power : (setTb i f s).power = s.power := rfl
@[simp] theorem setTb_cause : (setTb i f s).cause = s.cause := rfl
@[simp] theorem setTb_boot : (setTb i f s).boot = s.boot := rfl
@[simp] theorem setTb_mode : (setTb i f s).mode = s.mode := rfl
@[simp] theorem setTb_bkp : (setTb i f s).bkp = s.bkp := rfl
@[simp] theorem setTb_rmem : (setTb i f s).rmem = s.rmem := rfl
@[simp] theorem setTb_rmemBad : (setTb i f s).rmemBad = s.rmemBad := rfl
@[simp] theorem setTb_ep : (setTb i f s).ep = s.ep := rfl
@[simp] theorem setTb_eq : (setTb i f s).eq = s.eq := rfl
@[simp] theorem setTb_irq : (setTb i f s).irq = s.irq := rfl
@[simp] theorem setTb_link : (setTb i f s).link = s.link := rfl
@[simp] theorem setTb_cmds : (setTb i f s).cmds = s.cmds := rfl
@[simp] theorem setTb_cfg : (setTb i f s).cfg = s.cfg := rfl
@[simp] theorem setTb_sets : (setTb i f s).sets = s.sets := rfl
@[simp] theorem setTb_gov : (setTb i f s).gov = s.gov := rfl
@[simp] theorem setTb_alw : (setTb i f s).alw = s.alw := rfl
@[simp] theorem setTb_board : (setTb i f s).board = s.board := rfl
@[simp] theorem setTb_voice : (setTb i f s).voice = s.voice := rfl
@[simp] theorem setTb_tables : (setTb i f s).tables = s.tables := rfl
@[simp] theorem setTb_ports : (setTb i f s).ports = s.ports := rfl
@[simp] theorem setTb_time : (setTb i f s).time = { s.time with bases := upd s.time.bases i f } := rfl
@[simp] theorem setTb_launch : (setTb i f s).launch = s.launch := rfl
@[simp] theorem setTb_lanes : (setTb i f s).lanes = s.lanes := rfl
@[simp] theorem setTb_cluster : (setTb i f s).cluster = s.cluster := rfl
@[simp] theorem setTb_faults : (setTb i f s).faults = s.faults := rfl
@[simp] theorem setTb_ledger : (setTb i f s).ledger = s.ledger := rfl
@[simp] theorem setTb_fw : (setTb i f s).fw = s.fw := rfl
@[simp] theorem setTb_mgmt : (setTb i f s).mgmt = s.mgmt := rfl
@[simp] theorem setTb_tele : (setTb i f s).tele = s.tele := rfl
@[simp] theorem setTb_testPort : (setTb i f s).testPort = s.testPort := rfl
@[simp] theorem setTb_window : (setTb i f s).window = s.window := rfl
@[simp] theorem setTb_tally : (setTb i f s).tally = s.tally := rfl

end

/-! setLane -/

section
variable (l : Nat) (f : Lane → Lane) (s : State)

@[simp] theorem setLane_pending : (setLane l f s).pending = s.pending := rfl
@[simp] theorem setLane_now : (setLane l f s).now = s.now := rfl
@[simp] theorem setLane_freeCount : (setLane l f s).freeCount = s.freeCount := rfl
@[simp] theorem setLane_power : (setLane l f s).power = s.power := rfl
@[simp] theorem setLane_cause : (setLane l f s).cause = s.cause := rfl
@[simp] theorem setLane_boot : (setLane l f s).boot = s.boot := rfl
@[simp] theorem setLane_mode : (setLane l f s).mode = s.mode := rfl
@[simp] theorem setLane_bkp : (setLane l f s).bkp = s.bkp := rfl
@[simp] theorem setLane_rmem : (setLane l f s).rmem = s.rmem := rfl
@[simp] theorem setLane_rmemBad : (setLane l f s).rmemBad = s.rmemBad := rfl
@[simp] theorem setLane_ep : (setLane l f s).ep = s.ep := rfl
@[simp] theorem setLane_eq : (setLane l f s).eq = s.eq := rfl
@[simp] theorem setLane_irq : (setLane l f s).irq = s.irq := rfl
@[simp] theorem setLane_link : (setLane l f s).link = s.link := rfl
@[simp] theorem setLane_cmds : (setLane l f s).cmds = s.cmds := rfl
@[simp] theorem setLane_cfg : (setLane l f s).cfg = s.cfg := rfl
@[simp] theorem setLane_sets : (setLane l f s).sets = s.sets := rfl
@[simp] theorem setLane_gov : (setLane l f s).gov = s.gov := rfl
@[simp] theorem setLane_alw : (setLane l f s).alw = s.alw := rfl
@[simp] theorem setLane_board : (setLane l f s).board = s.board := rfl
@[simp] theorem setLane_voice : (setLane l f s).voice = s.voice := rfl
@[simp] theorem setLane_tables : (setLane l f s).tables = s.tables := rfl
@[simp] theorem setLane_ports : (setLane l f s).ports = s.ports := rfl
@[simp] theorem setLane_time : (setLane l f s).time = s.time := rfl
@[simp] theorem setLane_launch : (setLane l f s).launch = s.launch := rfl
@[simp] theorem setLane_lanes : (setLane l f s).lanes = { s.lanes with lanes := upd s.lanes.lanes l f } := rfl
@[simp] theorem setLane_cluster : (setLane l f s).cluster = s.cluster := rfl
@[simp] theorem setLane_faults : (setLane l f s).faults = s.faults := rfl
@[simp] theorem setLane_ledger : (setLane l f s).ledger = s.ledger := rfl
@[simp] theorem setLane_fw : (setLane l f s).fw = s.fw := rfl
@[simp] theorem setLane_mgmt : (setLane l f s).mgmt = s.mgmt := rfl
@[simp] theorem setLane_tele : (setLane l f s).tele = s.tele := rfl
@[simp] theorem setLane_testPort : (setLane l f s).testPort = s.testPort := rfl
@[simp] theorem setLane_window : (setLane l f s).window = s.window := rfl
@[simp] theorem setLane_tally : (setLane l f s).tally = s.tally := rfl

end

/-! setLink -/

section
variable (k : Nat) (f : TyLink → TyLink) (s : State)

@[simp] theorem setLink_pending : (setLink k f s).pending = s.pending := rfl
@[simp] theorem setLink_now : (setLink k f s).now = s.now := rfl
@[simp] theorem setLink_freeCount : (setLink k f s).freeCount = s.freeCount := rfl
@[simp] theorem setLink_power : (setLink k f s).power = s.power := rfl
@[simp] theorem setLink_cause : (setLink k f s).cause = s.cause := rfl
@[simp] theorem setLink_boot : (setLink k f s).boot = s.boot := rfl
@[simp] theorem setLink_mode : (setLink k f s).mode = s.mode := rfl
@[simp] theorem setLink_bkp : (setLink k f s).bkp = s.bkp := rfl
@[simp] theorem setLink_rmem : (setLink k f s).rmem = s.rmem := rfl
@[simp] theorem setLink_rmemBad : (setLink k f s).rmemBad = s.rmemBad := rfl
@[simp] theorem setLink_ep : (setLink k f s).ep = s.ep := rfl
@[simp] theorem setLink_eq : (setLink k f s).eq = s.eq := rfl
@[simp] theorem setLink_irq : (setLink k f s).irq = s.irq := rfl
@[simp] theorem setLink_link : (setLink k f s).link = s.link := rfl
@[simp] theorem setLink_cmds : (setLink k f s).cmds = s.cmds := rfl
@[simp] theorem setLink_cfg : (setLink k f s).cfg = s.cfg := rfl
@[simp] theorem setLink_sets : (setLink k f s).sets = s.sets := rfl
@[simp] theorem setLink_gov : (setLink k f s).gov = s.gov := rfl
@[simp] theorem setLink_alw : (setLink k f s).alw = s.alw := rfl
@[simp] theorem setLink_board : (setLink k f s).board = s.board := rfl
@[simp] theorem setLink_voice : (setLink k f s).voice = s.voice := rfl
@[simp] theorem setLink_tables : (setLink k f s).tables = s.tables := rfl
@[simp] theorem setLink_ports : (setLink k f s).ports = s.ports := rfl
@[simp] theorem setLink_time : (setLink k f s).time = s.time := rfl
@[simp] theorem setLink_launch : (setLink k f s).launch = s.launch := rfl
@[simp] theorem setLink_lanes : (setLink k f s).lanes = { s.lanes with links := upd s.lanes.links k f } := rfl
@[simp] theorem setLink_cluster : (setLink k f s).cluster = s.cluster := rfl
@[simp] theorem setLink_faults : (setLink k f s).faults = s.faults := rfl
@[simp] theorem setLink_ledger : (setLink k f s).ledger = s.ledger := rfl
@[simp] theorem setLink_fw : (setLink k f s).fw = s.fw := rfl
@[simp] theorem setLink_mgmt : (setLink k f s).mgmt = s.mgmt := rfl
@[simp] theorem setLink_tele : (setLink k f s).tele = s.tele := rfl
@[simp] theorem setLink_testPort : (setLink k f s).testPort = s.testPort := rfl
@[simp] theorem setLink_window : (setLink k f s).window = s.window := rfl
@[simp] theorem setLink_tally : (setLink k f s).tally = s.tally := rfl

end

/-! setPort -/

section
variable (p : Nat) (f : Port → Port) (s : State)

@[simp] theorem setPort_pending : (setPort p f s).pending = s.pending := rfl
@[simp] theorem setPort_now : (setPort p f s).now = s.now := rfl
@[simp] theorem setPort_freeCount : (setPort p f s).freeCount = s.freeCount := rfl
@[simp] theorem setPort_power : (setPort p f s).power = s.power := rfl
@[simp] theorem setPort_cause : (setPort p f s).cause = s.cause := rfl
@[simp] theorem setPort_boot : (setPort p f s).boot = s.boot := rfl
@[simp] theorem setPort_mode : (setPort p f s).mode = s.mode := rfl
@[simp] theorem setPort_bkp : (setPort p f s).bkp = s.bkp := rfl
@[simp] theorem setPort_rmem : (setPort p f s).rmem = s.rmem := rfl
@[simp] theorem setPort_rmemBad : (setPort p f s).rmemBad = s.rmemBad := rfl
@[simp] theorem setPort_ep : (setPort p f s).ep = s.ep := rfl
@[simp] theorem setPort_eq : (setPort p f s).eq = s.eq := rfl
@[simp] theorem setPort_irq : (setPort p f s).irq = s.irq := rfl
@[simp] theorem setPort_link : (setPort p f s).link = s.link := rfl
@[simp] theorem setPort_cmds : (setPort p f s).cmds = s.cmds := rfl
@[simp] theorem setPort_cfg : (setPort p f s).cfg = s.cfg := rfl
@[simp] theorem setPort_sets : (setPort p f s).sets = s.sets := rfl
@[simp] theorem setPort_gov : (setPort p f s).gov = s.gov := rfl
@[simp] theorem setPort_alw : (setPort p f s).alw = s.alw := rfl
@[simp] theorem setPort_board : (setPort p f s).board = s.board := rfl
@[simp] theorem setPort_voice : (setPort p f s).voice = s.voice := rfl
@[simp] theorem setPort_tables : (setPort p f s).tables = s.tables := rfl
@[simp] theorem setPort_ports : (setPort p f s).ports = upd s.ports p f := rfl
@[simp] theorem setPort_time : (setPort p f s).time = s.time := rfl
@[simp] theorem setPort_launch : (setPort p f s).launch = s.launch := rfl
@[simp] theorem setPort_lanes : (setPort p f s).lanes = s.lanes := rfl
@[simp] theorem setPort_cluster : (setPort p f s).cluster = s.cluster := rfl
@[simp] theorem setPort_faults : (setPort p f s).faults = s.faults := rfl
@[simp] theorem setPort_ledger : (setPort p f s).ledger = s.ledger := rfl
@[simp] theorem setPort_fw : (setPort p f s).fw = s.fw := rfl
@[simp] theorem setPort_mgmt : (setPort p f s).mgmt = s.mgmt := rfl
@[simp] theorem setPort_tele : (setPort p f s).tele = s.tele := rfl
@[simp] theorem setPort_testPort : (setPort p f s).testPort = s.testPort := rfl
@[simp] theorem setPort_window : (setPort p f s).window = s.window := rfl
@[simp] theorem setPort_tally : (setPort p f s).tally = s.tally := rfl

end

/-! setQueue -/

section
variable (p q : Nat) (f : LaunchQueue → LaunchQueue) (s : State)

@[simp] theorem setQueue_pending : (setQueue p q f s).pending = s.pending := rfl
@[simp] theorem setQueue_now : (setQueue p q f s).now = s.now := rfl
@[simp] theorem setQueue_freeCount : (setQueue p q f s).freeCount = s.freeCount := rfl
@[simp] theorem setQueue_power : (setQueue p q f s).power = s.power := rfl
@[simp] theorem setQueue_cause : (setQueue p q f s).cause = s.cause := rfl
@[simp] theorem setQueue_boot : (setQueue p q f s).boot = s.boot := rfl
@[simp] theorem setQueue_mode : (setQueue p q f s).mode = s.mode := rfl
@[simp] theorem setQueue_bkp : (setQueue p q f s).bkp = s.bkp := rfl
@[simp] theorem setQueue_rmem : (setQueue p q f s).rmem = s.rmem := rfl
@[simp] theorem setQueue_rmemBad : (setQueue p q f s).rmemBad = s.rmemBad := rfl
@[simp] theorem setQueue_ep : (setQueue p q f s).ep = s.ep := rfl
@[simp] theorem setQueue_eq : (setQueue p q f s).eq = s.eq := rfl
@[simp] theorem setQueue_irq : (setQueue p q f s).irq = s.irq := rfl
@[simp] theorem setQueue_link : (setQueue p q f s).link = s.link := rfl
@[simp] theorem setQueue_cmds : (setQueue p q f s).cmds = s.cmds := rfl
@[simp] theorem setQueue_cfg : (setQueue p q f s).cfg = s.cfg := rfl
@[simp] theorem setQueue_sets : (setQueue p q f s).sets = s.sets := rfl
@[simp] theorem setQueue_gov : (setQueue p q f s).gov = s.gov := rfl
@[simp] theorem setQueue_alw : (setQueue p q f s).alw = s.alw := rfl
@[simp] theorem setQueue_board : (setQueue p q f s).board = s.board := rfl
@[simp] theorem setQueue_voice : (setQueue p q f s).voice = s.voice := rfl
@[simp] theorem setQueue_tables : (setQueue p q f s).tables = s.tables := rfl
@[simp] theorem setQueue_ports : (setQueue p q f s).ports = s.ports := rfl
@[simp] theorem setQueue_time : (setQueue p q f s).time = s.time := rfl
@[simp] theorem setQueue_launch : (setQueue p q f s).launch = { s.launch with queues := upd s.launch.queues (queueIndex p q) f } := rfl
@[simp] theorem setQueue_lanes : (setQueue p q f s).lanes = s.lanes := rfl
@[simp] theorem setQueue_cluster : (setQueue p q f s).cluster = s.cluster := rfl
@[simp] theorem setQueue_faults : (setQueue p q f s).faults = s.faults := rfl
@[simp] theorem setQueue_ledger : (setQueue p q f s).ledger = s.ledger := rfl
@[simp] theorem setQueue_fw : (setQueue p q f s).fw = s.fw := rfl
@[simp] theorem setQueue_mgmt : (setQueue p q f s).mgmt = s.mgmt := rfl
@[simp] theorem setQueue_tele : (setQueue p q f s).tele = s.tele := rfl
@[simp] theorem setQueue_testPort : (setQueue p q f s).testPort = s.testPort := rfl
@[simp] theorem setQueue_window : (setQueue p q f s).window = s.window := rfl
@[simp] theorem setQueue_tally : (setQueue p q f s).tally = s.tally := rfl

end

/-! setPeer -/

section
variable (n : Nat) (f : Peer → Peer) (s : State)

@[simp] theorem setPeer_pending : (setPeer n f s).pending = s.pending := rfl
@[simp] theorem setPeer_now : (setPeer n f s).now = s.now := rfl
@[simp] theorem setPeer_freeCount : (setPeer n f s).freeCount = s.freeCount := rfl
@[simp] theorem setPeer_power : (setPeer n f s).power = s.power := rfl
@[simp] theorem setPeer_cause : (setPeer n f s).cause = s.cause := rfl
@[simp] theorem setPeer_boot : (setPeer n f s).boot = s.boot := rfl
@[simp] theorem setPeer_mode : (setPeer n f s).mode = s.mode := rfl
@[simp] theorem setPeer_bkp : (setPeer n f s).bkp = s.bkp := rfl
@[simp] theorem setPeer_rmem : (setPeer n f s).rmem = s.rmem := rfl
@[simp] theorem setPeer_rmemBad : (setPeer n f s).rmemBad = s.rmemBad := rfl
@[simp] theorem setPeer_ep : (setPeer n f s).ep = s.ep := rfl
@[simp] theorem setPeer_eq : (setPeer n f s).eq = s.eq := rfl
@[simp] theorem setPeer_irq : (setPeer n f s).irq = s.irq := rfl
@[simp] theorem setPeer_link : (setPeer n f s).link = s.link := rfl
@[simp] theorem setPeer_cmds : (setPeer n f s).cmds = s.cmds := rfl
@[simp] theorem setPeer_cfg : (setPeer n f s).cfg = s.cfg := rfl
@[simp] theorem setPeer_sets : (setPeer n f s).sets = s.sets := rfl
@[simp] theorem setPeer_gov : (setPeer n f s).gov = s.gov := rfl
@[simp] theorem setPeer_alw : (setPeer n f s).alw = s.alw := rfl
@[simp] theorem setPeer_board : (setPeer n f s).board = s.board := rfl
@[simp] theorem setPeer_voice : (setPeer n f s).voice = s.voice := rfl
@[simp] theorem setPeer_tables : (setPeer n f s).tables = s.tables := rfl
@[simp] theorem setPeer_ports : (setPeer n f s).ports = s.ports := rfl
@[simp] theorem setPeer_time : (setPeer n f s).time = s.time := rfl
@[simp] theorem setPeer_launch : (setPeer n f s).launch = s.launch := rfl
@[simp] theorem setPeer_lanes : (setPeer n f s).lanes = s.lanes := rfl
@[simp] theorem setPeer_cluster : (setPeer n f s).cluster = { s.cluster with peers := upd s.cluster.peers n f } := rfl
@[simp] theorem setPeer_faults : (setPeer n f s).faults = s.faults := rfl
@[simp] theorem setPeer_ledger : (setPeer n f s).ledger = s.ledger := rfl
@[simp] theorem setPeer_fw : (setPeer n f s).fw = s.fw := rfl
@[simp] theorem setPeer_mgmt : (setPeer n f s).mgmt = s.mgmt := rfl
@[simp] theorem setPeer_tele : (setPeer n f s).tele = s.tele := rfl
@[simp] theorem setPeer_testPort : (setPeer n f s).testPort = s.testPort := rfl
@[simp] theorem setPeer_window : (setPeer n f s).window = s.window := rfl
@[simp] theorem setPeer_tally : (setPeer n f s).tally = s.tally := rfl

end

/-! setArea -/

section
variable (i : Nat) (f : Area → Area) (s : State)

@[simp] theorem setArea_pending : (setArea i f s).pending = s.pending := rfl
@[simp] theorem setArea_now : (setArea i f s).now = s.now := rfl
@[simp] theorem setArea_freeCount : (setArea i f s).freeCount = s.freeCount := rfl
@[simp] theorem setArea_power : (setArea i f s).power = s.power := rfl
@[simp] theorem setArea_cause : (setArea i f s).cause = s.cause := rfl
@[simp] theorem setArea_boot : (setArea i f s).boot = s.boot := rfl
@[simp] theorem setArea_mode : (setArea i f s).mode = s.mode := rfl
@[simp] theorem setArea_bkp : (setArea i f s).bkp = s.bkp := rfl
@[simp] theorem setArea_rmem : (setArea i f s).rmem = s.rmem := rfl
@[simp] theorem setArea_rmemBad : (setArea i f s).rmemBad = s.rmemBad := rfl
@[simp] theorem setArea_ep : (setArea i f s).ep = s.ep := rfl
@[simp] theorem setArea_eq : (setArea i f s).eq = s.eq := rfl
@[simp] theorem setArea_irq : (setArea i f s).irq = s.irq := rfl
@[simp] theorem setArea_link : (setArea i f s).link = s.link := rfl
@[simp] theorem setArea_cmds : (setArea i f s).cmds = s.cmds := rfl
@[simp] theorem setArea_cfg : (setArea i f s).cfg = s.cfg := rfl
@[simp] theorem setArea_sets : (setArea i f s).sets = { s.sets with areas := upd s.sets.areas i f } := rfl
@[simp] theorem setArea_gov : (setArea i f s).gov = s.gov := rfl
@[simp] theorem setArea_alw : (setArea i f s).alw = s.alw := rfl
@[simp] theorem setArea_board : (setArea i f s).board = s.board := rfl
@[simp] theorem setArea_voice : (setArea i f s).voice = s.voice := rfl
@[simp] theorem setArea_tables : (setArea i f s).tables = s.tables := rfl
@[simp] theorem setArea_ports : (setArea i f s).ports = s.ports := rfl
@[simp] theorem setArea_time : (setArea i f s).time = s.time := rfl
@[simp] theorem setArea_launch : (setArea i f s).launch = s.launch := rfl
@[simp] theorem setArea_lanes : (setArea i f s).lanes = s.lanes := rfl
@[simp] theorem setArea_cluster : (setArea i f s).cluster = s.cluster := rfl
@[simp] theorem setArea_faults : (setArea i f s).faults = s.faults := rfl
@[simp] theorem setArea_ledger : (setArea i f s).ledger = s.ledger := rfl
@[simp] theorem setArea_fw : (setArea i f s).fw = s.fw := rfl
@[simp] theorem setArea_mgmt : (setArea i f s).mgmt = s.mgmt := rfl
@[simp] theorem setArea_tele : (setArea i f s).tele = s.tele := rfl
@[simp] theorem setArea_testPort : (setArea i f s).testPort = s.testPort := rfl
@[simp] theorem setArea_window : (setArea i f s).window = s.window := rfl
@[simp] theorem setArea_tally : (setArea i f s).tally = s.tally := rfl

end

/-! setSlot -/

section
variable (n : Nat) (f : Slot → Slot) (s : State)

@[simp] theorem setSlot_pending : (setSlot n f s).pending = s.pending := rfl
@[simp] theorem setSlot_now : (setSlot n f s).now = s.now := rfl
@[simp] theorem setSlot_freeCount : (setSlot n f s).freeCount = s.freeCount := rfl
@[simp] theorem setSlot_power : (setSlot n f s).power = s.power := rfl
@[simp] theorem setSlot_cause : (setSlot n f s).cause = s.cause := rfl
@[simp] theorem setSlot_boot : (setSlot n f s).boot = s.boot := rfl
@[simp] theorem setSlot_mode : (setSlot n f s).mode = s.mode := rfl
@[simp] theorem setSlot_bkp : (setSlot n f s).bkp = s.bkp := rfl
@[simp] theorem setSlot_rmem : (setSlot n f s).rmem = s.rmem := rfl
@[simp] theorem setSlot_rmemBad : (setSlot n f s).rmemBad = s.rmemBad := rfl
@[simp] theorem setSlot_ep : (setSlot n f s).ep = s.ep := rfl
@[simp] theorem setSlot_eq : (setSlot n f s).eq = s.eq := rfl
@[simp] theorem setSlot_irq : (setSlot n f s).irq = s.irq := rfl
@[simp] theorem setSlot_link : (setSlot n f s).link = s.link := rfl
@[simp] theorem setSlot_cmds : (setSlot n f s).cmds = s.cmds := rfl
@[simp] theorem setSlot_cfg : (setSlot n f s).cfg = s.cfg := rfl
@[simp] theorem setSlot_sets : (setSlot n f s).sets = s.sets := rfl
@[simp] theorem setSlot_gov : (setSlot n f s).gov = s.gov := rfl
@[simp] theorem setSlot_alw : (setSlot n f s).alw = s.alw := rfl
@[simp] theorem setSlot_board : (setSlot n f s).board = s.board := rfl
@[simp] theorem setSlot_voice : (setSlot n f s).voice = s.voice := rfl
@[simp] theorem setSlot_tables : (setSlot n f s).tables = s.tables := rfl
@[simp] theorem setSlot_ports : (setSlot n f s).ports = s.ports := rfl
@[simp] theorem setSlot_time : (setSlot n f s).time = s.time := rfl
@[simp] theorem setSlot_launch : (setSlot n f s).launch = s.launch := rfl
@[simp] theorem setSlot_lanes : (setSlot n f s).lanes = s.lanes := rfl
@[simp] theorem setSlot_cluster : (setSlot n f s).cluster = s.cluster := rfl
@[simp] theorem setSlot_faults : (setSlot n f s).faults = s.faults := rfl
@[simp] theorem setSlot_ledger : (setSlot n f s).ledger = s.ledger := rfl
@[simp] theorem setSlot_fw : (setSlot n f s).fw = { s.fw with slots := upd s.fw.slots n f } := rfl
@[simp] theorem setSlot_mgmt : (setSlot n f s).mgmt = s.mgmt := rfl
@[simp] theorem setSlot_tele : (setSlot n f s).tele = s.tele := rfl
@[simp] theorem setSlot_testPort : (setSlot n f s).testPort = s.testPort := rfl
@[simp] theorem setSlot_window : (setSlot n f s).window = s.window := rfl
@[simp] theorem setSlot_tally : (setSlot n f s).tally = s.tally := rfl

end

/-! setBlock -/

section
variable (b : Nat) (f : BlockReset → BlockReset) (s : State)

@[simp] theorem setBlock_pending : (setBlock b f s).pending = s.pending := rfl
@[simp] theorem setBlock_now : (setBlock b f s).now = s.now := rfl
@[simp] theorem setBlock_freeCount : (setBlock b f s).freeCount = s.freeCount := rfl
@[simp] theorem setBlock_power : (setBlock b f s).power = { s.power with blocks := s.power.blocks.map fun x => if x.block = b then f x else x } := rfl
@[simp] theorem setBlock_cause : (setBlock b f s).cause = s.cause := rfl
@[simp] theorem setBlock_boot : (setBlock b f s).boot = s.boot := rfl
@[simp] theorem setBlock_mode : (setBlock b f s).mode = s.mode := rfl
@[simp] theorem setBlock_bkp : (setBlock b f s).bkp = s.bkp := rfl
@[simp] theorem setBlock_rmem : (setBlock b f s).rmem = s.rmem := rfl
@[simp] theorem setBlock_rmemBad : (setBlock b f s).rmemBad = s.rmemBad := rfl
@[simp] theorem setBlock_ep : (setBlock b f s).ep = s.ep := rfl
@[simp] theorem setBlock_eq : (setBlock b f s).eq = s.eq := rfl
@[simp] theorem setBlock_irq : (setBlock b f s).irq = s.irq := rfl
@[simp] theorem setBlock_link : (setBlock b f s).link = s.link := rfl
@[simp] theorem setBlock_cmds : (setBlock b f s).cmds = s.cmds := rfl
@[simp] theorem setBlock_cfg : (setBlock b f s).cfg = s.cfg := rfl
@[simp] theorem setBlock_sets : (setBlock b f s).sets = s.sets := rfl
@[simp] theorem setBlock_gov : (setBlock b f s).gov = s.gov := rfl
@[simp] theorem setBlock_alw : (setBlock b f s).alw = s.alw := rfl
@[simp] theorem setBlock_board : (setBlock b f s).board = s.board := rfl
@[simp] theorem setBlock_voice : (setBlock b f s).voice = s.voice := rfl
@[simp] theorem setBlock_tables : (setBlock b f s).tables = s.tables := rfl
@[simp] theorem setBlock_ports : (setBlock b f s).ports = s.ports := rfl
@[simp] theorem setBlock_time : (setBlock b f s).time = s.time := rfl
@[simp] theorem setBlock_launch : (setBlock b f s).launch = s.launch := rfl
@[simp] theorem setBlock_lanes : (setBlock b f s).lanes = s.lanes := rfl
@[simp] theorem setBlock_cluster : (setBlock b f s).cluster = s.cluster := rfl
@[simp] theorem setBlock_faults : (setBlock b f s).faults = s.faults := rfl
@[simp] theorem setBlock_ledger : (setBlock b f s).ledger = s.ledger := rfl
@[simp] theorem setBlock_fw : (setBlock b f s).fw = s.fw := rfl
@[simp] theorem setBlock_mgmt : (setBlock b f s).mgmt = s.mgmt := rfl
@[simp] theorem setBlock_tele : (setBlock b f s).tele = s.tele := rfl
@[simp] theorem setBlock_testPort : (setBlock b f s).testPort = s.testPort := rfl
@[simp] theorem setBlock_window : (setBlock b f s).window = s.window := rfl
@[simp] theorem setBlock_tally : (setBlock b f s).tally = s.tally := rfl

end

/-! setSession -/

section
variable (i : Nat) (f : Session → Session) (s : State)

@[simp] theorem setSession_pending : (setSession i f s).pending = s.pending := rfl
@[simp] theorem setSession_now : (setSession i f s).now = s.now := rfl
@[simp] theorem setSession_freeCount : (setSession i f s).freeCount = s.freeCount := rfl
@[simp] theorem setSession_power : (setSession i f s).power = s.power := rfl
@[simp] theorem setSession_cause : (setSession i f s).cause = s.cause := rfl
@[simp] theorem setSession_boot : (setSession i f s).boot = s.boot := rfl
@[simp] theorem setSession_mode : (setSession i f s).mode = s.mode := rfl
@[simp] theorem setSession_bkp : (setSession i f s).bkp = s.bkp := rfl
@[simp] theorem setSession_rmem : (setSession i f s).rmem = s.rmem := rfl
@[simp] theorem setSession_rmemBad : (setSession i f s).rmemBad = s.rmemBad := rfl
@[simp] theorem setSession_ep : (setSession i f s).ep = s.ep := rfl
@[simp] theorem setSession_eq : (setSession i f s).eq = s.eq := rfl
@[simp] theorem setSession_irq : (setSession i f s).irq = s.irq := rfl
@[simp] theorem setSession_link : (setSession i f s).link = s.link := rfl
@[simp] theorem setSession_cmds : (setSession i f s).cmds = s.cmds := rfl
@[simp] theorem setSession_cfg : (setSession i f s).cfg = s.cfg := rfl
@[simp] theorem setSession_sets : (setSession i f s).sets = s.sets := rfl
@[simp] theorem setSession_gov : (setSession i f s).gov = s.gov := rfl
@[simp] theorem setSession_alw : (setSession i f s).alw = s.alw := rfl
@[simp] theorem setSession_board : (setSession i f s).board = s.board := rfl
@[simp] theorem setSession_voice : (setSession i f s).voice = s.voice := rfl
@[simp] theorem setSession_tables : (setSession i f s).tables = { s.tables with sessions := s.tables.sessions.map fun x => if x.index = i then f x else x } := rfl
@[simp] theorem setSession_ports : (setSession i f s).ports = s.ports := rfl
@[simp] theorem setSession_time : (setSession i f s).time = s.time := rfl
@[simp] theorem setSession_launch : (setSession i f s).launch = s.launch := rfl
@[simp] theorem setSession_lanes : (setSession i f s).lanes = s.lanes := rfl
@[simp] theorem setSession_cluster : (setSession i f s).cluster = s.cluster := rfl
@[simp] theorem setSession_faults : (setSession i f s).faults = s.faults := rfl
@[simp] theorem setSession_ledger : (setSession i f s).ledger = s.ledger := rfl
@[simp] theorem setSession_fw : (setSession i f s).fw = s.fw := rfl
@[simp] theorem setSession_mgmt : (setSession i f s).mgmt = s.mgmt := rfl
@[simp] theorem setSession_tele : (setSession i f s).tele = s.tele := rfl
@[simp] theorem setSession_testPort : (setSession i f s).testPort = s.testPort := rfl
@[simp] theorem setSession_window : (setSession i f s).window = s.window := rfl
@[simp] theorem setSession_tally : (setSession i f s).tally = s.tally := rfl

end

/-! setChannel -/

section
variable (i : Nat) (f : Channel → Channel) (s : State)

@[simp] theorem setChannel_pending : (setChannel i f s).pending = s.pending := rfl
@[simp] theorem setChannel_now : (setChannel i f s).now = s.now := rfl
@[simp] theorem setChannel_freeCount : (setChannel i f s).freeCount = s.freeCount := rfl
@[simp] theorem setChannel_power : (setChannel i f s).power = s.power := rfl
@[simp] theorem setChannel_cause : (setChannel i f s).cause = s.cause := rfl
@[simp] theorem setChannel_boot : (setChannel i f s).boot = s.boot := rfl
@[simp] theorem setChannel_mode : (setChannel i f s).mode = s.mode := rfl
@[simp] theorem setChannel_bkp : (setChannel i f s).bkp = s.bkp := rfl
@[simp] theorem setChannel_rmem : (setChannel i f s).rmem = s.rmem := rfl
@[simp] theorem setChannel_rmemBad : (setChannel i f s).rmemBad = s.rmemBad := rfl
@[simp] theorem setChannel_ep : (setChannel i f s).ep = s.ep := rfl
@[simp] theorem setChannel_eq : (setChannel i f s).eq = s.eq := rfl
@[simp] theorem setChannel_irq : (setChannel i f s).irq = s.irq := rfl
@[simp] theorem setChannel_link : (setChannel i f s).link = s.link := rfl
@[simp] theorem setChannel_cmds : (setChannel i f s).cmds = s.cmds := rfl
@[simp] theorem setChannel_cfg : (setChannel i f s).cfg = s.cfg := rfl
@[simp] theorem setChannel_sets : (setChannel i f s).sets = s.sets := rfl
@[simp] theorem setChannel_gov : (setChannel i f s).gov = s.gov := rfl
@[simp] theorem setChannel_alw : (setChannel i f s).alw = s.alw := rfl
@[simp] theorem setChannel_board : (setChannel i f s).board = s.board := rfl
@[simp] theorem setChannel_voice : (setChannel i f s).voice = { s.voice with channels := s.voice.channels.map fun ch => if ch.id = i then f ch else ch } := rfl
@[simp] theorem setChannel_tables : (setChannel i f s).tables = s.tables := rfl
@[simp] theorem setChannel_ports : (setChannel i f s).ports = s.ports := rfl
@[simp] theorem setChannel_time : (setChannel i f s).time = s.time := rfl
@[simp] theorem setChannel_launch : (setChannel i f s).launch = s.launch := rfl
@[simp] theorem setChannel_lanes : (setChannel i f s).lanes = s.lanes := rfl
@[simp] theorem setChannel_cluster : (setChannel i f s).cluster = s.cluster := rfl
@[simp] theorem setChannel_faults : (setChannel i f s).faults = s.faults := rfl
@[simp] theorem setChannel_ledger : (setChannel i f s).ledger = s.ledger := rfl
@[simp] theorem setChannel_fw : (setChannel i f s).fw = s.fw := rfl
@[simp] theorem setChannel_mgmt : (setChannel i f s).mgmt = s.mgmt := rfl
@[simp] theorem setChannel_tele : (setChannel i f s).tele = s.tele := rfl
@[simp] theorem setChannel_testPort : (setChannel i f s).testPort = s.testPort := rfl
@[simp] theorem setChannel_window : (setChannel i f s).window = s.window := rfl
@[simp] theorem setChannel_tally : (setChannel i f s).tally = s.tally := rfl

end

/-! setConference -/

section
variable (i : Nat) (f : Conference → Conference) (s : State)

@[simp] theorem setConference_pending : (setConference i f s).pending = s.pending := rfl
@[simp] theorem setConference_now : (setConference i f s).now = s.now := rfl
@[simp] theorem setConference_freeCount : (setConference i f s).freeCount = s.freeCount := rfl
@[simp] theorem setConference_power : (setConference i f s).power = s.power := rfl
@[simp] theorem setConference_cause : (setConference i f s).cause = s.cause := rfl
@[simp] theorem setConference_boot : (setConference i f s).boot = s.boot := rfl
@[simp] theorem setConference_mode : (setConference i f s).mode = s.mode := rfl
@[simp] theorem setConference_bkp : (setConference i f s).bkp = s.bkp := rfl
@[simp] theorem setConference_rmem : (setConference i f s).rmem = s.rmem := rfl
@[simp] theorem setConference_rmemBad : (setConference i f s).rmemBad = s.rmemBad := rfl
@[simp] theorem setConference_ep : (setConference i f s).ep = s.ep := rfl
@[simp] theorem setConference_eq : (setConference i f s).eq = s.eq := rfl
@[simp] theorem setConference_irq : (setConference i f s).irq = s.irq := rfl
@[simp] theorem setConference_link : (setConference i f s).link = s.link := rfl
@[simp] theorem setConference_cmds : (setConference i f s).cmds = s.cmds := rfl
@[simp] theorem setConference_cfg : (setConference i f s).cfg = s.cfg := rfl
@[simp] theorem setConference_sets : (setConference i f s).sets = s.sets := rfl
@[simp] theorem setConference_gov : (setConference i f s).gov = s.gov := rfl
@[simp] theorem setConference_alw : (setConference i f s).alw = s.alw := rfl
@[simp] theorem setConference_board : (setConference i f s).board = s.board := rfl
@[simp] theorem setConference_voice : (setConference i f s).voice = { s.voice with conferences := s.voice.conferences.map fun c => if c.id = i then f c else c } := rfl
@[simp] theorem setConference_tables : (setConference i f s).tables = s.tables := rfl
@[simp] theorem setConference_ports : (setConference i f s).ports = s.ports := rfl
@[simp] theorem setConference_time : (setConference i f s).time = s.time := rfl
@[simp] theorem setConference_launch : (setConference i f s).launch = s.launch := rfl
@[simp] theorem setConference_lanes : (setConference i f s).lanes = s.lanes := rfl
@[simp] theorem setConference_cluster : (setConference i f s).cluster = s.cluster := rfl
@[simp] theorem setConference_faults : (setConference i f s).faults = s.faults := rfl
@[simp] theorem setConference_ledger : (setConference i f s).ledger = s.ledger := rfl
@[simp] theorem setConference_fw : (setConference i f s).fw = s.fw := rfl
@[simp] theorem setConference_mgmt : (setConference i f s).mgmt = s.mgmt := rfl
@[simp] theorem setConference_tele : (setConference i f s).tele = s.tele := rfl
@[simp] theorem setConference_testPort : (setConference i f s).testPort = s.testPort := rfl
@[simp] theorem setConference_window : (setConference i f s).window = s.window := rfl
@[simp] theorem setConference_tally : (setConference i f s).tally = s.tally := rfl

end

/-! writeTarget -/

section
variable (mv : Nat) (s : State)

@[simp] theorem writeTarget_pending : (writeTarget mv s).pending = s.pending := rfl
@[simp] theorem writeTarget_now : (writeTarget mv s).now = s.now := rfl
@[simp] theorem writeTarget_freeCount : (writeTarget mv s).freeCount = s.freeCount := rfl
@[simp] theorem writeTarget_power : (writeTarget mv s).power = s.power := rfl
@[simp] theorem writeTarget_cause : (writeTarget mv s).cause = s.cause := rfl
@[simp] theorem writeTarget_boot : (writeTarget mv s).boot = s.boot := rfl
@[simp] theorem writeTarget_mode : (writeTarget mv s).mode = s.mode := rfl
@[simp] theorem writeTarget_bkp : (writeTarget mv s).bkp = s.bkp := rfl
@[simp] theorem writeTarget_rmem : (writeTarget mv s).rmem = s.rmem := rfl
@[simp] theorem writeTarget_rmemBad : (writeTarget mv s).rmemBad = s.rmemBad := rfl
@[simp] theorem writeTarget_ep : (writeTarget mv s).ep = s.ep := rfl
@[simp] theorem writeTarget_eq : (writeTarget mv s).eq = s.eq := rfl
@[simp] theorem writeTarget_irq : (writeTarget mv s).irq = s.irq := rfl
@[simp] theorem writeTarget_link : (writeTarget mv s).link = s.link := rfl
@[simp] theorem writeTarget_cmds : (writeTarget mv s).cmds = s.cmds := rfl
@[simp] theorem writeTarget_cfg : (writeTarget mv s).cfg = s.cfg := rfl
@[simp] theorem writeTarget_sets : (writeTarget mv s).sets = s.sets := rfl
@[simp] theorem writeTarget_gov : (writeTarget mv s).gov = { s.gov with targetMv := mv, checks := s.gov.checks ++ [(s.now + 200000, mv)] } := rfl
@[simp] theorem writeTarget_alw : (writeTarget mv s).alw = s.alw := rfl
@[simp] theorem writeTarget_board : (writeTarget mv s).board = s.board := rfl
@[simp] theorem writeTarget_voice : (writeTarget mv s).voice = s.voice := rfl
@[simp] theorem writeTarget_tables : (writeTarget mv s).tables = s.tables := rfl
@[simp] theorem writeTarget_ports : (writeTarget mv s).ports = s.ports := rfl
@[simp] theorem writeTarget_time : (writeTarget mv s).time = s.time := rfl
@[simp] theorem writeTarget_launch : (writeTarget mv s).launch = s.launch := rfl
@[simp] theorem writeTarget_lanes : (writeTarget mv s).lanes = s.lanes := rfl
@[simp] theorem writeTarget_cluster : (writeTarget mv s).cluster = s.cluster := rfl
@[simp] theorem writeTarget_faults : (writeTarget mv s).faults = s.faults := rfl
@[simp] theorem writeTarget_ledger : (writeTarget mv s).ledger = s.ledger := rfl
@[simp] theorem writeTarget_fw : (writeTarget mv s).fw = s.fw := rfl
@[simp] theorem writeTarget_mgmt : (writeTarget mv s).mgmt = s.mgmt := rfl
@[simp] theorem writeTarget_tele : (writeTarget mv s).tele = s.tele := rfl
@[simp] theorem writeTarget_testPort : (writeTarget mv s).testPort = s.testPort := rfl
@[simp] theorem writeTarget_window : (writeTarget mv s).window = s.window := rfl
@[simp] theorem writeTarget_tally : (writeTarget mv s).tally = s.tally := rfl

end

end Sys2Proof.Machine
end

