-- ==== Sys2Proof/Laws/Commands.lean ====
section
/-!
SUPPORT. How a host command runs: what taking it comes to where nothing refuses it or holds it back (07 R201, R202), what the
parameter check comes to where every parameter passes, and what the opened command leaves of the state.
-/
namespace Sys2Proof.Machine

-- One theorem after another: the memory of the check holds no more of them at once.
set_option Elab.async false
set_option linter.all false

theorem setEntry_append (id : Nat) (e e' : Entry) (l : List Entry) (he : e.id = id) :
    (l ++ [e]).map (fun x => if x.id = id then e' else x) = l.map (fun x => if x.id = id then e' else x) ++ [e'] := by
  simp [he]

/-- A command that opens executes at once (07 R201, R202). -/
theorem takeCommand_opens {op : Op} {src : Source} {c : Cmd} {s : State} (h : opens op src c s = true)
    (beg : Entry → State → State) :
    takeCommand op src c (objectsOf op c) beg s = beg (entryOf op src c s) (opened op src c s) := by
  simp only [opens, Bool.and_eq_true, Bool.not_eq_true', Option.isNone_iff_eq_none, bne_iff_ne, Bool.or_eq_true,
    beq_iff_eq, List.all_eq_true, ne_eq] at h
  obtain ⟨⟨⟨⟨⟨⟨⟨⟨h1, h2⟩, h3⟩, h4⟩, h5⟩, h6⟩, h7⟩, h8⟩, h9⟩ := h
  have hi : ¬ (src = .mgmt ∧ islandExecutes op c = true) := by
    rintro ⟨a, b⟩; rcases h5 with h5 | h5
    · exact h5 a
    · rw [h5.1] at b; cases b
  have hs : ¬ (src = .mgmt ∧ s.mode.steward = .stopped) := by
    rintro ⟨a, b⟩; rcases h5 with h5 | h5
    · exact h5 a
    · exact h5.2 b
  have hw : (s.cmds.entries.any fun x => s.ready x) = false := by
    rw [List.any_eq_false]
    intro x hx; simp [State.ready, (h8 x hx).1.1]
  have hb : ∀ e : Entry, e.op = op → e.cmd = c → e.objects = objectsOf op c → ∀ n,
      ({ s with cmds := { s.cmds with entries := s.cmds.entries ++ [e], nextId := n } } : State).objectBlocked e = false := by
    intro e ho hc hobj n
    have hm : ({ s with cmds := { s.cmds with entries := s.cmds.entries ++ [e], nextId := n } } : State).movingObjects
        = s.movingObjects := rfl
    rw [State.objectBlocked, hm, hobj, h9, Bool.or_false, List.any_append, List.any_eq_false.mpr, Bool.false_or]
    · simp
    · intro x hx
      have := h8 x hx
      simp only [Bool.and_eq_false_iff] at this
      simp only [isFence, ho, hc, Bool.and_eq_true, decide_eq_true_eq, Bool.or_eq_true, not_and, not_or]
      intro _
      refine ⟨by simp [this.1.2], ?_⟩
      intro hf
      have h3 := this.2
      simp only [beq_eq_false_iff_ne] at h3
      rintro hfh
      rcases h3 with (h3 | h3) | h3
      · exact h3 hf.1
      · exact h3 hf.2
      · rw [h3] at hfh; cases hfh
  unfold takeCommand
  simp only [h1, Bool.not_true, Bool.false_eq_true, if_false, h2, h3, hi, h4, hs, matchRetry, h6, if_true, openEntry, h7,
    Option.isSome_none, Bool.false_or, hw, Bool.or_false]
  rw [hb _ rfl rfl rfl]
  simp only [Bool.false_eq_true, if_false, begin_, setEntry]
  rw [setEntry_append]
  · cases src <;> rfl
  · rfl

/-- With the mode right and no failing parameter the check is the effect. -/
theorem checked_pass {e : Entry} {modes : List Mode} {cs : List Check} {eff : State → State} {s : State}
    (hm : s.mode.current ∈ modes) (hc : badOffset cs = none) : checked e modes cs eff s = eff s := by
  simp [checked, precheck, hm, hc]

theorem accepts_iff {m : List Mode} {cs : List Check} {s : State} :
    accepts m cs s = true ↔ s.mode.current ∈ m ∧ badOffset cs = none := by
  simp [accepts]

/-- A command that passes every check answers what its effect leaves. -/
theorem take_checked {op : Op} {src : Source} {c : Cmd} {s : State} {beg : Entry → State → State} {modes : List Mode}
    {cs : List Check} {eff : State → State} {t : State} (ho : opens op src c s = true)
    (hb : beg (entryOf op src c s) (opened op src c s) = checked (entryOf op src c s) modes cs eff (opened op src c s))
    (hm : s.mode.current ∈ modes) (hc : badOffset cs = none) (he : eff (opened op src c s) = t) :
    Host.Outcome.next (φ := Fault) (ρ := Refusal) (takeCommand op src c (objectsOf op c) beg s) = .next t := by
  rw [takeCommand_opens ho, hb, ← he]
  exact congrArg _ (checked_pass hm hc)

/-- The same for a command that the management island carries out itself (18 R557). -/
theorem island_checked {op : Op} {c : Cmd} {s : State} {beg : Entry → State → State} {modes : List Mode}
    {cs : List Check} {eff : State → State} {t : State} {objs : List Obj} (ho : islandOpens op c = true)
    (hb : beg (islandEntry op c s) (islandOpened op c s) = checked (islandEntry op c s) modes cs eff (islandOpened op c s))
    (hm : s.mode.current ∈ modes) (hc : badOffset cs = none) (he : eff (islandOpened op c s) = t) :
    Host.Outcome.next (φ := Fault) (ρ := Refusal) (takeCommand op .mgmt c objs beg s) = .next t := by
  have key : takeCommand op .mgmt c objs beg s = beg (islandEntry op c s) (islandOpened op c s) := by
    simp only [islandOpens, Bool.and_eq_true, Option.isNone_iff_eq_none] at ho
    unfold takeCommand
    simp [State.takes, tagFault, ho.1, ho.2]; rfl
  rw [key, hb, ← he]
  exact congrArg _ (checked_pass hm hc)

theorem mem_allModes (m : Mode) : m ∈ allModes := by cases m <;> simp [allModes]
/-- A command that opens answers what its beginning leaves. -/
theorem take_begin {op : Op} {src : Source} {c : Cmd} {s : State} {beg : Entry → State → State} {t : State}
    (ho : opens op src c s = true) (hb : beg (entryOf op src c s) (opened op src c s) = t) :
    Host.Outcome.next (φ := Fault) (ρ := Refusal) (takeCommand op src c (objectsOf op c) beg s) = .next t := by
  rw [takeCommand_opens ho, hb]

theorem island_begin {op : Op} {c : Cmd} {s : State} {beg : Entry → State → State} {t : State} {objs : List Obj}
    (ho : islandOpens op c = true) (hb : beg (islandEntry op c s) (islandOpened op c s) = t) :
    Host.Outcome.next (φ := Fault) (ρ := Refusal) (takeCommand op .mgmt c objs beg s) = .next t := by
  have key : takeCommand op .mgmt c objs beg s = beg (islandEntry op c s) (islandOpened op c s) := by
    simp only [islandOpens, Bool.and_eq_true, Option.isNone_iff_eq_none] at ho
    unfold takeCommand
    simp [State.takes, tagFault, ho.1, ho.2]; rfl
  rw [key, hb]
section
variable {op : Op} {src : Source} {c : Cmd} {s : State}
@[simp] theorem entryOf_cmd : (entryOf op src c s).cmd = c := (rfl)
@[simp] theorem entryOf_source : (entryOf op src c s).source = src := (rfl)
@[simp] theorem entryOf_id : (entryOf op src c s).id = s.cmds.nextId := (rfl)
@[simp] theorem islandEntry_cmd : (islandEntry op c s).cmd = c := (rfl)
@[simp] theorem islandEntry_source : (islandEntry op c s).source = .mgmt := (rfl)
@[simp] theorem opened_now : (opened op src c s).now = s.now := (rfl)
@[simp] theorem islandOpened_now : (islandOpened op c s).now = s.now := (rfl)
@[simp] theorem opened_freeCount : (opened op src c s).freeCount = s.freeCount := (rfl)
@[simp] theorem islandOpened_freeCount : (islandOpened op c s).freeCount = s.freeCount := (rfl)
@[simp] theorem opened_power : (opened op src c s).power = s.power := (rfl)
@[simp] theorem islandOpened_power : (islandOpened op c s).power = s.power := (rfl)
@[simp] theorem opened_cause : (opened op src c s).cause = s.cause := (rfl)
@[simp] theorem islandOpened_cause : (islandOpened op c s).cause = s.cause := (rfl)
@[simp] theorem opened_boot : (opened op src c s).boot = s.boot := (rfl)
@[simp] theorem islandOpened_boot : (islandOpened op c s).boot = s.boot := (rfl)
@[simp] theorem opened_mode : (opened op src c s).mode = s.mode := (rfl)
@[simp] theorem islandOpened_mode : (islandOpened op c s).mode = s.mode := (rfl)
@[simp] theorem opened_bkp : (opened op src c s).bkp = s.bkp := (rfl)
@[simp] theorem islandOpened_bkp : (islandOpened op c s).bkp = s.bkp := (rfl)
@[simp] theorem opened_rmem : (opened op src c s).rmem = s.rmem := (rfl)
@[simp] theorem islandOpened_rmem : (islandOpened op c s).rmem = s.rmem := (rfl)
@[simp] theorem opened_rmemBad : (opened op src c s).rmemBad = s.rmemBad := (rfl)
@[simp] theorem islandOpened_rmemBad : (islandOpened op c s).rmemBad = s.rmemBad := (rfl)
@[simp] theorem opened_ep : (opened op src c s).ep = s.ep := (rfl)
@[simp] theorem islandOpened_ep : (islandOpened op c s).ep = s.ep := (rfl)
@[simp] theorem opened_eq : (opened op src c s).eq = s.eq := (rfl)
@[simp] theorem islandOpened_eq : (islandOpened op c s).eq = s.eq := (rfl)
@[simp] theorem opened_irq : (opened op src c s).irq = s.irq := (rfl)
@[simp] theorem islandOpened_irq : (islandOpened op c s).irq = s.irq := (rfl)
@[simp] theorem opened_link : (opened op src c s).link = s.link := (rfl)
@[simp] theorem islandOpened_link : (islandOpened op c s).link = s.link := (rfl)
@[simp] theorem opened_cfg : (opened op src c s).cfg = s.cfg := (rfl)
@[simp] theorem islandOpened_cfg : (islandOpened op c s).cfg = s.cfg := (rfl)
@[simp] theorem opened_sets : (opened op src c s).sets = s.sets := (rfl)
@[simp] theorem islandOpened_sets : (islandOpened op c s).sets = s.sets := (rfl)
@[simp] theorem opened_gov : (opened op src c s).gov = s.gov := (rfl)
@[simp] theorem islandOpened_gov : (islandOpened op c s).gov = s.gov := (rfl)
@[simp] theorem opened_alw : (opened op src c s).alw = s.alw := (rfl)
@[simp] theorem islandOpened_alw : (islandOpened op c s).alw = s.alw := (rfl)
@[simp] theorem opened_board : (opened op src c s).board = s.board := (rfl)
@[simp] theorem islandOpened_board : (islandOpened op c s).board = s.board := (rfl)
@[simp] theorem opened_voice : (opened op src c s).voice = s.voice := (rfl)
@[simp] theorem islandOpened_voice : (islandOpened op c s).voice = s.voice := (rfl)
@[simp] theorem opened_tables : (opened op src c s).tables = s.tables := (rfl)
@[simp] theorem islandOpened_tables : (islandOpened op c s).tables = s.tables := (rfl)
@[simp] theorem opened_ports : (opened op src c s).ports = s.ports := (rfl)
@[simp] theorem islandOpened_ports : (islandOpened op c s).ports = s.ports := (rfl)
@[simp] theorem opened_time : (opened op src c s).time = s.time := (rfl)
@[simp] theorem islandOpened_time : (islandOpened op c s).time = s.time := (rfl)
@[simp] theorem opened_launch : (opened op src c s).launch = s.launch := (rfl)
@[simp] theorem islandOpened_launch : (islandOpened op c s).launch = s.launch := (rfl)
@[simp] theorem opened_lanes : (opened op src c s).lanes = s.lanes := (rfl)
@[simp] theorem islandOpened_lanes : (islandOpened op c s).lanes = s.lanes := (rfl)
@[simp] theorem opened_cluster : (opened op src c s).cluster = s.cluster := (rfl)
@[simp] theorem islandOpened_cluster : (islandOpened op c s).cluster = s.cluster := (rfl)
@[simp] theorem opened_faults : (opened op src c s).faults = s.faults := (rfl)
@[simp] theorem islandOpened_faults : (islandOpened op c s).faults = s.faults := (rfl)
@[simp] theorem opened_ledger : (opened op src c s).ledger = s.ledger := (rfl)
@[simp] theorem islandOpened_ledger : (islandOpened op c s).ledger = s.ledger := (rfl)
@[simp] theorem opened_fw : (opened op src c s).fw = s.fw := (rfl)
@[simp] theorem islandOpened_fw : (islandOpened op c s).fw = s.fw := (rfl)
@[simp] theorem opened_mgmt : (opened op src c s).mgmt = s.mgmt := (rfl)
@[simp] theorem islandOpened_mgmt : (islandOpened op c s).mgmt = s.mgmt := (rfl)
@[simp] theorem opened_tele : (opened op src c s).tele = s.tele := (rfl)
@[simp] theorem islandOpened_tele : (islandOpened op c s).tele = s.tele := (rfl)
@[simp] theorem opened_testPort : (opened op src c s).testPort = s.testPort := (rfl)
@[simp] theorem islandOpened_testPort : (islandOpened op c s).testPort = s.testPort := (rfl)
@[simp] theorem opened_window : (opened op src c s).window = s.window := (rfl)
@[simp] theorem islandOpened_window : (islandOpened op c s).window = s.window := (rfl)
@[simp] theorem opened_tally : (opened op src c s).tally = s.tally := (rfl)
@[simp] theorem islandOpened_tally : (islandOpened op c s).tally = s.tally := (rfl)
@[simp] theorem opened_pending : (opened op src c s).pending = s.pending := (rfl)
@[simp] theorem islandOpened_pending : (islandOpened op c s).pending = s.pending := (rfl)
end
/-- The check of an opened command, where the state before accepts it. -/
theorem checked_opened {op : Op} {src : Source} {c : Cmd} {s t : State} {e : Entry} {modes modes' : List Mode}
    {cs : List Check} {eff : State → State} (ha : accepts modes cs s = true)
    (he : eff (opened op src c s) = t) (hm : s.mode.current ∈ modes → s.mode.current ∈ modes' := by exact id) :
    checked e modes' cs eff (opened op src c s) = t := by
  rw [accepts_iff] at ha
  rw [← he]
  exact checked_pass (hm ha.1) ha.2

theorem checked_island {op : Op} {c : Cmd} {s t : State} {e : Entry} {modes : List Mode}
    {cs : List Check} {eff : State → State} (hc : badOffset cs = none)
    (he : eff (islandOpened op c s) = t) (hm : s.mode.current ∈ modes) :
    checked e modes cs eff (islandOpened op c s) = t := by
  rw [← he]
  exact checked_pass hm hc
theorem take_ex {op : Op} {src : Source} {c : Cmd} {s : State} {beg : Entry → State → State} {P : State → Prop}
    (ho : opens op src c s = true) (hp : P (beg (entryOf op src c s) (opened op src c s))) :
    ∃ t, Host.Outcome.next (φ := Fault) (ρ := Refusal) (takeCommand op src c (objectsOf op c) beg s) = .next t ∧ P t :=
  ⟨_, take_begin ho rfl, hp⟩

/-- Every row of a host command takes that command (07 R223). -/
theorem exec_hostRow {i : Instr} {op : Op} {src : Source} {c : Cmd} {s : State} (h : hostRow i = some (op, src, c)) :
    exec i s = .next (takeCommand op src c (objectsOf op c) (beginOf op) s) := by
  cases i <;> first | (cases h; rfl) | cases h

end Sys2Proof.Machine
end

