-- ==== Sys2Proof/Laws/Held.lean ====
section
/-!
SUPPORT. What almost no command touches: the queue, the mode register, BKP, RESET_CAUSE, the straps, and the numbers of
the period, the frame and the last boundary. One lemma for each shared operation that leaves them all alone; the others
are in Laws/Steady.lean.
-/
namespace Sys2Proof.Machine

-- One theorem after another: the memory of the check holds no more of them at once.
set_option Elab.async false
set_option linter.all false

/-- The part of the state that few commands touch. -/
structure Held where
  pending : List Instr
  mode : ModeReg
  bkp : List Word32
  cause : ResetCause
  straps : Straps
  period : Nat
  frame : Nat
  boundary : Nat

/-- That part of a state. -/
def held (s : State) : Held := ⟨s.pending, s.mode, s.bkp, s.cause, s.boot.straps, s.alw.period, s.alw.frame, s.alw.lastBoundary⟩

@[simp] theorem held_mk (s : State) : Held.mk s.pending s.mode s.bkp s.cause s.boot.straps s.alw.period s.alw.frame s.alw.lastBoundary = held s := rfl

@[simp] theorem held_upd (a0 a1 a2 a3 a4 a5 a6 a7 a8 a9 a10 a11 a12 a13 a14 a15 a16 a17 a18 a19 a20 a21 a22 a23 a24 a25 a26 a27 a28 a29 a30 a31 a32 a33 a34) :
    held (State.mk a0 a1 a2 a3 a4 a5 a6 a7 a8 a9 a10 a11 a12 a13 a14 a15 a16 a17 a18 a19 a20 a21 a22 a23 a24 a25 a26 a27 a28 a29 a30 a31 a32 a33 a34) = ⟨a0, a6, a7, a4, a5.straps, a18.period, a18.frame, a18.lastBoundary⟩ := rfl

theorem held_foldl_aux {α : Type} (f : State → α → State) (l : List α) (h : ∀ s a, held (f s a) = held s) (s : State) :
    held (l.foldl f s) = held s := by
  induction l generalizing s with
  | nil => rfl
  | cons a t ih => rw [List.foldl_cons, ih, h]

@[simp] theorem held_foldl {α : Type} (f : State → α → State) (l : List α) (s : State)
    (h : ∀ s a, held (f s a) = held s) : held (l.foldl f s) = held s :=
  held_foldl_aux f l h s

theorem held_foldl_pair {α β : Type} (f : State × β → α → State × β) (l : List α) (a : State × β)
    (h : ∀ a x, held (f a x).1 = held a.1) : held (l.foldl f a).1 = held a.1 := by
  induction l generalizing a with
  | nil => rfl
  | cons x t ih => rw [List.foldl_cons, ih, h]

theorem held_foldl' {α : Type} (f : State → α → State) (l : List α) (s : State) (x : Held)
    (h : ∀ s a, held (f s a) = held s) (h0 : held s = x) : held (l.foldl f s) = x :=
  (held_foldl_aux f l h s).trans h0

@[simp] theorem held_ite (p : Prop) [Decidable p] (a b : State) :
    held (if p then a else b) = if p then held a else held b := by split <;> rfl

/-! Ops -/

@[simp] theorem held_advance (due : Nat) (s : State) : held (advance due s) = held s := by simp [advance]

@[simp] theorem held_drawn (s : State) : held (drawn s) = held s := by simp [drawn]

@[simp] theorem held_bump (c : Ctr) (n : Nat) (s : State) : held (bump c n s) = held s := by simp [bump]

@[simp] theorem held_setBalance (cls : Nat) (res : Nat) (f : Balance → Balance) (s : State) : held (setBalance cls res f s) = held s := by simp [setBalance]

@[simp] theorem held_dropHostRequests (s : State) : held (dropHostRequests s) = held s := by simp [dropHostRequests]

@[simp] theorem held_chargeGrant (cls : Nat) (res : Nat) (size : Nat) (s : State) : held (chargeGrant cls res size s) = held s := by simp [chargeGrant]

@[simp] theorem held_payRound (cls : Nat) (res : Nat) (n : Nat) (s : State) : held (payRound cls res n s).1 = held s := by unfold payRound; (repeat' split) <;> simp

@[simp] theorem held_payNow (cls : Nat) (res : Nat) (n : Nat) (s : State) : held (payNow cls res n s).1 = held s := by simp [payNow]

@[simp] theorem held_pay (cls : Nat) (res : Nat) (n : Nat) (s : State) : held (pay cls res n s).1 = held s := by unfold pay; (repeat' split) <;> simp

@[simp] theorem held_land (t : Tlp) (s : State) : held (land t s) = held s := by unfold land; (repeat' split) <;> simp

@[simp] theorem held_issue (t : Tlp) (s : State) : held (issue t s) = held s := by simp [issue]

@[simp] theorem held_landStaged (l : List (Nat × Tlp)) (s : State) : held (landStaged l s) = held s := by
  induction l generalizing s with
  | nil => simp [landStaged]
  | cons x t ih => obtain ⟨_ | n, t'⟩ := x <;> simp [landStaged, ih]

@[simp] theorem held_hostGranted (n : Nat) (s : State) : held (hostGranted n s) = held s := by simp [hostGranted]

@[simp] theorem held_serveHost (l : List Request) (s : State) : held (serveHost l s) = held s := by
  induction l generalizing s with
  | nil => rfl
  | cons r t ih => unfold serveHost; dsimp only; (repeat' split) <;> simp [ih]

@[simp] theorem held_payRead (n : Nat) (v : Nat) (s : State) : held (payRead n v s).1 = held s := by simp [payRead]

@[simp] theorem held_hostConfigures (s : State) : held (hostConfigures s) = held s := by simp [hostConfigures]

@[simp] theorem held_hostWrite (address : Nat) (bytes : List Byte) (s : State) : held (hostWrite address bytes s) = held s := by simp [hostWrite]

@[simp] theorem held_sendVector (v : Nat) (s : State) : held (sendVector v s) = held s := by simp [sendVector]

@[simp] theorem held_sendCause (s : State) : held (sendCause s) = held s := by simp [sendCause]

@[simp] theorem held_writeEvent (code : Nat) (data : Nat) (s : State) : held (writeEvent code data s) = held s := by simp [writeEvent]

@[simp] theorem held_irqMessage (causeBit : Nat) (was : Bool) (s : State) : held (irqMessage causeBit was s) = held s := by simp [irqMessage]

@[simp] theorem held_dropEvent (s : State) : held (dropEvent s) = held s := by simp [dropEvent]

@[simp] theorem held_flushLost (s : State) : held (flushLost s) = held s := by simp [flushLost]

@[simp] theorem held_raiseCore (code : Nat) (fields : List Fld) (s : State) : held (raiseCore code fields s) = held s := by simp [raiseCore]

@[simp] theorem held_raise (code : Nat) (fields : List Fld) (s : State) : held (raise code fields s) = held s := by simp [raise]

@[simp] theorem held_countBy (c : Ctr) (n : Nat) (s : State) : held (countBy c n s) = held s := by simp [countBy]

@[simp] theorem held_count (c : Ctr) (s : State) : held (count c s) = held s := by simp [count]

@[simp] theorem held_writeCompletion (cc : Nat) (fields : List Fld) (s : State) : held (writeCompletion cc fields s) = held s := by simp [writeCompletion]

@[simp] theorem held_dmbComplete (fields : List Fld) (s : State) : held (dmbComplete fields s) = held s := by simp [dmbComplete]

@[simp] theorem held_mgmtComplete (fields : List Fld) (s : State) : held (mgmtComplete fields s) = held s := by simp [mgmtComplete]

@[simp] theorem held_setLink (k : Nat) (f : TyLink → TyLink) (s : State) : held (setLink k f s) = held s := by simp [setLink]

@[simp] theorem held_linkSend (k : Nat) (f : ReplayFrame) (s : State) : held (linkSend k f s) = held s := by simp [linkSend]

@[simp] theorem held_linkDrain (k : Nat) (l : List ReplayFrame) (s : State) : held (linkDrain k l s) = held s := by
  induction l generalizing s with
  | nil => rfl
  | cons f t ih => unfold linkDrain; split <;> simp [ih]

@[simp] theorem held_tyRoute (f : ReplayFrame) (s : State) : held (tyRoute f s) = held s := by unfold tyRoute; (repeat' split) <;> simp

@[simp] theorem held_tySend (dest : Nat) (payload : TyPayload) (octets : Nat) (s : State) : held (tySend dest payload octets s) = held s := by unfold tySend; (repeat' split) <;> simp

@[simp] theorem held_tell (dest : Nat) (m : StewardMessage) (s : State) : held (tell dest m s) = held s := by simp [tell]

@[simp] theorem held_postTo (src : Source) (cc : Nat) (discard : Bool) (op : Nat) (tag : BitVec 16) (status : Byte) (extra : Nat) (result : Nat) (data : List Byte) (s : State) : held (postTo src cc discard op tag status extra result data s) = held s := by unfold postTo; (repeat' split) <;> simp

@[simp] theorem held_setEntry (id : Nat) (f : Entry → Entry) (s : State) : held (setEntry id f s) = held s := by simp [setEntry]

@[simp] theorem held_recordFinal (id : Nat) (status : Byte) (result : Nat) (s : State) : held (recordFinal id status result s) = held s := by simp [recordFinal]

@[simp] theorem held_finish (e : Entry) (status : Byte) (result : List Fld) (s : State) : held (finish e status result s) = held s := by unfold finish; (repeat' split) <;> simp

@[simp] theorem held_finishBadArg (e : Entry) (offset : Nat) (s : State) : held (finishBadArg e offset s) = held s := by simp [finishBadArg]

@[simp] theorem held_postAccepted (op : Op) (src : Source) (cc : Nat) (discard : Bool) (noAccepted : Bool) (tag : BitVec 16) (extra : Nat) (s : State) : held (postAccepted op src cc discard noAccepted tag extra s) = held s := by unfold postAccepted; (repeat' split) <;> simp

@[simp] theorem held_accept (e : Entry) (s : State) : held (accept e s) = held s := by unfold accept; (repeat' split) <;> simp

@[simp] theorem held_answer (src : Source) (cc : Nat) (op : Nat) (tag : BitVec 16) (status : Byte) (extra : Nat) (result : Nat) (s : State) : held (answer src cc op tag status extra result s) = held s := by simp [answer]

/-! Operands -/

theorem held_precheck (e : Entry) (modes : List Mode) (cs : List Check) (s : State) : ∀ x, precheck e modes cs s = some x → held x = held s := by
  intro x h
  unfold precheck at h
  split at h
  · simp only [Option.some.injEq] at h; subst h; simp
  · simp only [Option.map_eq_some_iff] at h; obtain ⟨o, _, rfl⟩ := h; simp

@[simp] theorem held_checked (e : Entry) (modes : List Mode) (cs : List Check) (effect : State → State) (s : State) (heffect : ∀ x0, held (effect x0) = held x0) : held (checked e modes cs effect s) = held s := by
  unfold checked
  cases h : precheck e modes cs s with
  | none => simp [heffect]
  | some t => simpa using held_precheck e modes cs s t h

/-! Protocol -/

@[simp] theorem held_begin_ (beg : Entry → State → State) (e : Entry) (s : State) (hbeg : ∀ x0 x1, held (beg x0 x1) = held x1) : held (begin_ beg e s) = held s := by unfold begin_; dsimp only; (repeat' split) <;> simp_all

@[simp] theorem held_openEntry (op : Op) (src : Source) (c : Cmd) (objs : List Obj) (beg : Entry → State → State) (s : State) (hbeg : ∀ x0 x1, held (beg x0 x1) = held x1) : held (openEntry op src c objs beg s) = held s := by unfold openEntry; dsimp only; (repeat' split) <;> simp_all

theorem held_recordRetry (r : RetryRecord) (s : State) : ∀ x, recordRetry r s = some x → held x = held s := by
  intro x h
  unfold recordRetry at h
  dsimp only at h
  (repeat' split at h) <;> simp only [Option.some.injEq, reduceCtorEq] at h <;> subst h <;> simp

@[simp] theorem held_joinOriginal (r : RetryRecord) (src : Source) (c : Cmd) (s : State) : held (joinOriginal r src c s) = held s := by simp [joinOriginal]

@[simp] theorem held_matchRetry (op : Op) (src : Source) (c : Cmd) (objs : List Obj) (beg : Entry → State → State) (s : State) (hbeg : ∀ x0 x1, held (beg x0 x1) = held x1) : held (matchRetry op src c objs beg s) = held s := by
  unfold matchRetry
  dsimp only
  (repeat' split) <;> (try simp [hbeg])
  rename_i t h
  simpa using held_recordRetry _ _ _ h

theorem held_tagFault (code : Nat) (src : Source) (c : Cmd) (s : State) : ∀ x, tagFault code src c s = some x → held x = held s := by
  intro x h
  unfold tagFault at h
  (repeat' split at h) <;> simp only [Option.some.injEq, reduceCtorEq] at h <;> subst h <;> simp

@[simp] theorem held_takeCommand (op : Op) (src : Source) (c : Cmd) (objs : List Obj) (beg : Entry → State → State) (s : State) (hbeg : ∀ x0 x1, held (beg x0 x1) = held x1) : held (takeCommand op src c objs beg s) = held s := by
  unfold takeCommand
  dsimp only
  (repeat' split) <;> (try simp [hbeg])
  rename_i t h
  exact held_tagFault _ _ _ _ _ h

@[simp] theorem held_takeUnknown (code : Nat) (src : Source) (c : Cmd) (s : State) : held (takeUnknown code src c s) = held s := by
  unfold takeUnknown
  dsimp only
  (repeat' split) <;> (try simp)
  rename_i t h
  exact held_tagFault _ _ _ _ _ h

@[simp] theorem held_settleAborts (id : Nat) (status : Byte) (s : State) : held (settleAborts id status s) = held s := by simp [settleAborts]

@[simp] theorem held_finishJob (e : Entry) (status : Byte) (result : List Fld) (s : State) : held (finishJob e status result s) = held s := by simp [finishJob]

@[simp] theorem held_cancelJob (e : Entry) (s : State) : held (cancelJob e s) = held s := by simp [cancelJob]

@[simp] theorem held_askRemote (e : Entry) (c : Cmd) (dest : Nat) (data : List Byte) (sessions : List SessionCopy) (s : State) : held (askRemote e c dest data sessions s) = held s := by simp [askRemote]

@[simp] theorem held_toRemote (e : Entry) (dest : Nat) (s : State) : held (toRemote e dest s) = held s := by simp [toRemote]

@[simp] theorem held_finishData (e : Entry) (address : Nat) (data : List Byte) (s : State) : held (finishData e address data s) = held s := by simp [finishData]

/-! Allowance -/

@[simp] theorem held_enqueueRequest (cls : Nat) (res : Nat) (r : Request) (s : State) : held (enqueueRequest cls res r s) = held s := by simp [enqueueRequest]

@[simp] theorem held_scrubVisit (vault : Bool) (corrected : Bool) (s : State) : held (scrubVisit vault corrected s) = held s := by unfold scrubVisit; (repeat' split) <;> simp

@[simp] theorem held_allowanceSetBegin (e : Entry) (s : State) : held (allowanceSetBegin e s) = held s := by simp [allowanceSetBegin]

@[simp] theorem held_allowanceReportBegin (e : Entry) (s : State) : held (allowanceReportBegin e s) = held s := by simp [allowanceReportBegin]

/-! FaultLog -/

@[simp] theorem held_rmemPut (offset : Nat) (bytes : List Byte) (s : State) : held (rmemPut offset bytes s) = held s := by simp [rmemPut]

@[simp] theorem held_crashAppend (r : FaultRecord) (s : State) : held (crashAppend r s) = held s := by simp [crashAppend]

@[simp] theorem held_logFault (kind : Nat) (unitType : Nat) (unitIndex : Nat) (cause : Nat) (cnt : Nat) (channel : Nat) (address : Nat) (s : State) : held (logFault kind unitType unitIndex cause cnt channel address s) = held s := by simp [logFault]

@[simp] theorem held_crashHeader (haltCause : Nat) (s : State) : held (crashHeader haltCause s) = held s := by simp [crashHeader]

@[simp] theorem held_crashAck (s : State) : held (crashAck s) = held s := by simp only [crashAck, held_rmemPut]

@[simp] theorem held_appendLog (rs : List FaultRecord) (s : State) : held (appendLog rs s) = held s := by simp [appendLog]

@[simp] theorem held_recoverLog (warm : Bool) (s : State) : held (recoverLog warm s) = held s := by simp [recoverLog]

@[simp] theorem held_flushRequest (s : State) : held (flushRequest s) = held s := by simp [flushRequest]

@[simp] theorem held_flushDone (s : State) : held (flushDone s) = held s := by simp [flushDone]

/-! Ledger -/

@[simp] theorem held_loadPolicy (s : State) : held (loadPolicy s) = held s := by simp [loadPolicy]

@[simp] theorem held_countWorn (w : LedgerWrite) (s : State) : held (countWorn w s) = held s := by unfold countWorn; (repeat' split) <;> simp

@[simp] theorem held_ledgerStart (s : State) : held (ledgerStart s).1 = held s := by unfold ledgerStart; (repeat' split) <;> simp

@[simp] theorem held_ledgerPut (w : LedgerWrite) (s : State) : held (ledgerPut w s).1 = held s := by simp [ledgerPut]

@[simp] theorem held_rhoperPut (word : Nat) (value : Nat) (s : State) : held (rhoperPut word value s) = held s := by simp [rhoperPut]

@[simp] theorem held_writeWords (e : Entry) (ws : List (Nat × Nat)) (s : State) : held (writeWords e ws s) = held s := by unfold writeWords; (repeat' split) <;> simp

@[simp] theorem held_raiseRemapped (word : Nat) (spare : Nat) (left : Nat) (s : State) : held (raiseRemapped word spare left s) = held s := by simp [raiseRemapped]

@[simp] theorem held_ledgerPerform (w : LedgerWrite) (verified : Bool) (s : State) : held (ledgerPerform w verified s).1 = held s := by unfold ledgerPerform; dsimp only; (repeat' split) <;> simp

@[simp] theorem held_userWordWrite (word : Nat) (w : Nat) (s : State) : held (userWordWrite word w s) = held s := by simp [userWordWrite]

@[simp] theorem held_ledgerStatusBegin (e : Entry) (s : State) : held (ledgerStatusBegin e s) = held s := by simp [ledgerStatusBegin]

@[simp] theorem held_resetPolicySetBegin (e : Entry) (s : State) : held (resetPolicySetBegin e s) = held s := by simp [resetPolicySetBegin]

@[simp] theorem held_loadOffsets (s : State) : held (loadOffsets s) = held s := by simp [loadOffsets]

@[simp] theorem held_paceOffsetSetBegin (e : Entry) (s : State) : held (paceOffsetSetBegin e s) = held s := by simp [paceOffsetSetBegin]

@[simp] theorem held_calOffsetSetBegin (e : Entry) (s : State) : held (calOffsetSetBegin e s) = held s := by simp [calOffsetSetBegin]

/-! Engines -/

@[simp] theorem held_setEngine (e : Nat) (f : Engine → Engine) (s : State) : held (setEngine e f s) = held s := by simp [setEngine]

@[simp] theorem held_takeDescriptor (s : State) : held (takeDescriptor s) = held s := by simp [takeDescriptor]

@[simp] theorem held_freeDescriptor (s : State) : held (freeDescriptor s) = held s := by simp [freeDescriptor]

@[simp] theorem held_startSlice (engine : Nat) (s : State) : held (startSlice engine s) = held s := by simp [startSlice]

@[simp] theorem held_endSlice (engine : Nat) (s : State) : held (endSlice engine s) = held s := by simp [endSlice]

@[simp] theorem held_requestSlice (engine : Nat) (s : State) : held (requestSlice engine s) = held s := by simp [requestSlice]

@[simp] theorem held_beginIteration (s : State) (j : TestJob) : held (beginIteration s j) = held s := by simp [beginIteration]

@[simp] theorem held_beginIterations (s : State) : held (beginIterations s) = held s := by simp [beginIterations]

@[simp] theorem held_dropTest (j : TestJob) (s : State) : held (dropTest j s) = held s := by simp [dropTest]

@[simp] theorem held_resumeParked (e : Nat) (s : State) : held (resumeParked e s) = held s := by unfold resumeParked; dsimp only; (repeat' split) <;> simp

@[simp] theorem held_collectAskers (s : State) : held (collectAskers s) = held s := by simp [collectAskers]

@[simp] theorem held_grantTask (e : Nat) (s : State) : held (grantTask e s) = held s := by unfold grantTask; (repeat' split) <;> simp

@[simp] theorem held_dispatchGrant (cls : Nat) (s : State) : held (dispatchGrant cls s) = held s := by unfold dispatchGrant; dsimp only; (repeat' split) <;> simp

@[simp] theorem held_grantSome (n : Nat) (s : State) : held (grantSome n s) = held s := by
  induction n generalizing s with
  | zero => rfl
  | succ n ih => unfold grantSome; dsimp only; (repeat' split) <;> simp [ih]

@[simp] theorem held_grantAll (s : State) : held (grantAll s) = held s := by simp [grantAll]

@[simp] theorem held_engineConfigSetBegin (e : Entry) (s : State) : held (engineConfigSetBegin e s) = held s := by simp [engineConfigSetBegin]

@[simp] theorem held_engineStatusBegin (e : Entry) (s : State) : held (engineStatusBegin e s) = held s := by simp [engineStatusBegin]

@[simp] theorem held_engineTestBegin (e : Entry) (s : State) : held (engineTestBegin e s) = held s := by simp [engineTestBegin]

/-! TimeBase -/

@[simp] theorem held_setTb (i : Nat) (f : TimeBase → TimeBase) (s : State) : held (setTb i f s) = held s := by simp [setTb]

@[simp] theorem held_tbSync (i : Nat) (s : State) : held (tbSync i s) = held s := by simp [tbSync]

@[simp] theorem held_raiseTb (i : Nat) (previous : TbState) (cause : Nat) (s : State) : held (raiseTb i previous cause s) = held s := by simp [raiseTb]

@[simp] theorem held_tbTo (i : Nat) (new : TbState) (cause : Nat) (s : State) : held (tbTo i new cause s) = held s := by simp [tbTo]

@[simp] theorem held_realign (i : Nat) (s : State) : held (realign i s) = held s := by simp [realign]

@[simp] theorem held_tbConfigure (i : Nat) (c : TimeBaseCfg) (s : State) : held (tbConfigure i c s) = held s := by simp [tbConfigure]

@[simp] theorem held_tbConfigSetBegin (e : Entry) (s : State) : held (tbConfigSetBegin e s) = held s := by simp [tbConfigSetBegin]

@[simp] theorem held_lateAfterJump (i : Nat) (value : Nat) (s : State) : held (lateAfterJump i value s) = held s := by simp [lateAfterJump]

@[simp] theorem held_tbJump (i : Nat) (value : Nat) (s : State) : held (tbJump i value s) = held s := by simp [tbJump]

@[simp] theorem held_tbAdjustBegin (e : Entry) (s : State) : held (tbAdjustBegin e s) = held s := by unfold tbAdjustBegin; dsimp only; (repeat' split) <;> simp

@[simp] theorem held_tbTimeGetBegin (e : Entry) (s : State) : held (tbTimeGetBegin e s) = held s := by simp [tbTimeGetBegin]

@[simp] theorem held_ppsSetBegin (e : Entry) (s : State) : held (ppsSetBegin e s) = held s := by simp [ppsSetBegin]

@[simp] theorem held_ppsDiscipline (i : Nat) (s : State) : held (ppsDiscipline i s) = held s := by unfold ppsDiscipline; dsimp only; (repeat' split) <;> simp

@[simp] theorem held_tbLose (i : Nat) (s : State) : held (tbLose i s) = held s := by simp [tbLose]

@[simp] theorem held_referenceMove (toTbref : Bool) (s : State) : held (referenceMove toTbref s) = held s := by
  unfold referenceMove
  (try dsimp only)
  repeat' (first
    | (simp; done)
    | (simp_all; done)
    | (apply held_checked; intros)
    | (apply held_onChannel; intros)
    | (apply held_onHandle; intros)
    | (apply held_unlessSuspended; intros)
    | (apply held_atHome; intros)
    | split
    | refine held_foldl' _ _ _ _ (fun _ _ => ?_) ?_
    | (simp [*]))

/-! LaneOps -/

@[simp] theorem held_setLane (l : Nat) (f : Lane → Lane) (s : State) : held (setLane l f s) = held s := by simp [setLane]

@[simp] theorem held_raiseLane (l : Nat) (previous : LaneStateCode) (cause : Nat) (s : State) : held (raiseLane l previous cause s) = held s := by simp [raiseLane]

@[simp] theorem held_breakScans (l : Nat) (s : State) : held (breakScans l s) = held s := by simp [breakScans]

@[simp] theorem held_laneTo (l : Nat) (new : LaneStateCode) (cause : Nat) (s : State) : held (laneTo l new cause s) = held s := by simp [laneTo]

@[simp] theorem held_loadTrims (l : Nat) (s : State) : held (loadTrims l s) = held s := by simp [loadTrims]

@[simp] theorem held_loadEqualisation (l : Nat) (s : State) : held (loadEqualisation l s) = held s := by simp [loadEqualisation]

@[simp] theorem held_laneBringup (l : Nat) (cause : Nat) (s : State) : held (laneBringup l cause s) = held s := by simp [laneBringup]

@[simp] theorem held_laneOff (l : Nat) (cause : Nat) (s : State) : held (laneOff l cause s) = held s := by simp [laneOff]

@[simp] theorem held_clearTests (l : Nat) (s : State) : held (clearTests l s) = held s := by simp [clearTests]

@[simp] theorem held_adaptDraw (l : Nat) (s : State) : held (adaptDraw l s) = held s := by simp [adaptDraw]

@[simp] theorem held_setPort (p : Nat) (f : Port → Port) (s : State) : held (setPort p f s) = held s := by simp [setPort]

/-! Sessions -/

@[simp] theorem held_setSession (index : Nat) (f : Session → Session) (s : State) : held (setSession index f s) = held s := by simp [setSession]

@[simp] theorem held_cacheProbe (hash : Nat) (index : Nat) (s : State) : held (cacheProbe hash index s) = held s := by simp [cacheProbe]

@[simp] theorem held_cacheDrop (hash : Nat) (index : Nat) (s : State) : held (cacheDrop hash index s) = held s := by simp [cacheDrop]

@[simp] theorem held_setChannel (id : Nat) (f : Channel → Channel) (s : State) : held (setChannel id f s) = held s := by simp [setChannel]

@[simp] theorem held_setLeg (id : Nat) (l : Leg) (f : LegState → LegState) (s : State) : held (setLeg id l f s) = held s := by simp [setLeg]

@[simp] theorem held_onBoundLeg (h : Nat) (f : LegState → LegState) (s : State) : held (onBoundLeg h f s) = held s := by unfold onBoundLeg; (repeat' split) <;> simp

@[simp] theorem held_raiseLatched (h : Nat) (x : Session) (cause : Nat) (s : State) : held (raiseLatched h x cause s) = held s := by simp [raiseLatched]

@[simp] theorem held_staleRequest (s : State) : held (staleRequest s) = held s := by simp [staleRequest]

@[simp] theorem held_commitLatch (h : Nat) (epoch : Byte) (ip : BitVec 128) (port : BitVec 16) (s : State) : held (commitLatch h epoch ip port s) = held s := by unfold commitLatch; (repeat' split) <;> simp

@[simp] theorem held_commitUnlatch (h : Nat) (epoch : Byte) (s : State) : held (commitUnlatch h epoch s) = held s := by unfold commitUnlatch; (repeat' split) <;> simp

@[simp] theorem held_commitBind (h : Nat) (channel : Nat) (l : Leg) (node : Nat) (s : State) : held (commitBind h channel l node s) = held s := by unfold commitBind; (repeat' split) <;> simp

@[simp] theorem held_commitRelease (h : Nat) (channel : Nat) (s : State) : held (commitRelease h channel s) = held s := by unfold commitRelease; (repeat' split) <;> simp

@[simp] theorem held_commitAccepted (h : Nat) (period : Nat) (s : State) : held (commitAccepted h period s) = held s := by unfold commitAccepted; (repeat' split) <;> simp

@[simp] theorem held_freeSession (h : Nat) (x : Session) (s : State) : held (freeSession h x s) = held s := by unfold freeSession; (repeat' split) <;> simp

@[simp] theorem held_addSession (e : Entry) (s : State) : held (addSession e s) = held s := by unfold addSession; dsimp only; (repeat' split) <;> simp

@[simp] theorem held_atHome (e : Entry) (home : Nat) (status : Byte) (here : State → State) (s : State) (hhere : ∀ x0, held (here x0) = held x0) : held (atHome e home status here s) = held s := by
  unfold atHome
  (try dsimp only)
  repeat' (first
    | (simp; done)
    | (simp_all; done)
    | (apply held_checked; intros)
    | (apply held_onChannel; intros)
    | (apply held_onHandle; intros)
    | (apply held_unlessSuspended; intros)
    | split
    | refine held_foldl' _ _ _ _ (fun _ _ => ?_) ?_
    | (simp [*]))

@[simp] theorem held_commitRequest (sight : StationKey → Nat → Nat → Nat → State → State) (r : TellerRequest) (s : State) (hsight : ∀ x0 x1 x2 x3 x4, held (sight x0 x1 x2 x3 x4) = held x4) : held (commitRequest sight r s) = held s := by
  unfold commitRequest
  (try dsimp only)
  repeat' (first
    | (simp; done)
    | (simp_all; done)
    | (apply held_checked; intros)
    | (apply held_onChannel; intros)
    | (apply held_onHandle; intros)
    | (apply held_unlessSuspended; intros)
    | (apply held_atHome; intros)
    | split
    | refine held_foldl' _ _ _ _ (fun _ _ => ?_) ?_
    | (simp [*]))

@[simp] theorem held_thenRunning (e : Entry) (x : Session) (here : State → State) (s : State) (hhere : ∀ x0, held (here x0) = held x0) : held (thenRunning e x here s) = held s := by
  unfold thenRunning
  (try dsimp only)
  repeat' (first
    | (simp; done)
    | (simp_all; done)
    | (apply held_checked; intros)
    | (apply held_onChannel; intros)
    | (apply held_onHandle; intros)
    | (apply held_unlessSuspended; intros)
    | (apply held_atHome; intros)
    | split
    | refine held_foldl' _ _ _ _ (fun _ _ => ?_) ?_
    | (simp [*]))

@[simp] theorem held_onHandle (e : Entry) (h : Nat) (entry : Session → State → State) (leg : LegState → LegState) (s : State) (hentry : ∀ x0 x1, held (entry x0 x1) = held x1) : held (onHandle e h entry leg s) = held s := by
  unfold onHandle
  (try dsimp only)
  repeat' (first
    | (simp; done)
    | (simp_all; done)
    | (apply held_checked; intros)
    | (apply held_onChannel; intros)
    | (apply held_unlessSuspended; intros)
    | (apply held_atHome; intros)
    | split
    | refine held_foldl' _ _ _ _ (fun _ _ => ?_) ?_
    | (simp [*]))

/-! Stations -/

@[simp] theorem held_putStation (x : Station) (s : State) : held (putStation x s) = held s := by simp [putStation]

@[simp] theorem held_dropStation (k : StationKey) (s : State) : held (dropStation k s) = held s := by simp [dropStation]

@[simp] theorem held_sendMembers (k : StationKey) (s : State) : held (sendMembers k s) = held s := by simp [sendMembers]

@[simp] theorem held_commitSighting (k : StationKey) (node : Nat) (port : Nat) (seenAt : Nat) (s : State) : held (commitSighting k node port seenAt s) = held s := by unfold commitSighting; (repeat' split) <;> simp

@[simp] theorem held_tellerStep (s : State) : held (tellerStep s) = held s := by unfold tellerStep; (repeat' split) <;> simp

@[simp] theorem held_tellerDrain (s : State) : held (tellerDrain s) = held s := by simp [tellerDrain]

@[simp] theorem held_toTeller (home : Nat) (r : TellerRequest) (s : State) : held (toTeller home r s) = held s := by simp [toTeller]

@[simp] theorem held_commitAt (s : State) (r : Nat × TellerRequest) : held (commitAt s r) = held s := by simp [commitAt]

@[simp] theorem held_commitAll (reqs : List (Nat × TellerRequest)) (s : State) : held (commitAll reqs s) = held s := by simp [commitAll]

@[simp] theorem held_finishCommitted (e : Entry) (result : Nat) (reqs : List (Nat × TellerRequest)) (s : State) : held (finishCommitted e result reqs s) = held s := by simp [finishCommitted]

@[simp] theorem held_commitAnswered (e : Entry) (left : Nat) (result : Nat) (s : State) : held (commitAnswered e left result s) = held s := by simp [commitAnswered]

@[simp] theorem held_sendSighting (k : StationKey) (port : Nat) (seenAt : Nat) (s : State) : held (sendSighting k port seenAt s) = held s := by simp [sendSighting]

@[simp] theorem held_setSighting (x : Sighting) (s : State) : held (setSighting x s) = held s := by simp [setSighting]

@[simp] theorem held_learn (k : StationKey) (port : Nat) (s : State) : held (learn k port s) = held s := by simp [learn]

@[simp] theorem held_commitAge (key : StationKey) (s : State) : held (commitAge key s) = held s := by unfold commitAge; (repeat' split) <;> simp

@[simp] theorem held_applyStation (update : StationUpdate) (s : State) : held (applyStation update s) = held s := by simp [applyStation]

@[simp] theorem held_sessionAddBegin (e : Entry) (s : State) : held (sessionAddBegin e s) = held s := by simp [sessionAddBegin]

@[simp] theorem held_sessionModifyBegin (e : Entry) (s : State) : held (sessionModifyBegin e s) = held s := by
  unfold sessionModifyBegin
  (try dsimp only)
  repeat' (first
    | (simp; done)
    | (simp_all; done)
    | (apply held_checked; intros)
    | (apply held_onChannel; intros)
    | (apply held_onHandle; intros)
    | (apply held_unlessSuspended; intros)
    | (apply held_atHome; intros)
    | split
    | refine held_foldl' _ _ _ _ (fun _ _ => ?_) ?_
    | (simp [*]))

@[simp] theorem held_sessionDeleteBegin (e : Entry) (s : State) : held (sessionDeleteBegin e s) = held s := by simp [sessionDeleteBegin]

@[simp] theorem held_sessionQueryBegin (e : Entry) (s : State) : held (sessionQueryBegin e s) = held s := by unfold sessionQueryBegin; (repeat' split) <;> simp

@[simp] theorem held_relatchBegin (e : Entry) (s : State) : held (relatchBegin e s) = held s := by
  unfold relatchBegin
  (try dsimp only)
  repeat' (first
    | (simp; done)
    | (simp_all; done)
    | (apply held_checked; intros)
    | (apply held_onChannel; intros)
    | (apply held_onHandle; intros)
    | (apply held_unlessSuspended; intros)
    | (apply held_atHome; intros)
    | split
    | refine held_foldl' _ _ _ _ (fun _ _ => ?_) ?_
    | (simp [*]))

@[simp] theorem held_keepStatic (k : StationKey) (x : Option StaticStation) (s : State) : held (keepStatic k x s) = held s := by simp [keepStatic]

@[simp] theorem held_stationAddBegin (e : Entry) (s : State) : held (stationAddBegin e s) = held s := by
  unfold stationAddBegin
  (try dsimp only)
  repeat' (first
    | (simp; done)
    | (simp_all; done)
    | (apply held_checked; intros)
    | (apply held_onChannel; intros)
    | (apply held_onHandle; intros)
    | (apply held_unlessSuspended; intros)
    | (apply held_atHome; intros)
    | split
    | refine held_foldl' _ _ _ _ (fun _ _ => ?_) ?_
    | (simp [*]))

@[simp] theorem held_stationDeleteBegin (e : Entry) (s : State) : held (stationDeleteBegin e s) = held s := by
  unfold stationDeleteBegin
  (try dsimp only)
  repeat' (first
    | (simp; done)
    | (simp_all; done)
    | (apply held_checked; intros)
    | (apply held_onChannel; intros)
    | (apply held_onHandle; intros)
    | (apply held_unlessSuspended; intros)
    | (apply held_atHome; intros)
    | split
    | refine held_foldl' _ _ _ _ (fun _ _ => ?_) ?_
    | (simp [*]))

@[simp] theorem held_stationQueryBegin (e : Entry) (s : State) : held (stationQueryBegin e s) = held s := by
  unfold stationQueryBegin
  (try dsimp only)
  repeat' (first
    | (simp; done)
    | (simp_all; done)
    | (apply held_checked; intros)
    | (apply held_onChannel; intros)
    | (apply held_onHandle; intros)
    | (apply held_unlessSuspended; intros)
    | (apply held_atHome; intros)
    | split
    | refine held_foldl' _ _ _ _ (fun _ _ => ?_) ?_
    | (simp [*]))

/-! Launch -/

@[simp] theorem held_setQueue (port : Nat) (queue : Nat) (f : LaunchQueue → LaunchQueue) (s : State) : held (setQueue port queue f s) = held s := by simp [setQueue]

@[simp] theorem held_enqueue (port : Nat) (queue : Nat) (p : LaunchPacket) (s : State) : held (enqueue port queue p s) = held s := by simp [enqueue]

@[simp] theorem held_sendPacket (ch : Channel) (leg : Leg) (isRtp : Bool) (bytes : Nat) (payload : List Byte) (frame : Nat) (s : State) : held (sendPacket ch leg isRtp bytes payload frame s) = held s := by unfold sendPacket; (repeat' split) <;> simp

@[simp] theorem held_dropPortQueues (port : Nat) (s : State) : held (dropPortQueues port s) = held s := by simp [dropPortQueues]

@[simp] theorem held_dropAllQueues (s : State) : held (dropAllQueues s).1 = held s := by simp [dropAllQueues]

@[simp] theorem held_transmit (port : Nat) (frameBytes : Nat) (multicast : Bool) (tagged : Bool) (s : State) : held (transmit port frameBytes multicast tagged s).1 = held s := by unfold transmit; (repeat' split) <;> simp

@[simp] theorem held_launchLate (port : Nat) (queue : Nat) (outcome : Nat) (lateNs : Nat) (s : State) : held (launchLate port queue outcome lateNs s) = held s := by simp [launchLate]

@[simp] theorem held_sendQueued (port : Nat) (queue : Nat) (p : LaunchPacket) (s : State) : held (sendQueued port queue p s) = held s := by unfold sendQueued; (repeat' split) <;> simp

@[simp] theorem held_grantTimed (port : Nat) (queue : Nat) (p : LaunchPacket) (s : State) : held (grantTimed port queue p s) = held s := by simp [grantTimed]

@[simp] theorem held_sendPtp (w : PtpWaiting) (s : State) : held (sendPtp w s) = held s := by unfold sendPtp; (repeat' split) <;> simp

@[simp] theorem held_arbitrate (port : Nat) (s : State) : held (arbitrate port s) = held s := by unfold arbitrate; dsimp only; (repeat' split) <;> simp

@[simp] theorem held_launchQueueSetBegin (e : Entry) (s : State) : held (launchQueueSetBegin e s) = held s := by simp [launchQueueSetBegin]

@[simp] theorem held_launchCancelBegin (e : Entry) (s : State) : held (launchCancelBegin e s) = held s := by simp [launchCancelBegin]

/-! Jitter -/

@[simp] theorem held_dropPacket (id : Nat) (l : Leg) (ctr : Nat) (run : Bool) (s : State) : held (dropPacket id l ctr run s) = held s := by simp [dropPacket]

@[simp] theorem held_keepPacket (ch : Channel) (l : Leg) (m : MediaPacket) (frame : Int) (playoutUs : Int) (s : State) : held (keepPacket ch l m frame playoutUs s) = held s := by simp [keepPacket]

@[simp] theorem held_jbPacket (ch : Channel) (l : Leg) (m : MediaPacket) (s : State) : held (jbPacket ch l m s) = held s := by simp [jbPacket]

@[simp] theorem held_moveToWindow (id : Nat) (l : Leg) (seq : Nat) (s : State) : held (moveToWindow id l seq s) = held s := by simp [moveToWindow]

@[simp] theorem held_refillPackets (id : Nat) (l : Leg) (ps : List HeldPacket) (s : State) :
    held (refillPackets id l ps s) = held s := by
  induction ps generalizing s with
  | nil => rfl
  | cons p t ih => unfold refillPackets; (repeat' (first | split | dsimp only)) <;> simp [ih]

@[simp] theorem held_refill (id : Nat) (l : Leg) (s : State) : held (refill id l s) = held s := by
  unfold refill
  (try dsimp only)
  repeat' (first
    | (simp; done)
    | (simp_all; done)
    | (apply held_checked; intros)
    | (apply held_onChannel; intros)
    | (apply held_onHandle; intros)
    | (apply held_unlessSuspended; intros)
    | (apply held_atHome; intros)
    | split
    | refine held_foldl' _ _ _ _ (fun _ _ => ?_) ?_
    | (simp [*]))

@[simp] theorem held_playFrame (ch : Channel) (l : Leg) (frame : Nat) (s : State) : held (playFrame ch l frame s) = held s := by simp [playFrame]

@[simp] theorem held_jbBoundary (ch : Channel) (l : Leg) (s : State) : held (jbBoundary ch l s) = held s := by unfold jbBoundary; (repeat' split) <;> simp

@[simp] theorem held_askNext (e : Entry) (nodes : List Nat) (s : State) : held (askNext e nodes s) = held s := by unfold askNext; (repeat' split) <;> simp

@[simp] theorem held_onChannel (e : Entry) (id : Nat) (here : Channel → State → State) (s : State)
    (hhere : ∀ x0 x1, held (here x0 x1) = held x1) : held (onChannel e id here s) = held s := by
  unfold onChannel; (repeat' split) <;> simp_all

@[simp] theorem held_unlessSuspended (e : Entry) (ch : Channel) (go : State → State) (s : State) (hgo : ∀ x0, held (go x0) = held x0) : held (unlessSuspended e ch go s) = held s := by
  unfold unlessSuspended
  (try dsimp only)
  repeat' (first
    | (simp; done)
    | (simp_all; done)
    | (apply held_checked; intros)
    | (apply held_onChannel; intros)
    | (apply held_onHandle; intros)
    | (apply held_atHome; intros)
    | split
    | refine held_foldl' _ _ _ _ (fun _ _ => ?_) ?_
    | (simp [*]))

@[simp] theorem held_jitterSetBegin (e : Entry) (s : State) : held (jitterSetBegin e s) = held s := by
  unfold jitterSetBegin
  (try dsimp only)
  repeat' (first
    | (simp; done)
    | (simp_all; done)
    | (apply held_checked; intros)
    | (apply held_onChannel; intros)
    | (apply held_onHandle; intros)
    | (apply held_unlessSuspended; intros)
    | (apply held_atHome; intros)
    | split
    | refine held_foldl' _ _ _ _ (fun _ _ => ?_) ?_
    | (simp [*]))

/-! Fcu -/

@[simp] theorem held_fcuFrame (id : Nat) (l : Leg) (samples : Option LegSamples) (s : State) : held (fcuFrame id l samples s) = held s := by unfold fcuFrame; (repeat' split) <;> simp

@[simp] theorem held_fcuBoundary (id : Nat) (l : Leg) (s : State) : held (fcuBoundary id l s) = held s := by simp [fcuBoundary]

@[simp] theorem held_raiseLevel (id : Nat) (l : Leg) (point : Nat) (edge : Nat) (block : Nat) (level : Int) (s : State) : held (raiseLevel id l point edge block level s) = held s := by simp [raiseLevel]

@[simp] theorem held_meterEnd (id : Nat) (l : Leg) (s : State) : held (meterEnd id l s) = held s := by unfold meterEnd; (repeat' split) <;> simp

@[simp] theorem held_meterStart (id : Nat) (l : Leg) (cfg : LevelCfg) (s : State) : held (meterStart id l cfg s) = held s := by simp [meterStart]

@[simp] theorem held_meterBoundary (id : Nat) (l : Leg) (s : State) : held (meterBoundary id l s) = held s := by unfold meterBoundary; (repeat' split) <;> simp

@[simp] theorem held_meterEdge (id : Nat) (l : Leg) (edge : Nat) (block : Nat) (level : Int) (s : State) : held (meterEdge id l edge block level s) = held s := by unfold meterEdge; (repeat' split) <;> simp

@[simp] theorem held_meterMs (id : Nat) (l : Leg) (block : Nat) (p : Nat) (s : State) : held (meterMs id l block p s) = held s := by unfold meterMs; (repeat' split) <;> simp

@[simp] theorem held_meterFrame (id : Nat) (l : Leg) (powers : List Nat) (s : State) : held (meterFrame id l powers s) = held s := by unfold meterFrame; (repeat' split) <;> simp

@[simp] theorem held_fcuPhaseSetBegin (e : Entry) (s : State) : held (fcuPhaseSetBegin e s) = held s := by
  unfold fcuPhaseSetBegin
  (try dsimp only)
  repeat' (first
    | (simp; done)
    | (simp_all; done)
    | (apply held_checked; intros)
    | (apply held_onChannel; intros)
    | (apply held_onHandle; intros)
    | (apply held_unlessSuspended; intros)
    | (apply held_atHome; intros)
    | split
    | refine held_foldl' _ _ _ _ (fun _ _ => ?_) ?_
    | (simp [*]))

@[simp] theorem held_fcuLevelSetBegin (e : Entry) (s : State) : held (fcuLevelSetBegin e s) = held s := by
  unfold fcuLevelSetBegin
  (try dsimp only)
  repeat' (first
    | (simp; done)
    | (simp_all; done)
    | (apply held_checked; intros)
    | (apply held_onChannel; intros)
    | (apply held_onHandle; intros)
    | (apply held_unlessSuspended; intros)
    | (apply held_atHome; intros)
    | split
    | refine held_foldl' _ _ _ _ (fun _ _ => ?_) ?_
    | (simp [*]))

/-! Rtcp -/

@[simp] theorem held_protectOut (ch : Channel) (l : Leg) (rtcp : Bool) (s : State) : held (protectOut ch l rtcp s).1 = held s := by unfold protectOut; dsimp only; (repeat' split) <;> simp

@[simp] theorem held_sendRtcp (ch : Channel) (l : Leg) (bye : Bool) (s : State) : held (sendRtcp ch l bye s) = held s := by unfold sendRtcp; dsimp only; (repeat' split) <;> simp

@[simp] theorem held_sendRtp (ch : Channel) (l : Leg) (bytes : Nat) (payload : List Byte) (frame : Nat) (s : State) : held (sendRtp ch l bytes payload frame s) = held s := by unfold sendRtp; dsimp only; (repeat' split) <;> simp

@[simp] theorem held_sendDigits (id : Nat) (l : Leg) (frame : Nat) (s : State) : held (sendDigits id l frame s) = held s := by unfold sendDigits; (repeat' split) <;> simp

/-! Governor -/

@[simp] theorem held_writeTarget (mv : Nat) (s : State) : held (writeTarget mv s) = held s := by simp [writeTarget]

@[simp] theorem held_stepTarget (mv : Nat) (s : State) : held (stepTarget mv s) = held s := by simp [stepTarget]

@[simp] theorem held_governorStart (s : State) : held (governorStart s) = held s := by simp [governorStart]

@[simp] theorem held_paceLow (m : Nat) (s : State) : held (paceLow m s) = held s := by simp [paceLow]

@[simp] theorem held_governorPeriod (s : State) : held (governorPeriod s) = held s := by unfold governorPeriod; dsimp only; (repeat' split) <;> simp

@[simp] theorem held_avsFail (kind : Nat) (failed : Nat) (rail : Nat) (s : State) : held (avsFail kind failed rail s) = held s := by unfold avsFail; dsimp only; (repeat' split) <;> simp

@[simp] theorem held_raiseOn (s : State) : held (raiseOn s) = held s := by unfold raiseOn; (repeat' split) <;> simp

@[simp] theorem held_avsCheck (acknowledged : Bool) (reading : Nat) (s : State) : held (avsCheck acknowledged reading s) = held s := by
  unfold avsCheck
  (repeat' split) <;> (try dsimp only) <;> (repeat' split) <;> simp

@[simp] theorem held_railLow (railMv : Nat) (s : State) : held (railLow railMv s) = held s := by simp [railLow]

@[simp] theorem held_governorSetBegin (e : Entry) (s : State) : held (governorSetBegin e s) = held s := by simp [governorSetBegin]

@[simp] theorem held_paceReportBegin (e : Entry) (s : State) : held (paceReportBegin e s) = held s := by simp [paceReportBegin]

@[simp] theorem held_raiseRail (s : State) : held (raiseRail s) = held s := by simp [raiseRail]

@[simp] theorem held_waitRaise (e : Entry) (s : State) : held (waitRaise e s) = held s := by simp [waitRaise]

@[simp] theorem held_loadChanged (s : State) : held (loadChanged s) = held s := by simp [loadChanged]

/-! Channels -/

@[simp] theorem held_eraseLegCounters (id : Nat) (s : State) : held (eraseLegCounters id s) = held s := by simp [eraseLegCounters]

@[simp] theorem held_admitChannel (e : Entry) (engine : Nat) (s : State) : held (admitChannel e engine s) = held s := by simp [admitChannel]

@[simp] theorem held_askPlace (e : Entry) (nodes : List Nat) (counted : Bool) (s : State) : held (askPlace e nodes counted s) = held s := by unfold askPlace; (repeat' split) <;> simp

@[simp] theorem held_placeAway (e : Entry) (counted : Bool) (s : State) : held (placeAway e counted s) = held s := by unfold placeAway; (repeat' split) <;> simp

@[simp] theorem held_openPlace (e : Entry) (service : Bool) (s : State) : held (openPlace e service s) = held s := by unfold openPlace; dsimp only; (repeat' split) <;> simp

@[simp] theorem held_askSession (e : Entry) (h : Nat) (aux : List Nat) (s : State) : held (askSession e h aux s) = held s := by simp [askSession]

@[simp] theorem held_openHome (e : Entry) (x : Session) (service : Bool) (s : State) : held (openHome e x service s) = held s := by simp [openHome]

@[simp] theorem held_channelOpenBegin (e : Entry) (s : State) : held (channelOpenBegin e s) = held s := by
  unfold channelOpenBegin
  (try dsimp only)
  repeat' (first
    | (simp; done)
    | (simp_all; done)
    | (apply held_checked; intros)
    | (apply held_onChannel; intros)
    | (apply held_onHandle; intros)
    | (apply held_unlessSuspended; intros)
    | (apply held_atHome; intros)
    | split
    | refine held_foldl' _ _ _ _ (fun _ _ => ?_) ?_
    | (simp [*]))

@[simp] theorem held_channelOpenReply (e : Entry) (status : Byte) (result : Nat) (s : State) : held (channelOpenReply e status result s) = held s := by unfold channelOpenReply; (repeat' split) <;> simp

@[simp] theorem held_raiseVoice (code : Nat) (id : Nat) (l : Leg) (kind : Byte) (edge : Nat) (level : Byte) (durationMs : Nat) (s : State) : held (raiseVoice code id l kind edge level durationMs s) = held s := by simp [raiseVoice]

@[simp] theorem held_endDigits (id : Nat) (l : Leg) (which : DigitOut → Bool) (s : State) : held (endDigits id l which s) = held s := by simp [endDigits]

@[simp] theorem held_endTones (id : Nat) (l : Leg) (s : State) : held (endTones id l s) = held s := by unfold endTones; dsimp only; (repeat' split) <;> simp

@[simp] theorem held_dropTasks (id : Nat) (s : State) : held (dropTasks id s) = held s := by simp [dropTasks]

@[simp] theorem held_leaveConference (id : Nat) (s : State) : held (leaveConference id s) = held s := by simp [leaveConference]

@[simp] theorem held_removeChannel (ch : Channel) (s : State) : held (removeChannel ch s) = held s := by simp [removeChannel]

@[simp] theorem held_stopChannel (ch : Channel) (s : State) : held (stopChannel ch s) = held s := by simp [stopChannel]

@[simp] theorem held_closeDue (s : State) : held (closeDue s) = held s := by
  unfold closeDue
  (try dsimp only)
  repeat' (first
    | (simp; done)
    | (simp_all; done)
    | (apply held_checked; intros)
    | (apply held_onChannel; intros)
    | (apply held_onHandle; intros)
    | (apply held_unlessSuspended; intros)
    | (apply held_atHome; intros)
    | split
    | refine held_foldl' _ _ _ _ (fun _ _ => ?_) ?_
    | (simp [*]))

@[simp] theorem held_channelCloseBegin (e : Entry) (s : State) : held (channelCloseBegin e s) = held s := by simp [channelCloseBegin]

@[simp] theorem held_rebindB (ch : Channel) (c : SessionCopy) (p : BitVec 160) (s : State) : held (rebindB ch c p s) = held s := by simp [rebindB]

@[simp] theorem held_programBoundary (id : Nat) (s : State) : held (programBoundary id s) = held s := by unfold programBoundary; (repeat' split) <;> simp

@[simp] theorem held_modifyPlace (e : Entry) (ch : Channel) (s : State) : held (modifyPlace e ch s) = held s := by simp [modifyPlace]

@[simp] theorem held_channelModifyBegin (e : Entry) (s : State) : held (channelModifyBegin e s) = held s := by
  unfold channelModifyBegin
  (try dsimp only)
  repeat' (first
    | (simp; done)
    | (simp_all; done)
    | (apply held_checked; intros)
    | (apply held_onChannel; intros)
    | (apply held_onHandle; intros)
    | (apply held_unlessSuspended; intros)
    | (apply held_atHome; intros)
    | split
    | refine held_foldl' _ _ _ _ (fun _ _ => ?_) ?_
    | (simp [*]))

@[simp] theorem held_channelQueryBegin (e : Entry) (s : State) : held (channelQueryBegin e s) = held s := by unfold channelQueryBegin; (repeat' split) <;> simp

@[simp] theorem held_installKey (c : Cmd) (id : Nat) (k : Option SrtpContext) (s : State) : held (installKey c id k s) = held s := by simp [installKey]

@[simp] theorem held_keyHere (e : Entry) (ch : Channel) (block : List Byte) (s : State) : held (keyHere e ch block s) = held s := by simp [keyHere]

@[simp] theorem held_keyData (e : Entry) (block : List Byte) (s : State) : held (keyData e block s) = held s := by unfold keyData; (repeat' split) <;> simp

@[simp] theorem held_srtpKeySetBegin (e : Entry) (s : State) : held (srtpKeySetBegin e s) = held s := by
  unfold srtpKeySetBegin
  (try dsimp only)
  repeat' (first
    | (simp; done)
    | (simp_all; done)
    | (apply held_checked; intros)
    | (apply held_onChannel; intros)
    | (apply held_onHandle; intros)
    | (apply held_unlessSuspended; intros)
    | (apply held_atHome; intros)
    | split
    | refine held_foldl' _ _ _ _ (fun _ _ => ?_) ?_
    | (simp [*]))

/-! Voice -/

@[simp] theorem held_setConference (id : Nat) (f : Conference → Conference) (s : State) : held (setConference id f s) = held s := by simp [setConference]

@[simp] theorem held_mixBoundary (s : State) : held (mixBoundary s) = held s := by simp [mixBoundary]

@[simp] theorem held_contribute (ch : Channel) (level : Int) (samples : List Int) (s : State) : held (contribute ch level samples s) = held s := by unfold contribute; (repeat' split) <;> simp

@[simp] theorem held_silenceLeg (ch : Channel) (s : State) : held (silenceLeg ch s) = held s := by unfold silenceLeg; (repeat' split) <;> simp

@[simp] theorem held_onConference (e : Entry) (id : Nat) (here : Conference → State → State) (s : State)
    (hhere : ∀ x0 x1, held (here x0 x1) = held x1) : held (onConference e id here s) = held s := by
  unfold onConference; (repeat' split) <;> simp_all

@[simp] theorem held_createConference (e : Entry) (s : State) : held (createConference e s) = held s := by simp [createConference]

@[simp] theorem held_confPlace (e : Entry) (nodes : List Nat) (s : State) : held (confPlace e nodes s) = held s := by unfold confPlace; (repeat' split) <;> simp

@[simp] theorem held_confCreateBegin (e : Entry) (s : State) : held (confCreateBegin e s) = held s := by
  unfold confCreateBegin
  (try dsimp only)
  repeat' (first
    | (simp; done)
    | (simp_all; done)
    | (apply held_checked; intros)
    | (apply held_onChannel; intros)
    | (apply held_onConference; intros)
    | (apply held_onHandle; intros)
    | (apply held_unlessSuspended; intros)
    | (apply held_atHome; intros)
    | split
    | refine held_foldl' _ _ _ _ (fun _ _ => ?_) ?_
    | (simp [*]))

@[simp] theorem held_joinConference (e : Entry) (conf : Conference) (ch : Channel) (s : State) : held (joinConference e conf ch s) = held s := by simp [joinConference]

@[simp] theorem held_confAddHere (e : Entry) (conf : Conference) (ch : Channel) (s : State) : held (confAddHere e conf ch s) = held s := by unfold confAddHere; (repeat' split) <;> simp

@[simp] theorem held_startMove (ch : Channel) (target : Nat) (cause : Nat) (lost : Nat) (entry : Option Nat) (s : State) : held (startMove ch target cause lost entry s) = held s := by simp [startMove]

@[simp] theorem held_giveChannel (e : Entry) (node : Nat) (s : State) : held (giveChannel e node s) = held s := by unfold giveChannel; (repeat' split) <;> simp

@[simp] theorem held_askChannel (e : Entry) (conf : Conference) (nodes : List Nat) (s : State) : held (askChannel e conf nodes s) = held s := by unfold askChannel; (repeat' split) <;> simp

@[simp] theorem held_confAddLegAt (e : Entry) (conf : Conference) (s : State) : held (confAddLegAt e conf s) = held s := by unfold confAddLegAt; (repeat' split) <;> simp

@[simp] theorem held_confAddLegBegin (e : Entry) (s : State) : held (confAddLegBegin e s) = held s := by
  unfold confAddLegBegin
  (try dsimp only)
  repeat' (first
    | (simp; done)
    | (simp_all; done)
    | (apply held_checked; intros)
    | (apply held_onChannel; intros)
    | (apply held_onConference; intros)
    | (apply held_onHandle; intros)
    | (apply held_unlessSuspended; intros)
    | (apply held_atHome; intros)
    | split
    | refine held_foldl' _ _ _ _ (fun _ _ => ?_) ?_
    | (simp [*]))

@[simp] theorem held_confAddReply (e : Entry) (status : Byte) (result : Nat) (s : State) : held (confAddReply e status result s) = held s := by unfold confAddReply; (repeat' split) <;> simp

@[simp] theorem held_makeSingle (id : Nat) (s : State) : held (makeSingle id s) = held s := by simp [makeSingle]

@[simp] theorem held_confRemoveLegBegin (e : Entry) (s : State) : held (confRemoveLegBegin e s) = held s := by simp [confRemoveLegBegin]

@[simp] theorem held_confDestroyBegin (e : Entry) (s : State) : held (confDestroyBegin e s) = held s := by
  unfold confDestroyBegin
  (try dsimp only)
  repeat' (first
    | (simp; done)
    | (simp_all; done)
    | (apply held_checked; intros)
    | (apply held_onChannel; intros)
    | (apply held_onConference; intros)
    | (apply held_onHandle; intros)
    | (apply held_unlessSuspended; intros)
    | (apply held_atHome; intros)
    | split
    | refine held_foldl' _ _ _ _ (fun _ _ => ?_) ?_
    | (simp [*]))

@[simp] theorem held_toneGenerateBegin (e : Entry) (s : State) : held (toneGenerateBegin e s) = held s := by
  unfold toneGenerateBegin
  (try dsimp only)
  repeat' (first
    | (simp; done)
    | (simp_all; done)
    | (apply held_checked; intros)
    | (apply held_onChannel; intros)
    | (apply held_onHandle; intros)
    | (apply held_unlessSuspended; intros)
    | (apply held_atHome; intros)
    | split
    | refine held_foldl' _ _ _ _ (fun _ _ => ?_) ?_
    | (simp [*]))

@[simp] theorem held_startDigit (id : Nat) (l : Leg) (generated : Bool) (digit : Nat) (volume : Nat) (s : State) : held (startDigit id l generated digit volume s) = held s := by unfold startDigit; (repeat' split) <;> simp

@[simp] theorem held_carryDigit (id : Nat) (l : Leg) (digit : Nat) (volume : Nat) (s : State) : held (carryDigit id l digit volume s) = held s := by unfold carryDigit; (repeat' split) <;> simp

@[simp] theorem held_digitOver (id : Nat) (l : Leg) (digit : Nat) (s : State) : held (digitOver id l digit s) = held s := by unfold digitOver; (repeat' split) <;> simp

@[simp] theorem held_toneStops (id : Nat) (l : Leg) (s : State) : held (toneStops id l s) = held s := by unfold toneStops; (repeat' split) <;> simp

@[simp] theorem held_beginTone (id : Nat) (l : Leg) (g : ToneGenerator) (s : State) : held (beginTone id l g s) = held s := by unfold beginTone; (repeat' split) <;> simp

@[simp] theorem held_toneStarts (s : State) : held (toneStarts s) = held s := by
  unfold toneStarts
  (try dsimp only)
  repeat' (first
    | (simp; done)
    | (simp_all; done)
    | (apply held_checked; intros)
    | (apply held_onChannel; intros)
    | (apply held_onHandle; intros)
    | (apply held_unlessSuspended; intros)
    | (apply held_atHome; intros)
    | split
    | refine held_foldl' _ _ _ _ (fun _ _ => ?_) ?_
    | (simp [*]))

@[simp] theorem held_toneStopBegin (e : Entry) (s : State) : held (toneStopBegin e s) = held s := by
  unfold toneStopBegin
  (try dsimp only)
  repeat' (first
    | (simp; done)
    | (simp_all; done)
    | (apply held_checked; intros)
    | (apply held_onChannel; intros)
    | (apply held_onHandle; intros)
    | (apply held_unlessSuspended; intros)
    | (apply held_atHome; intros)
    | split
    | refine held_foldl' _ _ _ _ (fun _ _ => ?_) ?_
    | (simp [*]))

@[simp] theorem held_toneDetectSetBegin (e : Entry) (s : State) : held (toneDetectSetBegin e s) = held s := by
  unfold toneDetectSetBegin
  (try dsimp only)
  repeat' (first
    | (simp; done)
    | (simp_all; done)
    | (apply held_checked; intros)
    | (apply held_onChannel; intros)
    | (apply held_onHandle; intros)
    | (apply held_unlessSuspended; intros)
    | (apply held_atHome; intros)
    | split
    | refine held_foldl' _ _ _ _ (fun _ _ => ?_) ?_
    | (simp [*]))

@[simp] theorem held_detectBoundary (id : Nat) (l : Leg) (s : State) : held (detectBoundary id l s) = held s := by simp [detectBoundary]

@[simp] theorem held_toneAccepted (ch : Channel) (l : Leg) (r : ToneReading) (s : State) : held (toneAccepted ch l r s) = held s := by simp [toneAccepted]

@[simp] theorem held_toneFound (ch : Channel) (l : Leg) (r : ToneReading) (s : State) : held (toneFound ch l r s) = held s := by unfold toneFound; dsimp only; (repeat' split) <;> simp

@[simp] theorem held_toneGone (ch : Channel) (l : Leg) (user : Bool) (absentMs : Nat) (durationMs : Nat) (s : State) : held (toneGone ch l user absentMs durationMs s) = held s := by unfold toneGone; dsimp only; (repeat' split) <;> simp

@[simp] theorem held_faxFound (ch : Channel) (l : Leg) (r : FaxReading) (s : State) : held (faxFound ch l r s) = held s := by unfold faxFound; (repeat' split) <;> simp

@[simp] theorem held_telEnds (id : Nat) (l : Leg) (x : OpenEvent) (s : State) : held (telEnds id l x s) = held s := by simp [telEnds]

@[simp] theorem held_telBegins (id : Nat) (l : Leg) (x : OpenEvent) (s : State) : held (telBegins id l x s) = held s := by simp [telBegins]

@[simp] theorem held_telephoneIn (id : Nat) (l : Leg) (ts : Nat) (payload : List Byte) (s : State) : held (telephoneIn id l ts payload s) = held s := by unfold telephoneIn; dsimp only; (repeat' split) <;> simp

@[simp] theorem held_applySignal (id : Nat) (present : Bool) (s : State) (x : Signal) : held (applySignal id present s x) = held s := by unfold applySignal; (repeat' split) <;> simp

/-! Ports -/

@[simp] theorem held_raisePort (p : Nat) (cause : Nat) (s : State) : held (raisePort p cause s) = held s := by simp [raisePort]

@[simp] theorem held_portTo (p : Nat) (new : PortStateCode) (cause : Nat) (s : State) : held (portTo p new cause s) = held s := by simp [portTo]

@[simp] theorem held_linkChange (p : Nat) (f : State → State) (s : State) (hf : ∀ x0, held (f x0) = held x0) : held (linkChange p f s) = held s := by
  unfold linkChange; dsimp only; split <;> simp [hf]

@[simp] theorem held_startPort (p : Nat) (cause : Nat) (laneCause : Nat) (s : State) : held (startPort p cause laneCause s) = held s := by simp [startPort]

@[simp] theorem held_abortFrames (p : Nat) (s : State) : held (abortFrames p s) = held s := by simp [abortFrames]

@[simp] theorem held_portSetBegin (e : Entry) (s : State) : held (portSetBegin e s) = held s := by simp [portSetBegin]

@[simp] theorem held_portStatusBegin (e : Entry) (s : State) : held (portStatusBegin e s) = held s := by simp [portStatusBegin]

@[simp] theorem held_lockLost (p : Nat) (midFrame : Bool) (s : State) : held (lockLost p midFrame s) = held s := by simp [lockLost]

@[simp] theorem held_ptpPortSetBegin (e : Entry) (s : State) : held (ptpPortSetBegin e s) = held s := by simp [ptpPortSetBegin]

/-! Frames -/

@[simp] theorem held_authenticate (ch : Channel) (l : Leg) (f : RxFrame) (x : SrtpInput) (s : State) : held (authenticate ch l f x s).1 = held s := by unfold authenticate; dsimp only; (repeat' split) <;> simp

@[simp] theorem held_rtcpPart (id : Nat) (l : Leg) (s : State) (p : Nat × List Byte) : held (rtcpPart id l s p) = held s := by simp [rtcpPart]

@[simp] theorem held_noteAccepted (ch : Channel) (l : Leg) (s : State) : held (noteAccepted ch l s) = held s := by simp [noteAccepted]

@[simp] theorem held_acceptPacket (ch : Channel) (l : Leg) (d : Datagram) (s : State) : held (acceptPacket ch l d s) = held s := by simp [acceptPacket]

@[simp] theorem held_mediaIn (ch : Channel) (l : Leg) (r : Rtp) (payload : List Byte) (s : State) : held (mediaIn ch l r payload s) = held s := by unfold mediaIn; dsimp only; (repeat' split) <;> simp

@[simp] theorem held_rtpIn (ch : Channel) (l : Leg) (d : Datagram) (f : RxFrame) (s : State) : held (rtpIn ch l d f s) = held s := by unfold rtpIn; dsimp only; (repeat' split) <;> simp

@[simp] theorem held_rtcpIn (ch : Channel) (l : Leg) (d : Datagram) (f : RxFrame) (s : State) : held (rtcpIn ch l d f s) = held s := by unfold rtcpIn; dsimp only; (repeat' split) <;> simp

@[simp] theorem held_runningIn (h : Nat) (alias_ : Bool) (forwarded : Bool) (d : Datagram) (f : RxFrame) (s : State) : held (runningIn h alias_ forwarded d f s) = held s := by unfold runningIn; (repeat' split) <;> simp

@[simp] theorem held_homeLookup (d : Datagram) (f : RxFrame) (s : State) : held (homeLookup d f s) = held s := by unfold homeLookup; (repeat' split) <;> simp

@[simp] theorem held_lookupFrame (d : Datagram) (f : RxFrame) (s : State) : held (lookupFrame d f s) = held s := by simp [lookupFrame]

@[simp] theorem held_ptpServo (i : Nat) (s : State) : held (ptpServo i s) = held s := by unfold ptpServo; dsimp only; (repeat' split) <;> simp

@[simp] theorem held_forwardHere (c : PtpCopy) (except : Nat) (s : State) : held (forwardHere c except s) = held s := by simp [forwardHere]

@[simp] theorem held_ptpIn (p : Nat) (transport : Nat) (unicast : Bool) (m : List Byte) (offset : Nat) (b : List Byte) (s : State) : held (ptpIn p transport unicast m offset b s) = held s := by simp [ptpIn]

@[simp] theorem held_countWhole (p : Nat) (b : List Byte) (s : State) : held (countWhole p b s) = held s := by simp [countWhole]

@[simp] theorem held_mediaPath (k : StationKey) (p : Nat) (d : Datagram) (f : RxFrame) (s : State) : held (mediaPath k p d f s) = held s := by simp [mediaPath]

@[simp] theorem held_networkPath (p : Nat) (b : List Byte) (t : Tags) (f : RxFrame) (s : State) : held (networkPath p b t f s) = held s := by unfold networkPath; dsimp only; (repeat' split) <;> simp

@[simp] theorem held_receive (p : Nat) (f : RxFrame) (s : State) : held (receive p f s) = held s := by unfold receive; dsimp only; (repeat' split) <;> simp

/-! Moves -/

@[simp] theorem held_raiseMoved (id : Nat) (node : Nat) (engine : Nat) (slot : Nat) (r : MoveRecord) (s : State) : held (raiseMoved id node engine slot r s) = held s := by simp [raiseMoved]

@[simp] theorem held_settleMove (id : Nat) (s : State) : held (settleMove id s) = held s := by unfold settleMove; (repeat' split) <;> simp

@[simp] theorem held_concealLeg (ch : Channel) (l : Leg) (frame : Nat) (s : State) : held (concealLeg ch l frame s) = held s := by simp [concealLeg]

@[simp] theorem held_loseFrame (id : Nat) (frame : Nat) (engine : Nat) (s : State) : held (loseFrame id frame engine s) = held s := by unfold loseFrame; (repeat' split) <;> simp

@[simp] theorem held_pushTask (engine : Nat) (t : Task) (s : State) : held (pushTask engine t s) = held s := by simp [pushTask]

@[simp] theorem held_readyFrame (ch : Channel) (s : State) : held (readyFrame ch s) = held s := by simp [readyFrame]

@[simp] theorem held_readyTransient (engine : Nat) (t : Task) (s : State) : held (readyTransient engine t s) = held s := by simp [readyTransient]

@[simp] theorem held_readyRestore (id : Nat) (engine : Nat) (frame : Nat) (s : State) : held (readyRestore id engine frame s) = held s := by simp [readyRestore]

@[simp] theorem held_placeHere (ch : Channel) (engine : Nat) (cause : Nat) (lost : Nat) (restore : Bool) (s : State) : held (placeHere ch engine cause lost restore s) = held s := by simp [placeHere]

@[simp] theorem held_suspend (ch : Channel) (s : State) : held (suspend ch s) = held s := by simp [suspend]

@[simp] theorem held_copyMove (ch : Channel) (m : OutMove) (s : State) : held (copyMove ch m s) = held s := by simp [copyMove]

@[simp] theorem held_moveRetired (ch : Channel) (m : OutMove) (s : State) : held (moveRetired ch m s) = held s := by simp [moveRetired]

@[simp] theorem held_placeRetired (ch : Channel) (lost : Nat) (restore : Bool) (s : State) : held (placeRetired ch lost restore s).1 = held s := by unfold placeRetired; (repeat' split) <;> simp

@[simp] theorem held_placeAll (en : Engine) (chans : List Channel) (s : State) : held (placeAll en chans s) = held s := by
  unfold placeAll
  dsimp only
  rw [held_foldl _ _ _ (by simp)]
  refine (held_foldl_pair _ _ _ (fun a x => ?_)).trans rfl
  split <;> simp

@[simp] theorem held_endTests (engine : Nat) (failing : Nat) (s : State) : held (endTests engine failing s) = held s := by
  unfold endTests
  (try dsimp only)
  repeat' (first
    | (simp; done)
    | (simp_all; done)
    | (apply held_checked; intros)
    | (apply held_onChannel; intros)
    | (apply held_onHandle; intros)
    | (apply held_unlessSuspended; intros)
    | (apply held_atHome; intros)
    | split
    | refine held_foldl' _ _ _ _ (fun _ _ => ?_) ?_
    | (simp [*]))

@[simp] theorem held_stripEngine (engine : Nat) (s : State) : held (stripEngine engine s) = held s := by
  unfold stripEngine
  (try dsimp only)
  repeat' (first
    | (simp; done)
    | (simp_all; done)
    | (apply held_checked; intros)
    | (apply held_onChannel; intros)
    | (apply held_onHandle; intros)
    | (apply held_unlessSuspended; intros)
    | (apply held_atHome; intros)
    | split
    | refine held_foldl' _ _ _ _ (fun _ _ => ?_) ?_
    | (simp [*]))

@[simp] theorem held_retireEngine (engine : Nat) (cause : Nat) (s : State) : held (retireEngine engine cause s) = held s := by simp [retireEngine]

@[simp] theorem held_retrySuspended (s : State) : held (retrySuspended s) = held s := by
  unfold retrySuspended
  (try dsimp only)
  repeat' (first
    | (simp; done)
    | (simp_all; done)
    | (apply held_checked; intros)
    | (apply held_onChannel; intros)
    | (apply held_onHandle; intros)
    | (apply held_unlessSuspended; intros)
    | (apply held_atHome; intros)
    | split
    | refine held_foldl' _ _ _ _ (fun _ _ => ?_) ?_
    | (simp [*]))

@[simp] theorem held_settleRetires (s : State) : held (settleRetires s) = held s := by
  unfold settleRetires
  (try dsimp only)
  repeat' (first
    | (simp; done)
    | (simp_all; done)
    | (apply held_checked; intros)
    | (apply held_onChannel; intros)
    | (apply held_onHandle; intros)
    | (apply held_unlessSuspended; intros)
    | (apply held_atHome; intros)
    | split
    | refine held_foldl' _ _ _ _ (fun _ _ => ?_) ?_
    | (simp [*]))

@[simp] theorem held_endMove (m : OutMove) (status : Byte) (s : State) : held (endMove m status s) = held s := by unfold endMove; (repeat' split) <;> simp

@[simp] theorem held_dropMove (ch : Channel) (m : OutMove) (status : Byte) (s : State) : held (dropMove ch m status s) = held s := by unfold dropMove; dsimp only; (repeat' split) <;> simp

@[simp] theorem held_failMove (ch : Channel) (m : OutMove) (s : State) : held (failMove ch m s) = held s := by simp [failMove]

@[simp] theorem held_moveAdmitted (ch : Channel) (m : OutMove) (engine : Nat) (slot : Nat) (s : State) : held (moveAdmitted ch m engine slot s) = held s := by simp [moveAdmitted]

@[simp] theorem held_copyIfDue (id : Nat) (s : State) : held (copyIfDue id s) = held s := by unfold copyIfDue; (repeat' split) <;> simp

@[simp] theorem held_emptyConference (ch : Channel) (s : State) : held (emptyConference ch s) = held s := by simp [emptyConference]

@[simp] theorem held_commitMove (ch : Channel) (m : OutMove) (s : State) : held (commitMove ch m s) = held s := by unfold commitMove; dsimp only; (repeat' split) <;> simp

@[simp] theorem held_copyAcked (id : Nat) (s : State) : held (copyAcked id s) = held s := by unfold copyAcked; (repeat' split) <;> simp

/-! Lanes -/

@[simp] theorem held_startTLane (cause : Nat) (l : Nat) (s : State) : held (startTLane cause l s) = held s := by simp [startTLane]

@[simp] theorem held_linkStart (k : Nat) (cause : Nat) (s : State) : held (linkStart k cause s) = held s := by simp [linkStart]

@[simp] theorem held_linkStop (k : Nat) (cause : Nat) (s : State) : held (linkStop k cause s) = held s := by simp [linkStop]

@[simp] theorem held_linksApply (cause : Nat) (s : State) : held (linksApply cause s) = held s := by
  unfold linksApply
  (try dsimp only)
  repeat' (first
    | (simp; done)
    | (simp_all; done)
    | (apply held_checked; intros)
    | (apply held_onChannel; intros)
    | (apply held_onHandle; intros)
    | (apply held_unlessSuspended; intros)
    | (apply held_atHome; intros)
    | split
    | refine held_foldl' _ _ _ _ (fun _ _ => ?_) ?_
    | (simp [*]))

@[simp] theorem held_cdrLost (l : Nat) (s : State) : held (cdrLost l s) = held s := by simp [cdrLost]

@[simp] theorem held_mapFault (k : Nat) (l : Nat) (s : State) : held (mapFault k l s) = held s := by
  unfold mapFault
  (try dsimp only)
  repeat' (first
    | (simp; done)
    | (simp_all; done)
    | (apply held_checked; intros)
    | (apply held_onChannel; intros)
    | (apply held_onHandle; intros)
    | (apply held_unlessSuspended; intros)
    | (apply held_atHome; intros)
    | split
    | refine held_foldl' _ _ _ _ (fun _ _ => ?_) ?_
    | (simp [*]))

@[simp] theorem held_finishLane (e : Entry) (l : Nat) (s : State) : held (finishLane e l s) = held s := by simp [finishLane]

@[simp] theorem held_restartLane (l : Nat) (s : State) : held (restartLane l s) = held s := by simp [restartLane]

@[simp] theorem held_laneSetBegin (e : Entry) (s : State) : held (laneSetBegin e s) = held s := by simp [laneSetBegin]

@[simp] theorem held_laneEqTableSetBegin (e : Entry) (s : State) : held (laneEqTableSetBegin e s) = held s := by simp [laneEqTableSetBegin]

@[simp] theorem held_eqTableDone (e : Entry) (s : State) : held (eqTableDone e s) = held s := by simp [eqTableDone]

@[simp] theorem held_eyeScanBegin (e : Entry) (s : State) : held (eyeScanBegin e s) = held s := by simp [eyeScanBegin]

@[simp] theorem held_scanHeader (x : EyeScan) (done : Nat) (aborted : Bool) (s : State) : held (scanHeader x done aborted s) = held s := by simp [scanHeader]

@[simp] theorem held_dropScan (x : EyeScan) (s : State) : held (dropScan x s) = held s := by simp [dropScan]

@[simp] theorem held_testChanged (l : Nat) (s : State) : held (testChanged l s) = held s := by
  unfold testChanged; dsimp only; (repeat' split) <;> simp

@[simp] theorem held_laneLoopbackBegin (e : Entry) (s : State) : held (laneLoopbackBegin e s) = held s := by simp [laneLoopbackBegin]

@[simp] theorem held_prbsSetBegin (e : Entry) (s : State) : held (prbsSetBegin e s) = held s := by simp [prbsSetBegin]

@[simp] theorem held_prbsDraw (l : Nat) (s : State) : held (prbsDraw l s) = held s := by simp [prbsDraw]

@[simp] theorem held_prbsCheckBegin (e : Entry) (s : State) : held (prbsCheckBegin e s) = held s := by simp [prbsCheckBegin]

@[simp] theorem held_injectBit (l : Nat) (s : State) : held (injectBit l s) = held s := by simp [injectBit]

@[simp] theorem held_errorInjectBegin (e : Entry) (s : State) : held (errorInjectBegin e s) = held s := by simp [errorInjectBegin]

/-! Tylane -/

@[simp] theorem held_ackFrames (k : Nat) (ack : BitVec 16) (s : State) : held (ackFrames k ack s) = held s := by simp [ackFrames]

@[simp] theorem held_retrain (k : Nat) (s : State) : held (retrain k s) = held s := by simp [retrain]

@[simp] theorem held_replay (k : Nat) (s : State) : held (replay k s) = held s := by simp [replay]

@[simp] theorem held_linkFlush (k : Nat) (s : State) : held (linkFlush k s) = held s := by simp [linkFlush]

@[simp] theorem held_ackPart (k : Nat) (h : TyHeader) (s : State) : held (ackPart k h s) = held s := by simp [ackPart]

@[simp] theorem held_linkReceive (k : Nat) (h : TyHeader) (s : State) : held (linkReceive k h s).1 = held s := by unfold linkReceive; dsimp only; (repeat' split) <;> simp

@[simp] theorem held_wiringError (k : Nat) (s : State) : held (wiringError k s) = held s := by simp [wiringError]

@[simp] theorem held_linkWidth (k : Nat) (width : Nat) (half : Nat) (s : State) : held (linkWidth k width half s) = held s := by simp [linkWidth]

@[simp] theorem held_bootRequest (k : Nat) (s : State) : held (bootRequest k s) = held s := by simp [bootRequest]

@[simp] theorem held_linkUp (k : Nat) (delay : Nat) (s : State) : held (linkUp k delay s) = held s := by simp [linkUp]

@[simp] theorem held_raiseNarrowed (k : Nat) (width : Nat) (half : Nat) (lane : Nat) (s : State) : held (raiseNarrowed k width half lane s) = held s := by simp [raiseNarrowed]

@[simp] theorem held_narrowLink (k : Nat) (lane : Nat) (s : State) : held (narrowLink k lane s) = held s := by simp [narrowLink]

@[simp] theorem held_raiseUnitRetired (unitType : Nat) (cause : Nat) (index : Nat) (repaired : Nat) (s : State) : held (raiseUnitRetired unitType cause index repaired s) = held s := by simp [raiseUnitRetired]

@[simp] theorem held_raiseReinstated (unitType : Nat) (index : Nat) (s : State) : held (raiseReinstated unitType index s) = held s := by simp [raiseReinstated]

@[simp] theorem held_retireLane (lane : Nat) (cause : Nat) (ask : Bool) (s : State) : held (retireLane lane cause ask s) = held s := by simp [retireLane]

@[simp] theorem held_laneFault (lane : Nat) (cause : Nat) (s : State) : held (laneFault lane cause s) = held s := by simp [laneFault]

@[simp] theorem held_narrowRequest (k : Nat) (lane : Nat) (s : State) : held (narrowRequest k lane s) = held s := by simp [narrowRequest]

@[simp] theorem held_homeFrame (f : RxFrame) (s : State) : held (homeFrame f s) = held s := by unfold homeFrame; dsimp only; (repeat' split) <;> simp

@[simp] theorem held_runningFrame (handle : Nat) (forwarded : Bool) (f : RxFrame) (s : State) : held (runningFrame handle forwarded f s) = held s := by unfold runningFrame; dsimp only; (repeat' split) <;> simp

@[simp] theorem held_mediaFrame (m : TyMedia) (s : State) : held (mediaFrame m s) = held s := by unfold mediaFrame; (repeat' split) <;> simp

/-! Cluster -/

@[simp] theorem held_raiseMember (epoch : Nat) (members : BitVec 16) (node : Nat) (change : Nat) (lost : Nat) (groups : Nat) (s : State) : held (raiseMember epoch members node change lost groups s) = held s := by simp [raiseMember]

@[simp] theorem held_raiseKing (epoch : Nat) (king : Nat) (previous : Nat) (s : State) : held (raiseKing epoch king previous s) = held s := by simp [raiseKing]

@[simp] theorem held_clearSessions (s : State) : held (clearSessions s) = held s := by simp [clearSessions]

@[simp] theorem held_outsideView (s : State) : held (outsideView s) = held s := by unfold outsideView; (repeat' split) <;> simp

@[simp] theorem held_nodeLost (old : List Nat) (n : Nat) (s : State) : held (nodeLost old n s) = held s := by simp [nodeLost]

@[simp] theorem held_installView (v : ClusterView) (s : State) : held (installView v s) = held s := by simp [installView]

@[simp] theorem held_publish (v : ClusterView) (s : State) : held (publish v s) = held s := by
  unfold publish
  (try dsimp only)
  repeat' (first
    | (simp; done)
    | (simp_all; done)
    | (apply held_checked; intros)
    | (apply held_onChannel; intros)
    | (apply held_onHandle; intros)
    | (apply held_unlessSuspended; intros)
    | (apply held_atHome; intros)
    | split
    | refine held_foldl' _ _ _ _ (fun _ _ => ?_) ?_
    | (simp [*]))

@[simp] theorem held_sendView (s : State) : held (sendView s) = held s := by
  unfold sendView; split <;> simp

@[simp] theorem held_takeOver (v : ClusterView) (s : State) : held (takeOver v s) = held s := by
  unfold takeOver; (repeat' split) <;> simp

@[simp] theorem held_kingUpdate (s : State) : held (kingUpdate s) = held s := by simp [kingUpdate]

@[simp] theorem held_setPeer (n : Nat) (f : Peer → Peer) (s : State) : held (setPeer n f s) = held s := by simp [setPeer]

@[simp] theorem held_heartbeat (n : Nat) (size : Nat) (mode : Nat) (sameVersion : Bool) (epoch : Nat) (freeCoins : Int) (s : State) : held (heartbeat n size mode sameVersion epoch freeCoins s) = held s := by simp [heartbeat]

@[simp] theorem held_moveLost (n : Nat) (s : State) (ch : Channel) : held (moveLost n s ch) = held s := by unfold moveLost; (repeat' split) <;> simp

@[simp] theorem held_unheard (n : Nat) (s : State) : held (unheard n s) = held s := by
  unfold unheard
  (try dsimp only)
  repeat' (first
    | (simp; done)
    | (simp_all; done)
    | (apply held_checked; intros)
    | (apply held_onChannel; intros)
    | (apply held_onHandle; intros)
    | (apply held_unlessSuspended; intros)
    | (apply held_atHome; intros)
    | split
    | refine held_foldl' _ _ _ _ (fun _ _ => ?_) ?_
    | (simp [*]))

@[simp] theorem held_viewIn (v : ClusterView) (s : State) : held (viewIn v s) = held s := by simp [viewIn]

@[simp] theorem held_alone (s : State) : held (alone s) = held s := by simp [alone]

@[simp] theorem held_setSize (size : Nat) (s : State) : held (setSize size s) = held s := by simp [setSize]

@[simp] theorem held_clusterJoinBegin (e : Entry) (s : State) : held (clusterJoinBegin e s) = held s := by simp [clusterJoinBegin]

@[simp] theorem held_clusterLeaveBegin (e : Entry) (s : State) : held (clusterLeaveBegin e s) = held s := by
  unfold clusterLeaveBegin
  apply held_checked
  intro x
  (repeat' split) <;> (try simp)

@[simp] theorem held_clusterStatusBegin (e : Entry) (s : State) : held (clusterStatusBegin e s) = held s := by simp [clusterStatusBegin]

@[simp] theorem held_migrateHere (e : Entry) (ch : Channel) (s : State) : held (migrateHere e ch s) = held s := by unfold migrateHere; dsimp only; (repeat' split) <;> simp

@[simp] theorem held_arriveInConference (x : ConferencePlace) (s : State) : held (arriveInConference x s) = held s := by simp [arriveInConference]

@[simp] theorem held_reserveArrival (a : Arrival) (engine : Nat) (s : State) : held (reserveArrival a engine s) = held s := by unfold reserveArrival; (repeat' split) <;> simp

@[simp] theorem held_admitMove (a : Arrival) (s : State) : held (admitMove a s) = held s := by unfold admitMove; dsimp only; (repeat' split) <;> simp

@[simp] theorem held_admitArrivals (s : State) : held (admitArrivals s) = held s := by simp [admitArrivals]

@[simp] theorem held_moveCopied (node : Nat) (copy : Channel) (s : State) : held (moveCopied node copy s) = held s := by unfold moveCopied; (repeat' split) <;> simp

@[simp] theorem held_commitArrival (ch : Channel) (oldEngine : Nat) (lost : Nat) (s : State) : held (commitArrival ch oldEngine lost s) = held s := by simp [commitArrival]

@[simp] theorem held_channelMigrateBegin (e : Entry) (s : State) : held (channelMigrateBegin e s) = held s := by simp [channelMigrateBegin]

@[simp] theorem held_abortMigrate (e : Entry) (s : State) : held (abortMigrate e s) = held s := by unfold abortMigrate; (repeat' split) <;> simp

@[simp] theorem held_moveAnswer (id : Nat) (answer : Option (Nat × Nat)) (s : State) : held (moveAnswer id answer s) = held s := by unfold moveAnswer; (repeat' split) <;> simp

/-! Tasks -/

@[simp] theorem held_afterOverrun (t : Task) (engine : Nat) (s : State) : held (afterOverrun t engine s) = held s := by unfold afterOverrun; dsimp only; (repeat' split) <;> simp

@[simp] theorem held_sendUdptl (ch : Channel) (l : Leg) (indicator : Bool) (ifp : List Byte) (frame : Nat) (s : State) : held (sendUdptl ch l indicator ifp frame s) = held s := by simp [sendUdptl]

@[simp] theorem held_sendBuilt (id : Nat) (frame : Nat) (s : State) (p : BuiltPacket) : held (sendBuilt id frame s p) = held s := by unfold sendBuilt; (repeat' split) <;> simp

@[simp] theorem held_acceptFrame (t : Task) (report : TaskReport) (s : State) : held (acceptFrame t report s) = held s := by unfold acceptFrame; (repeat' split) <;> simp

@[simp] theorem held_freeTask (t : Task) (s : State) : held (freeTask t s) = held s := by simp [freeTask]

@[simp] theorem held_taskOver (t : Task) (engine : Nat) (s : State) : held (taskOver t engine s) = held s := by simp [taskOver]

@[simp] theorem held_placeRetry (t : Task) (engine : Nat) (s : State) : held (placeRetry t engine s) = held s := by simp [placeRetry]

@[simp] theorem held_retryTask (t : Task) (engine : Nat) (s : State) : held (retryTask t engine s) = held s := by unfold retryTask; (repeat' split) <;> simp

@[simp] theorem held_engineFault (engine : Nat) (cause : Nat) (address : Nat) (s : State) : held (engineFault engine cause address s) = held s := by unfold engineFault; dsimp only; (repeat' split) <;> simp

@[simp] theorem held_testIteration (job : TestJob) (passed : Bool) (failing : Nat) (s : State) : held (testIteration job passed failing s) = held s := by unfold testIteration; (repeat' split) <;> simp

@[simp] theorem held_testSliceOver (job : TestJob) (result : SliceResult) (s : State) : held (testSliceOver job result s) = held s := by unfold testSliceOver; (repeat' split) <;> simp

@[simp] theorem held_sliceResult (engine : Nat) (result : SliceResult) (s : State) : held (sliceResult engine result s) = held s := by unfold sliceResult; (repeat' split) <;> simp

/-! Repairs -/

@[simp] theorem held_wearCopy (res : Nat) (n : Nat) (s : State) : held (wearCopy res n s) = held s := by simp [wearCopy]

@[simp] theorem held_repairTillRow (row : Nat) (address : Nat) (s : State) : held (repairTillRow row address s) = held s := by simp [repairTillRow]

@[simp] theorem held_repairVaultRow (row : Nat) (address : Nat) (repairLeft : Bool) (s : State) : held (repairVaultRow row address repairLeft s) = held s := by simp [repairVaultRow]

@[simp] theorem held_retireBegin (e : Entry) (s : State) : held (retireBegin e s) = held s := by simp [retireBegin]

@[simp] theorem held_reinstateLane (l : Nat) (s : State) : held (reinstateLane l s) = held s := by simp [reinstateLane]

@[simp] theorem held_reinstateEngine (n : Nat) (s : State) : held (reinstateEngine n s) = held s := by simp [reinstateEngine]

@[simp] theorem held_reinstateBegin (e : Entry) (s : State) : held (reinstateBegin e s) = held s := by simp [reinstateBegin]

@[simp] theorem held_retirementMapGetBegin (e : Entry) (s : State) : held (retirementMapGetBegin e s) = held s := by simp [retirementMapGetBegin]

@[simp] theorem held_faultLogReadBegin (e : Entry) (s : State) : held (faultLogReadBegin e s) = held s := by simp [faultLogReadBegin]

/-! Device -/

@[simp] theorem held_nopBegin (e : Entry) (s : State) : held (nopBegin e s) = held s := by simp [nopBegin]

@[simp] theorem held_identifyBegin (e : Entry) (s : State) : held (identifyBegin e s) = held s := by simp [identifyBegin]

@[simp] theorem held_versionGetBegin (e : Entry) (s : State) : held (versionGetBegin e s) = held s := by simp [versionGetBegin]

@[simp] theorem held_eqSteerSetBegin (e : Entry) (s : State) : held (eqSteerSetBegin e s) = held s := by simp [eqSteerSetBegin]

@[simp] theorem held_diagWindowMapBegin (e : Entry) (s : State) : held (diagWindowMapBegin e s) = held s := by simp [diagWindowMapBegin]

@[simp] theorem held_counterReadBegin (e : Entry) (s : State) : held (counterReadBegin e s) = held s := by simp [counterReadBegin]

@[simp] theorem held_telemetryReadBegin (e : Entry) (s : State) : held (telemetryReadBegin e s) = held s := by simp [telemetryReadBegin]

/-! Settings -/

@[simp] theorem held_requestPage (s : State) : held (requestPage s) = held s := by simp [requestPage]

@[simp] theorem held_startSave (entry : Option Nat) (area : Nat) (s : State) : held (startSave entry area s) = held s := by simp [startSave]

@[simp] theorem held_settingsSaveBegin (e : Entry) (s : State) : held (settingsSaveBegin e s) = held s := by
  unfold settingsSaveBegin
  (try dsimp only)
  repeat' (first
    | (simp; done)
    | (simp_all; done)
    | (apply held_checked; intros)
    | (apply held_onChannel; intros)
    | (apply held_onHandle; intros)
    | (apply held_unlessSuspended; intros)
    | (apply held_atHome; intros)
    | split
    | refine held_foldl' _ _ _ _ (fun _ _ => ?_) ?_
    | (simp [*]))

@[simp] theorem held_setArea (i : Nat) (f : Area → Area) (s : State) : held (setArea i f s) = held s := by simp [setArea]

@[simp] theorem held_spoilArea (s : State) : held (spoilArea s) = held s := by unfold spoilArea; (repeat' split) <;> simp

@[simp] theorem held_dropSave (s : State) : held (dropSave s) = held s := by simp [dropSave]

@[simp] theorem held_raiseSaved (gen : Nat) (area : Nat) (s : State) : held (raiseSaved gen area s) = held s := by simp [raiseSaved]

@[simp] theorem held_saveDone (j : SaveJob) (s : State) : held (saveDone j s) = held s := by unfold saveDone; dsimp only; (repeat' split) <;> simp

@[simp] theorem held_settingsFlashDone (verified : Bool) (s : State) : held (settingsFlashDone verified s) = held s := by unfold settingsFlashDone; dsimp only; (repeat' split) <;> simp

@[simp] theorem held_abortSave (e : Entry) (s : State) : held (abortSave e s).1 = held s := by unfold abortSave; dsimp only; (repeat' split) <;> simp

@[simp] theorem held_settingsStatusBegin (e : Entry) (s : State) : held (settingsStatusBegin e s) = held s := by simp [settingsStatusBegin]

@[simp] theorem held_applyStatics (old : List StaticStation) (new : List StaticStation) (s : State) : held (applyStatics old new s) = held s := by simp [applyStatics]

@[simp] theorem held_applyPort (old : PortCfg) (p : Nat) (s : State) : held (applyPort old p s) = held s := by simp [applyPort]

@[simp] theorem held_applyLane (old : LaneCfg) (l : Nat) (s : State) : held (applyLane old l s) = held s := by simp [applyLane]

@[simp] theorem held_applyLaunch (old : LaunchCfg) (i : Nat) (s : State) : held (applyLaunch old i s) = held s := by simp [applyLaunch]

@[simp] theorem held_applySize (new : Nat) (s : State) : held (applySize new s) = held s := by unfold applySize; (repeat' split) <;> simp

@[simp] theorem held_applySettings (new : Settings) (s : State) : held (applySettings new s) = held s := by simp [applySettings]

@[simp] theorem held_replaceSettings (e : Entry) (new : Settings) (s : State) : held (replaceSettings e new s) = held s := by simp [replaceSettings]

@[simp] theorem held_settingsRevertBegin (e : Entry) (s : State) : held (settingsRevertBegin e s) = held s := by
  unfold settingsRevertBegin
  (try dsimp only)
  repeat' (first
    | (simp; done)
    | (simp_all; done)
    | (apply held_checked; intros)
    | (apply held_onChannel; intros)
    | (apply held_onHandle; intros)
    | (apply held_unlessSuspended; intros)
    | (apply held_atHome; intros)
    | split
    | refine held_foldl' _ _ _ _ (fun _ _ => ?_) ?_
    | (simp [*]))

@[simp] theorem held_settingsFactoryBegin (e : Entry) (s : State) : held (settingsFactoryBegin e s) = held s := by simp [settingsFactoryBegin]

@[simp] theorem held_archiveAreas (f : Area → Bool) (s : State) : held (archiveAreas f s) = held s := by simp [archiveAreas]

@[simp] theorem held_raiseLoaded (gen : Nat) (area : Nat) (cause : Nat) (s : State) : held (raiseLoaded gen area cause s) = held s := by simp [raiseLoaded]

@[simp] theorem held_loadSettings (s : State) : held (loadSettings s) = held s := by unfold loadSettings; dsimp only; (repeat' split) <;> simp

@[simp] theorem held_raiseReverted (w : Nat) (base : Nat) (s : State) : held (raiseReverted w base s) = held s := by simp [raiseReverted]

@[simp] theorem held_bootSettings (s : State) : held (bootSettings s) = held s := by unfold bootSettings; dsimp only; (repeat' split) <;> simp

/-! Reset -/

@[simp] theorem held_bankTime (new : Mode) (s : State) : held (bankTime new s) = held s := by unfold bankTime; (repeat' split) <;> simp

@[simp] theorem held_removeTests (s : State) : held (removeTests s) = held s := by simp [removeTests]

@[simp] theorem held_leaveDiagnostic (s : State) : held (leaveDiagnostic s) = held s := by
  unfold leaveDiagnostic
  (try dsimp only)
  repeat' (first
    | (simp; done)
    | (simp_all; done)
    | (apply held_checked; intros)
    | (apply held_onChannel; intros)
    | (apply held_onHandle; intros)
    | (apply held_unlessSuspended; intros)
    | (apply held_atHome; intros)
    | (apply held_linkChange; intros)
    | split
    | refine held_foldl' _ _ _ _ (fun _ _ => ?_) ?_
    | (simp [*]))

@[simp] theorem held_raiseMode (cause : Nat) (s : State) : held (raiseMode cause s) = held s := by simp [raiseMode]

@[simp] theorem held_stopUnits (s : State) : held (stopUnits s) = held s := by simp [stopUnits]

@[simp] theorem held_haltMailbox (s : State) : held (haltMailbox s) = held s := by unfold haltMailbox; (repeat' split) <;> simp

@[simp] theorem held_stopEngines (s : State) : held (stopEngines s) = held s := by simp [stopEngines]

@[simp] theorem held_flushCrossings (room : Nat) (s : State) : held (flushCrossings room s) = held s := by simp [flushCrossings]

@[simp] theorem held_clearEndpoint (keepLink : Bool) (s : State) : held (clearEndpoint keepLink s) = held s := by simp [clearEndpoint]

@[simp] theorem held_blockRequest (b : Nat) (s : State) : held (blockRequest b s) = held s := by simp [blockRequest]

@[simp] theorem held_blockApply (x : BlockReset) (timedOut : Bool) (s : State) : held (blockApply x timedOut s).1 = held s := by unfold blockApply; dsimp only; (repeat' split) <;> simp

@[simp] theorem held_dropParked (b : Nat) (s : State) : held (dropParked b s).1 = held s := by unfold dropParked; (repeat' split) <;> simp

@[simp] theorem held_blockReturn (b : Nat) (s : State) : held (blockReturn b s).1 = held s := by unfold blockReturn; (repeat' split) <;> simp

@[simp] theorem held_requestBlock (b : Nat) (origin : BlockOrigin) (timeoutNs : Nat) (entry : Option Nat) (s : State) : held (requestBlock b origin timeoutNs entry s) = held s := by simp [requestBlock]

@[simp] theorem held_setBlock (b : Nat) (f : BlockReset → BlockReset) (s : State) : held (setBlock b f s) = held s := by simp [setBlock]

@[simp] theorem held_raiseBlockDone (x : BlockReset) (s : State) : held (raiseBlockDone x s) = held s := by simp [raiseBlockDone]

/-! Firmware -/

@[simp] theorem held_setSlot (n : Nat) (f : Slot → Slot) (s : State) : held (setSlot n f s) = held s := by simp [setSlot]

@[simp] theorem held_stageHeader (offset : Nat) (data : List Byte) (s : State) : held (stageHeader offset data s) = held s := rfl

@[simp] theorem held_requestImage (entry : Nat) (size : Nat) (s : State) : held (requestImage entry size s) = held s := by simp [requestImage]

@[simp] theorem held_startJob (j : ImageJob) (s : State) : held (startJob j s) = held s := by simp [startJob]

@[simp] theorem held_downloadData (e : Entry) (data : List Byte) (s : State) : held (downloadData e data s) = held s := by
  unfold downloadData
  dsimp only
  split
  · split
    · rw [held_startJob, held_stageHeader, held_ite]; simp only [held_upd, held_mk, ite_self]
    · rw [held_finish, held_stageHeader, held_ite]; simp only [held_upd, held_mk, ite_self]
  · split
    · rw [held_finish, held_upd, held_mk]
    · rw [held_startJob, held_ite, held_count, held_upd, held_mk, ite_self]

@[simp] theorem held_imageDownloadBegin (e : Entry) (s : State) : held (imageDownloadBegin e s) = held s := by
  unfold imageDownloadBegin
  (try dsimp only)
  repeat' (first
    | (simp; done)
    | (simp_all; done)
    | (apply held_checked; intros)
    | (apply held_onChannel; intros)
    | (apply held_onHandle; intros)
    | (apply held_unlessSuspended; intros)
    | (apply held_atHome; intros)
    | split
    | refine held_foldl' _ _ _ _ (fun _ _ => ?_) ?_
    | (simp [*]))

@[simp] theorem held_rejectImage (e : Entry) (reason : Nat) (s : State) : held (rejectImage e reason s) = held s := by simp [rejectImage]

@[simp] theorem held_programHeader (e : Entry) (slot : Nat) (h : List Byte) (s : State) : held (programHeader e slot h s) = held s := by simp [programHeader]

@[simp] theorem held_imageVerifyBegin (e : Entry) (s : State) : held (imageVerifyBegin e s) = held s := by simp [imageVerifyBegin]

@[simp] theorem held_jobDone (e : Entry) (j : ImageJob) (s : State) : held (jobDone e j s) = held s := by simp [jobDone]

@[simp] theorem held_spoilSlot (entry : Nat) (s : State) : held (spoilSlot entry s) = held s := by unfold spoilSlot; (repeat' split) <;> simp

@[simp] theorem held_dropJob (entry : Nat) (s : State) : held (dropJob entry s) = held s := by simp [dropJob]

@[simp] theorem held_imageFlashDone (entry : Nat) (verified : Bool) (s : State) : held (imageFlashDone entry verified s) = held s := by unfold imageFlashDone; (repeat' split) <;> simp

@[simp] theorem held_imageConfirmBegin (e : Entry) (s : State) : held (imageConfirmBegin e s) = held s := by simp [imageConfirmBegin]

@[simp] theorem held_raiseFuse (s : State) : held (raiseFuse s) = held s := by simp [raiseFuse]

@[simp] theorem held_completeBurn (s : State) : held (completeBurn s) = held s := by simp [completeBurn]

@[simp] theorem held_confirmDone (e : Entry) (s : State) : held (confirmDone e s) = held s := by
  unfold confirmDone
  (try dsimp only)
  repeat' (first
    | (simp; done)
    | (simp_all; done)
    | (apply held_checked; intros)
    | (apply held_onChannel; intros)
    | (apply held_onConference; intros)
    | (apply held_onHandle; intros)
    | (apply held_unlessSuspended; intros)
    | (apply held_atHome; intros)
    | split
    | refine held_foldl' _ _ _ _ (fun _ _ => ?_) ?_
    | (simp [*]))

@[simp] theorem held_imageStatusBegin (e : Entry) (s : State) : held (imageStatusBegin e s) = held s := by simp [imageStatusBegin]

/-! Boot -/

@[simp] theorem held_loadShadow (s : State) : held (loadShadow s) = held s := by simp [loadShadow]

@[simp] theorem held_adoptAddress (straps : Straps) (s : State) : held (adoptAddress straps s) = held s := by simp [adoptAddress]

@[simp] theorem held_resumeDownload (s : State) : held (resumeDownload s) = held s := by simp [resumeDownload]

@[simp] theorem held_startUnits (s : State) : held (startUnits s) = held s := by simp [startUnits]

@[simp] theorem held_closeAll (s : State) : held (closeAll s) = held s := by simp [closeAll]

@[simp] theorem held_bootImage (offset : Nat) (data : List Byte) (s : State) : held (bootImage offset data s) = held s := by
  have h1 : held (if offset < 4096 then stageHeader offset (data.take (4096 - offset)) s else s) = held s := by
    split <;> simp
  unfold bootImage
  split
  · rfl
  · dsimp only
    generalize (if offset < 4096 then stageHeader offset (data.take (4096 - offset)) s else s) = s1 at h1 ⊢
    rw [← h1]
    (repeat' split) <;> rfl

/-! Mgmt -/

theorem held_nack (t : SmbusWrite) (length : Nat) (s : State) : ∀ x, nack t length s = some x → held x = held s := by
  intro x h
  unfold nack at h
  (repeat' split at h) <;> simp only [Option.some.injEq, reduceCtorEq] at h <;> subst h <;> simp

@[simp] theorem held_mgmtWrite (t : SmbusWrite) (s : State) : held (mgmtWrite t s) = held s := by
  unfold mgmtWrite
  split
  · rfl
  split
  · cases h : nack t 64 s with
    | none => rw [Option.getD_none]; split <;> simp
    | some x => rw [Option.getD_some]; exact held_nack _ _ _ x h
  split
  · cases h : nack t 1 s with
    | none => rw [Option.getD_none]; (repeat' split) <;> simp
    | some x => rw [Option.getD_some]; exact held_nack _ _ _ x h
  · simp

@[simp] theorem held_ccc (bytes : List Byte) (s : State) : held (ccc bytes s) = held s := by simp [ccc]

@[simp] theorem held_raiseThermal (state : Nat) (temps : List (Option Int)) (s : State) : held (raiseThermal state temps s) = held s := by simp [raiseThermal]

@[simp] theorem held_thermalWarn (temps : List (Option Int)) (s : State) : held (thermalWarn temps s) = held s := by simp [thermalWarn]

@[simp] theorem held_takePins (s : State) : held (takePins s) = held s := by simp [takePins]

@[simp] theorem held_tapLoad (ir : BitVec 8) (s : State) : held (tapLoad ir s) = held s := by simp [tapLoad]

/-! Period -/

@[simp] theorem held_raiseShort (code : Nat) (cls : Nat) (res : Nat) (limit : Nat) (s : State) : held (raiseShort code cls res limit s) = held s := by simp [raiseShort]

@[simp] theorem held_endEntry (s : State) (i : Nat) : held (endEntry s i) = held s := by simp [endEntry]

@[simp] theorem held_refillAll (s : State) : held (refillAll s) = held s := by simp [refillAll]

@[simp] theorem held_settleAllowances (s : State) : held (settleAllowances s) = held s := by
  unfold settleAllowances
  (try dsimp only)
  repeat' (first
    | (simp; done)
    | (simp_all; done)
    | (apply held_checked; intros)
    | (apply held_onChannel; intros)
    | (apply held_onHandle; intros)
    | (apply held_unlessSuspended; intros)
    | (apply held_atHome; intros)
    | split
    | refine held_foldl' _ _ _ _ (fun _ _ => ?_) ?_
    | (simp [*]))

@[simp] theorem held_calPeriod (s : State) : held (calPeriod s) = held s := by simp [calPeriod]

@[simp] theorem held_moveBoundary (s : State) : held (moveBoundary s) = held s := by
  unfold moveBoundary
  (try dsimp only)
  repeat' (first
    | (simp; done)
    | (simp_all; done)
    | (apply held_checked; intros)
    | (apply held_onChannel; intros)
    | (apply held_onHandle; intros)
    | (apply held_unlessSuspended; intros)
    | (apply held_atHome; intros)
    | split
    | refine held_foldl' _ _ _ _ (fun _ _ => ?_) ?_
    | (simp [*]))

@[simp] theorem held_discardOld (s : State) : held (discardOld s) = held s := by simp [discardOld]

@[simp] theorem held_legBoundary (id : Nat) (s : State) (l : Leg) : held (legBoundary id s l) = held s := by unfold legBoundary; (repeat' split) <;> simp

@[simp] theorem held_channelBoundary (s : State) (ch : Channel) : held (channelBoundary s ch) = held s := by simp [channelBoundary]

@[simp] theorem held_refillLegs (s : State) (ch : Channel) : held (refillLegs s ch) = held s := by simp [refillLegs]

@[simp] theorem held_readyChannel (s : State) (ch : Channel) : held (readyChannel s ch) = held s := by simp [readyChannel]

@[simp] theorem held_frameWork (s2 : State) : held (frameWork s2) = held s2 := by simp [frameWork]

@[simp] theorem held_storeGates (gate : List (BitVec 16)) (s : State) : held (storeGates gate s) = held s := by simp [storeGates]

@[simp] theorem held_countPortErrors (p : Nat) (x : PortErrors) (s : State) : held (countPortErrors p x s) = held s := by simp [countPortErrors]

@[simp] theorem held_countLaneErrors (i : Nat) (x : Nat × Nat) (s : State) : held (countLaneErrors i x s) = held s := by simp [countLaneErrors]

@[simp] theorem held_countFindings (x : PeriodFindings) (s : State) : held (countFindings x s) = held s := by simp [countFindings]

/-! Transport -/

@[simp] theorem held_setCq (q : Nat) (f : CommandQueue → CommandQueue) (s : State) : held (setCq q f s) = held s := by simp [setCq]

@[simp] theorem held_setCc (q : Nat) (f : CompletionQueue → CompletionQueue) (s : State) : held (setCc q f s) = held s := by simp [setCc]

@[simp] theorem held_cqCfgWrite (q : Nat) (w : Nat) (s : State) : held (cqCfgWrite q w s) = held s := by simp [cqCfgWrite]

@[simp] theorem held_ccCfgWrite (q : Nat) (w : Nat) (s : State) : held (ccCfgWrite q w s) = held s := by simp [ccCfgWrite]

@[simp] theorem held_eqCfgWrite (w : Nat) (s : State) : held (eqCfgWrite w s) = held s := by simp [eqCfgWrite]

@[simp] theorem held_queueCfgWrite (q : Nat) (w : Nat) (s : State) : held (queueCfgWrite q w s) = held s := by simp [queueCfgWrite]

@[simp] theorem held_queueBaseWrite (q : Nat) (high : Bool) (w : Nat) (s : State) : held (queueBaseWrite q high w s) = held s := by simp [queueBaseWrite]

@[simp] theorem held_refuseDoorbell (s : State) : held (refuseDoorbell s) = held s := by simp [refuseDoorbell]

@[simp] theorem held_cqTailWrite (q : Nat) (w : Nat) (s : State) : held (cqTailWrite q w s) = held s := by simp [cqTailWrite]

@[simp] theorem held_releaseHold (cc : Nat) (s : State) : held (releaseHold cc s) = held s := by simp [releaseHold]

@[simp] theorem held_ccHeadWrite (q : Nat) (w : Nat) (s : State) : held (ccHeadWrite q w s) = held s := by simp [ccHeadWrite]

@[simp] theorem held_eqHeadWrite (w : Nat) (s : State) : held (eqHeadWrite w s) = held s := by simp [eqHeadWrite]

@[simp] theorem held_cancelWrite (w : Nat) (s : State) : held (cancelWrite w s) = held s := by simp [cancelWrite]

@[simp] theorem held_intStatusWrite (w : Nat) (s : State) : held (intStatusWrite w s) = held s := by simp [intStatusWrite]

@[simp] theorem held_intTestWrite (w : Nat) (s : State) : held (intTestWrite w s) = held s := by simp [intTestWrite]

@[simp] theorem held_dmbCmdWrite (at_ : Nat) (data : List Byte) (s : State) : held (dmbCmdWrite at_ data s) = held s := by simp [dmbCmdWrite]

@[simp] theorem held_dmbGoWrite (s : State) : held (dmbGoWrite s) = held s := by simp [dmbGoWrite]

@[simp] theorem held_dmbDoneWrite (s : State) : held (dmbDoneWrite s) = held s := by simp [dmbDoneWrite]

@[simp] theorem held_coalesce (v : Nat) (s : State) : held (coalesce v s) = held s := by unfold coalesce; (repeat' split) <;> simp

@[simp] theorem held_captureDmaError (address : Nat) (source : Nat) (kind : DmaErrorKind) (s : State) : held (captureDmaError address source kind s) = held s := by simp [captureDmaError]

@[simp] theorem held_releaseHeld (s : State) : held (releaseHeld s) = held s := by simp [releaseHeld]

@[simp] theorem held_rmemWordWrite (at_ : Nat) (data : List Byte) (s : State) : held (rmemWordWrite at_ data s) = held s := by simp [rmemWordWrite]

@[simp] theorem held_rmemWrite (n at_ : Nat) (data : List Byte) (s : State) : held (rmemWrite n at_ data s) = held s := by
  induction n generalizing at_ data s with
  | zero => rfl
  | succ n ih => unfold rmemWrite; dsimp only; (repeat' split) <;> simp [ih]

/-! Continue -/

@[simp] theorem held_flashOver (verified : Bool) (s : State) : held (flashOver verified s) = held s := by unfold flashOver; (repeat' split) <;> simp

@[simp] theorem held_carryOut (cls : Nat) (res : Nat) (r : Request) (corrected : Bool) (s : State) : held (carryOut cls res r corrected s) = held s := by unfold carryOut; (repeat' split) <;> simp

@[simp] theorem held_countCorrected (res : Nat) (corrected : Bool) (s : State) : held (countCorrected res corrected s) = held s := by simp [countCorrected]

@[simp] theorem held_grantQueued (cls : Nat) (res : Nat) (corrected : Bool) (s : State) : held (grantQueued cls res corrected s) = held s := by unfold grantQueued; (repeat' split) <;> simp

@[simp] theorem held_placeAgain (s : State) (id : Nat) : held (placeAgain s id) = held s := by unfold placeAgain; (repeat' split) <;> simp

@[simp] theorem held_raiseWaiting (s : State) : held (raiseWaiting s) = held s := by simp [raiseWaiting]

/-! Registers -/

@[simp] theorem held_msixWrite (v : Nat) (part : Nat) (w : Nat) (s : State) : held (msixWrite v part w s) = held s := by simp [msixWrite]

@[simp] theorem held_intMaskWrite (w : Nat) (s : State) : held (intMaskWrite w s) = held s := by simp [intMaskWrite]

@[simp] theorem held_intPinWrite (w : Nat) (s : State) : held (intPinWrite w s) = held s := by simp [intPinWrite]

@[simp] theorem held_queueWrite (q : Nat) (part : Nat) (w : Nat) (s : State) : held (queueWrite q part w s) = held s := by unfold queueWrite; (repeat' split) <;> simp

@[simp] theorem held_dmbWrite (offset : Nat) (w : Nat) (s : State) : held (dmbWrite offset w s) = held s := by simp [dmbWrite]

@[simp] theorem held_doorbellWrite (offset : Nat) (w : Nat) (s : State) : held (doorbellWrite offset w s) = held s := by simp [doorbellWrite]

@[simp] theorem held_interruptWrite (offset : Nat) (w : Nat) (s : State) : held (interruptWrite offset w s) = held s := by simp [interruptWrite]

/-! Take -/

@[simp] theorem held_abortRunning (e : Entry) (t : Entry) (s : State) : held (abortRunning e t s) = held s := by unfold abortRunning; (repeat' split) <;> simp

@[simp] theorem held_commandAbortBegin (e : Entry) (s : State) : held (commandAbortBegin e s) = held s := by
  unfold commandAbortBegin
  (try dsimp only)
  repeat' (first
    | (simp; done)
    | (simp_all; done)
    | (apply held_checked; intros)
    | (apply held_onChannel; intros)
    | (apply held_onHandle; intros)
    | (apply held_unlessSuspended; intros)
    | (apply held_atHome; intros)
    | split
    | refine held_foldl' _ _ _ _ (fun _ _ => ?_) ?_
    | (simp [*]))

@[simp] theorem held_holdQueues (s : State) : held (holdQueues s) = held s := by simp [holdQueues]

@[simp] theorem held_replyIn (id : Nat) (status : Byte) (result : BitVec 160) (data : List Byte) (s : State) : held (replyIn id status result data s) = held s := by unfold replyIn; (repeat' split) <;> simp

@[simp] theorem held_sessionAsked (node : Nat) (entry : Nat) (h : Nat) (s : State) : held (sessionAsked node entry h s) = held s := by unfold sessionAsked; dsimp only; (repeat' split) <;> simp

@[simp] theorem held_sessionCame (id : Nat) (copy : SessionCopy) (s : State) : held (sessionCame id copy s) = held s := by unfold sessionCame; (repeat' split) <;> simp

@[simp] theorem held_commitAsked (node : Nat) (entry : Nat) (req : TellerRequest) (s : State) : held (commitAsked node entry req s) = held s := by simp [commitAsked]

@[simp] theorem held_sendImage (node : Nat) (s : State) : held (sendImage node s) = held s := by simp [sendImage]

@[simp] theorem held_bootAsked (node : Fin 16) (s : State) : held (bootAsked node s) = held s := by unfold bootAsked; (repeat' split) <;> simp

/-! Idle -/

@[simp] theorem held_idle (s : State) : held (idle s) = held s := by simp [idle]

end Sys2Proof.Machine
end

