-- ==== Sys2Proof/Laws/Steady.lean ====
section
/-!
SUPPORT. The mode register through its changes: what a change of mode, HALT, a reset, the start and the end of a transition
leave, and that each keeps the register legal (05 Table 5-1, Table 5-3).
-/
namespace Sys2Proof.Machine

-- One theorem after another: the memory of the check holds no more of them at once.
set_option Elab.async false
set_option linter.all false

/-- What every command but those that write them keeps: the queue, BKP, RESET_CAUSE and the straps, and the legality of the
mode register. -/
structure Steady (a b : Held) : Prop where
  pending : b.pending = a.pending
  bkp : b.bkp = a.bkp
  cause : b.cause = a.cause
  straps : b.straps = a.straps
  mode : ModeOk a.mode → ModeOk b.mode

theorem Steady.of_eq {a b : Held} (h : b = a) : Steady a b := h ▸ ⟨rfl, rfl, rfl, rfl, id⟩

theorem Steady.trans {a b c : Held} (h : Steady a b) (k : Steady b c) : Steady a c :=
  ⟨k.pending.trans h.pending, k.bkp.trans h.bkp, k.cause.trans h.cause, k.straps.trans h.straps, fun m => k.mode (h.mode m)⟩

theorem steady_ite {p : Prop} [Decidable p] {a : Held} {b c : State} (hb : Steady a (held b)) (hc : Steady a (held c)) :
    Steady a (held (if p then b else c)) := by
  split <;> assumption

theorem steady_foldl {α : Type} (f : State → α → State) (l : List α) (h : ∀ s a, Steady (held s) (held (f s a)))
    (s : State) : Steady (held s) (held (l.foldl f s)) := by
  induction l generalizing s with
  | nil => exact .of_eq rfl
  | cons a t ih => exact (h s a).trans (ih _)

theorem held_mode (s : State) : (held s).mode = s.mode := rfl

/-- The mode register after a change of mode. -/
def ModeReg.switched (new : Mode) (m : ModeReg) : ModeReg :=
  { m with current := new, previous := m.current, seq := m.seq + 1, transition := none,
           autoStandby := m.autoStandby && new == .drain }

theorem held_switchMode (new : Mode) (s : State) :
    held (switchMode new s) = { held s with mode := s.mode.switched new } := by
  have h : held (bankTime new s) = held s := held_bankTime new s
  have hp : (bankTime new s).pending = s.pending := congrArg Held.pending h
  have hm : (bankTime new s).mode = s.mode := congrArg Held.mode h
  have hb : (bankTime new s).bkp = s.bkp := congrArg Held.bkp h
  have hc : (bankTime new s).cause = s.cause := congrArg Held.cause h
  have hs : (bankTime new s).boot.straps = s.boot.straps := congrArg Held.straps h
  unfold switchMode
  dsimp only
  simp only [held_ite, held_upd, held_mk, held_leaveDiagnostic, ite_self, hp, hm, hb, hc, hs]
  simp only [held, Held.mk.injEq] at h
  simp only [h, held]
  rfl

theorem held_enterHalt (c : Nat) (s : State) :
    held (enterHalt c s) =
      { held s with mode := { s.mode.switched .halt with haltCause := BitVec.ofNat 4 c, steward := .stopped } } := by
  have h : held (stopEngines (removeTests (dropHostRequests (haltMailbox (switchMode .halt s))))) =
      { held s with mode := s.mode.switched .halt } := by simp [held_switchMode]
  unfold enterHalt
  dsimp only
  generalize stopEngines (removeTests (dropHostRequests (haltMailbox (switchMode .halt s)))) = u at h ⊢
  simp only [held_ite, held_sendCause, ite_self, stopUnits, held_upd]
  simp only [held, Held.mk.injEq] at h
  obtain ⟨h1, h2, h3, h4, h5, h6, h7, h8⟩ := h
  simp only [h1, h2, h3, h4, h5, h6, h7, h8, held]
  rfl

theorem held_assertReset (src : ResetSource) (cold : Bool) (lowNs : Nat) (s : State) :
    held (assertReset src cold lowNs s) = { held s with mode := {}, period := 0, frame := 0, boundary := 0 } := rfl

theorem modeOk_reset : ModeOk {} := by constructor <;> simp [runModes]

theorem steady_assertReset (src : ResetSource) (cold : Bool) (lowNs : Nat) (s : State) :
    Steady (held s) (held (assertReset src cold lowNs s)) := by
  rw [held_assertReset]; exact ⟨rfl, rfl, rfl, rfl, fun _ => modeOk_reset⟩

theorem steady_enterHalt (c : Nat) (s : State) : Steady (held s) (held (enterHalt c s)) := by
  rw [held_enterHalt]
  refine ⟨rfl, rfl, rfl, rfl, fun _ => ?_⟩
  constructor <;> simp [ModeReg.switched, runModes]

/-- Between running modes, and from the ROM's modes as far as the Steward agrees. -/
theorem modeOk_switched {m : ModeReg} (new : Mode) (h : ModeOk m) (hn : new ≠ .halt) (hm : m.current ≠ .halt)
    (hs : new = .strap → m.steward = .stopped) (hr : new = .recovery → m.steward = .rom)
    (hl : new = .loader → m.steward = .rom ∨ m.steward = .rhoper) (hq : new ∈ runModes → m.steward = .rhoper) :
    ModeOk (m.switched new) := by
  refine ⟨hs, fun e => absurd e hn, hr, hl, hq, ?_, ?_, ?_⟩
  · intro t e; cases e
  · intro e
    simp only [ModeReg.switched, Bool.and_eq_true, beq_iff_eq] at e
    exact e.2
  · intro e; exact absurd (h.haltCause e) hm

theorem steady_switchMode_run (new : Mode) (s : State) (hn : new ∈ runModes) (hs : ModeOk s.mode → s.mode.steward = .rhoper)
    (hc : ModeOk s.mode → s.mode.current ≠ .halt) : Steady (held s) (held (switchMode new s)) := by
  rw [held_switchMode]
  refine ⟨rfl, rfl, rfl, rfl, fun h => ?_⟩
  have h' : ModeOk s.mode := h
  refine modeOk_switched new h' ?_ (hc h') ?_ ?_ ?_ (fun _ => hs h')
  all_goals (intro e; subst e; simp [runModes] at hn)

theorem running_facts {m : ModeReg} (h : ModeOk m) (hr : m.current ∈ runModes) : m.steward = .rhoper ∧ m.current ≠ .halt :=
  ⟨h.running hr, by intro e; rw [e] at hr; simp [runModes] at hr⟩

theorem steady_beginTransition (target : Mode) (e : Entry) (s : State) (ht : target ∈ runModes) (hc : s.mode.current ∈ runModes) :
    Steady (held s) (held (beginTransition target e s)) := by
  refine ⟨rfl, rfl, rfl, rfl, fun h => ?_⟩
  have h' : ModeOk s.mode := h
  exact ⟨h'.strap, h'.halt, h'.recovery, h'.loader, h'.running,
    fun t e => by cases e; exact ⟨hc, ht⟩, h'.auto, h'.haltCause⟩

theorem held_fields {s t : State} (h : held t = held s) : t.mode = s.mode := congrArg Held.mode h

theorem steady_finish_after (e : Entry) (st : Byte) (r : List Fld) {s t : State} (h : Steady (held s) (held t)) :
    Steady (held s) (held (finish e st r t)) := h.trans (.of_eq (held_finish e st r t))

theorem steady_checked (e : Entry) (modes : List Mode) (cs : List Check) (eff : State → State) (s : State)
    (h : s.mode.current ∈ modes → Steady (held s) (held (eff s))) : Steady (held s) (held (checked e modes cs eff s)) := by
  unfold checked
  cases hp : precheck e modes cs s with
  | some t => exact .of_eq (held_precheck e modes cs s t hp)
  | none =>
    refine h ?_
    unfold precheck at hp
    split at hp
    · cases hp
    · simp_all

theorem steady_bootSlotBegin (e : Entry) (s : State) : Steady (held s) (held (bootSlotBegin e s)) := by
  unfold bootSlotBegin
  refine steady_checked _ _ _ _ _ (fun hm => ?_)
  dsimp only
  split
  · have hf : (finish e stDone [] s).mode = s.mode := held_fields (held_finish _ _ _ _)
    have hr : s.mode.current = .recovery := by simpa using hm
    refine Steady.trans (b := held (switchMode .loader (finish e stDone [] s))) ?_ (.of_eq rfl)
    rw [held_switchMode, held_finish, hf]
    refine ⟨rfl, rfl, rfl, rfl, fun h => ?_⟩
    have h' : ModeOk s.mode := h
    refine modeOk_switched .loader h' (by simp) (by simp [hr]) (by simp) (by simp) (fun _ => .inl (h'.recovery hr)) (by simp [runModes])
  · exact .of_eq (held_finish _ _ _ _)

theorem modePair_running {a b : Mode} (h : modePair a b = true) : a ∈ runModes ∧ b ∈ runModes := by
  cases a <;> cases b <;> simp_all [modePair, runModes]

theorem steady_modeSetBegin (e : Entry) (s : State) : Steady (held s) (held (modeSetBegin e s)) := by
  unfold modeSetBegin
  dsimp only
  refine steady_checked _ _ _ _ _ (fun _ => ?_)
  split
  · exact .of_eq (held_finish _ _ _ _)
  split
  · rename_i ht
    refine steady_finish_after _ _ _ ?_
    split
    · rename_i hd
      refine ⟨rfl, rfl, rfl, rfl, fun h => ?_⟩
      have h' : ModeOk s.mode := h
      exact ⟨h'.strap, h'.halt, h'.recovery, h'.loader, h'.running, h'.transition, fun _ => by show s.mode.current = .drain; rw [← ht, hd], h'.haltCause⟩
    · exact .of_eq rfl
  split
  · exact .of_eq (held_finish _ _ _ _)
  rename_i hp
  have hp' : modePair s.mode.current (modeOf (prmByte e.cmd 16)) = true := by simpa using hp
  split
  · exact .of_eq (held_finish _ _ _ _)
  split
  · exact .of_eq (by rw [held_setEntry]; rfl)
  · exact steady_beginTransition _ _ _ (modePair_running hp').2 (modePair_running hp').1

theorem steady_deviceResetBegin (e : Entry) (s : State) : Steady (held s) (held (deviceResetBegin e s)) := by
  unfold deviceResetBegin
  dsimp only
  refine steady_checked _ _ _ _ _ (fun _ => ?_)
  split
  · split
    · exact .of_eq (held_finish _ _ _ _)
    · exact .of_eq (held_requestBlock _ _ _ _ _)
  split
  · exact (Steady.of_eq (held_finish e stDone [] s)).trans (steady_assertReset _ _ _ _)
  · exact steady_assertReset _ _ _ _

theorem steady_activateDone (e : Entry) (s : State) : Steady (held s) (held (activateDone e s)) := by
  unfold activateDone
  dsimp only
  split
  · exact (Steady.of_eq (held_finish e stDone [] s)).trans (steady_assertReset _ _ _ _)
  · exact .of_eq (held_finish _ _ _ _)

theorem steady_imageActivateBegin (e : Entry) (s : State) : Steady (held s) (held (imageActivateBegin e s)) := by
  unfold imageActivateBegin
  dsimp only
  refine steady_checked _ _ _ _ _ (fun _ => ?_)
  split
  · exact .of_eq (by simp)
  split
  · (repeat' split) <;> first
      | (refine Steady.trans ?_ (steady_activateDone _ _); exact .of_eq (held_accept e s))
      | exact .of_eq (by simp)
  (repeat' split) <;> exact .of_eq (by simp)

theorem steady_beginOf (op : Op) (e : Entry) (s : State) : Steady (held s) (held (beginOf op e s)) := by
  cases op <;> unfold beginOf
  case modeSet => exact steady_modeSetBegin e s
  case bootSlot => exact steady_bootSlotBegin e s
  case deviceReset => exact steady_deviceResetBegin e s
  case imageActivate => exact steady_imageActivateBegin e s
  all_goals exact .of_eq (by simp)

theorem steady_begin_ (beg : Entry → State → State) (hb : ∀ e s, Steady (held s) (held (beg e s))) (e : Entry) (s : State) :
    Steady (held s) (held (begin_ beg e s)) := by
  unfold begin_
  exact (Steady.of_eq (held_setEntry _ _ _)).trans (hb _ _)

theorem steady_openEntry (op : Op) (src : Source) (c : Cmd) (objs : List Obj) (beg : Entry → State → State)
    (hb : ∀ e s, Steady (held s) (held (beg e s))) (s : State) : Steady (held s) (held (openEntry op src c objs beg s)) := by
  unfold openEntry
  dsimp only
  refine steady_ite (.of_eq rfl) ?_
  refine Steady.trans ?_ (steady_begin_ beg hb _ _)
  exact .of_eq rfl

theorem steady_matchRetry (op : Op) (src : Source) (c : Cmd) (objs : List Obj) (beg : Entry → State → State)
    (hb : ∀ e s, Steady (held s) (held (beg e s))) (s : State) : Steady (held s) (held (matchRetry op src c objs beg s)) := by
  unfold matchRetry
  dsimp only
  (repeat' split) <;> first
    | exact steady_openEntry _ _ _ _ _ hb _
    | exact .of_eq (by simp)
    | skip
  rename_i t h
  exact (Steady.of_eq (held_recordRetry _ _ _ h)).trans (steady_openEntry _ _ _ _ _ hb _)

theorem steady_takeCommand (op : Op) (src : Source) (c : Cmd) (objs : List Obj) (beg : Entry → State → State)
    (hb : ∀ e s, Steady (held s) (held (beg e s))) (s : State) : Steady (held s) (held (takeCommand op src c objs beg s)) := by
  unfold takeCommand
  dsimp only
  (repeat' split) <;> first
    | exact steady_matchRetry _ _ _ _ _ hb _
    | exact .of_eq (by simp)
    | (refine Steady.trans ?_ (hb _ _); exact .of_eq rfl)
    | skip
  rename_i t h
  exact .of_eq (held_tagFault _ _ _ _ _ h)

theorem steady_takeCode (code : Nat) (src : Source) (c : Cmd) (s : State) : Steady (held s) (held (takeCode code src c s)) := by
  unfold takeCode
  split
  · exact steady_takeCommand _ _ _ _ _ (steady_beginOf _) _
  · exact .of_eq (by simp)

theorem steady_beginNext (s : State) : Steady (held s) (held (beginNext s)) := by
  unfold beginNext
  split
  · exact .of_eq rfl
  · exact steady_begin_ _ (steady_beginOf _) _ _

theorem steady_takeBytes (b : List Byte) (src : Source) (s : State) : Steady (held s) (held (takeBytes b src s)) :=
  steady_takeCode _ _ _ _

theorem steady_takeEntry (q : Fin 4) (s : State) : Steady (held s) (held (takeEntry q s)) := by
  unfold takeEntry
  dsimp only
  split
  · exact .of_eq rfl
  split
  · exact .of_eq (by simp)
  · refine Steady.trans ?_ (steady_takeCode _ _ _ _)
    exact .of_eq (by simp)

theorem steady_takeNext (s : State) : Steady (held s) (held (takeNext s)) := by
  unfold takeNext
  dsimp only
  split
  · exact .of_eq rfl
  split
  · exact (Steady.of_eq (held_holdQueues s)).trans (steady_takeEntry _ _)
  · exact .of_eq (by simp)

theorem steady_takeDmb (s : State) : Steady (held s) (held (takeDmb s)) := by
  unfold takeDmb
  have h : held (payRead 1 0 s).1 = held s := held_payRead 1 0 s
  split
  · dsimp only
    split
    · refine (Steady.of_eq h).trans (Steady.trans ?_ (steady_takeBytes _ _ _))
      exact .of_eq rfl
    · exact .of_eq h
  · exact .of_eq rfl

theorem steady_takeMgmt (s : State) : Steady (held s) (held (takeMgmt s)) := by
  unfold takeMgmt
  split
  · refine Steady.trans ?_ (steady_takeBytes _ _ _)
    exact .of_eq (by simp)
  · exact .of_eq rfl

theorem steady_memberMessage (n : Fin 16) (m : StewardMessage) (s : State) :
    Steady (held s) (held (memberMessage n m s)) := by
  unfold memberMessage
  split
  case h_3 => exact steady_takeCode _ _ _ _
  all_goals exact .of_eq (by first | simp | (split <;> simp))

theorem steady_stewardMessage (k : Nat) (h : TyHeader) (m : StewardMessage) (s : State) :
    Steady (held s) (held (stewardMessage k h m s)) := by
  unfold stewardMessage
  (repeat' split) <;> first | exact steady_memberMessage _ _ _ | exact .of_eq (by simp)

theorem steady_deliverHere (k : Nat) (h : TyHeader) (payload : TyPayload) (f : State → State)
    (hf : ∀ s, Steady (held s) (held (f s))) (s : State) : Steady (held s) (held (deliverHere k h payload f s)) := by
  unfold deliverHere
  dsimp only
  have hl : held (linkReceive k h s).1 = held s := held_linkReceive k h s
  split
  · exact .of_eq hl
  split
  · exact (Steady.of_eq hl).trans (hf _)
  · exact .of_eq ((held_tyRoute _ _).trans hl)

theorem steady_thermalTrip (temps : List (Option Int)) (s : State) : Steady (held s) (held (thermalTrip temps s)) := by
  unfold thermalTrip
  dsimp only
  split
  · exact Steady.trans (.of_eq rfl) ((steady_assertReset .thermal false 0 _).trans (.of_eq rfl))
  split <;> exact .of_eq rfl

theorem steady_settleForce (s : State) : Steady (held s) (held (settleForce s)) := by
  unfold settleForce
  (repeat' split) <;> first | exact .of_eq (by simp) | skip
  rename_i h
  exact steady_beginTransition _ _ _ (by simp [runModes]) (by simp [h, runModes])

/-- A new period and the instant at which it begins (03 R71). -/
theorem held_beginPeriod (s : State) :
    held (beginPeriod s) = { held s with period := s.alw.period + 1, boundary := s.now } := by
  unfold beginPeriod
  dsimp only
  split
  · rw [held_count]; rfl
  · rfl

/-- A new frame (03 R73). -/
theorem held_frameStart (s : State) : held (frameStart s) = { held s with frame := s.alw.frame + 1 } := rfl

/-- The first boundary (03 R71, R73). -/
theorem held_startController (s : State) :
    held (startController s) = { held s with period := 1, frame := 0, boundary := s.now } := rfl

theorem steady_frameBoundary (s : State) : Steady (held s) (held (frameBoundary s)) := by
  unfold frameBoundary
  rw [held_frameWork, held_discardOld]
  refine Steady.trans ?_ (steady_settleForce _)
  rw [held_closeDue, held_moveBoundary, held_frameStart]
  exact ⟨rfl, rfl, rfl, rfl, id⟩

theorem steady_beginPeriod (s : State) : Steady (held s) (held (beginPeriod s)) := by
  rw [held_beginPeriod]; exact ⟨rfl, rfl, rfl, rfl, id⟩

theorem steady_periodBoundary (gate : List (BitVec 16)) (s : State) : Steady (held s) (held (periodBoundary gate s)) := by
  unfold periodBoundary
  dsimp only
  have h : Steady (held s) (held (beginPeriod ((List.range 32).foldl endEntry (advance s.nextBoundary.1 s)))) :=
    .trans (.of_eq (by simp)) (steady_beginPeriod _)
  refine Steady.trans ?_ (.of_eq (held_grantAll _))
  refine Steady.trans ?_ (.of_eq ((held_beginIterations _).trans (held_serveHost _ _)))
  refine h.trans ?_
  split
  · exact Steady.trans (.of_eq (by simp)) (steady_frameBoundary _)
  · exact .of_eq (by simp)

theorem held_enterRecovery (s : State) : held (enterRecovery s) = { held s with mode := s.mode.switched .recovery } := by
  unfold enterRecovery
  simp only [held_linksApply, held_upd]
  exact held_switchMode .recovery s

theorem steady_enterRecovery (s : State) (hl : s.mode.current = .loader) (hr : s.mode.steward = .rom) :
    Steady (held s) (held (enterRecovery s)) := by
  rw [held_enterRecovery]
  refine ⟨rfl, rfl, rfl, rfl, fun h => ?_⟩
  have h' : ModeOk s.mode := h
  exact modeOk_switched .recovery h' (by simp) (by simp [hl]) (by simp) (fun _ => hr) (by simp) (by simp [runModes])

theorem steady_bootFrom (slot : Nat) (trial other : Bool) (s : State) (hl : s.mode.current = .loader) (hr : s.mode.steward = .rom) :
    Steady (held s) (held (bootFrom slot trial other s)) := by
  unfold bootFrom
  dsimp only
  split
  · exact .of_eq rfl
  split
  · exact .of_eq rfl
  · exact steady_enterRecovery s hl hr

theorem steady_romWriteFailed (s : State) (hl : s.mode.current = .loader) (hr : s.mode.steward = .rom) :
    Steady (held s) (held (romWriteFailed s)) := by
  unfold romWriteFailed
  dsimp only
  refine Steady.trans ?_ (steady_bootFrom _ _ _ _ hl hr)
  exact .of_eq rfl

theorem steady_romWritten (s : State) (hl : s.mode.current = .loader) (hr : s.mode.steward = .rom) :
    Steady (held s) (held (romWritten s)) := by
  unfold romWritten
  split
  · exact .of_eq rfl
  · have hm : ∀ b : Bool, (if b then count (devCtr 133) s else s).mode = s.mode := fun b =>
      held_fields (by simp)
    refine Steady.trans ?_ (steady_bootFrom _ _ _ _ (by rw [hm]; exact hl) (by rw [hm]; exact hr))
    exact .of_eq (by simp)

theorem steady_romPut (word slot : Nat) (trial : Bool) (s : State) (hl : s.mode.current = .loader) (hr : s.mode.steward = .rom) :
    Steady (held s) (held (romPut word slot trial s)) := by
  unfold romPut
  dsimp only
  have hp := held_ledgerPut { word := wBootCtrl, value := BitVec.ofNat 32 word, writer := .rom }
    { s with fw := { s.fw with romWrite := some (slot, trial, s.bootCtrl) } }
  rw [held_upd, held_mk] at hp
  split
  · have hm := held_fields hp
    exact (Steady.of_eq hp).trans (steady_romWriteFailed _ (by rw [hm]; exact hl) (by rw [hm]; exact hr))
  · exact .of_eq hp

theorem steady_romChoose (s : State) (hl : s.mode.current = .loader) (hr : s.mode.steward = .rom) :
    Steady (held s) (held (romChoose s)) := by
  unfold romChoose
  dsimp only
  split
  · split
    · exact steady_romPut _ _ _ _ hl hr
    · exact steady_romPut _ _ _ _ hl hr
  · exact steady_bootFrom _ _ _ _ hl hr

theorem steady_romResumes (f : State → State) (s : State)
    (h : s.mode.current = .loader → s.mode.steward = .rom → Steady (held s) (held (f s))) :
    Steady (held s) (held (romResumes f s)) := by
  unfold romResumes
  split
  · rename_i hh
    simp only [State.inRom, Bool.and_eq_true, decide_eq_true_eq, beq_iff_eq] at hh
    exact h hh.1 hh.2
  · exact .of_eq rfl

theorem steady_wornOut (s : State) (w : LedgerWrite) : Steady (held s) (held (wornOut s w)) := by
  unfold wornOut
  split
  · exact .of_eq rfl
  · exact steady_romResumes _ _ (fun a b => steady_romWriteFailed s a b)
  · split <;> exact .of_eq (by simp)
  · split
    · exact steady_assertReset _ _ _ _
    · exact .of_eq rfl

theorem steady_ledgerNext (s : State) : Steady (held s) (held (ledgerNext s)) := by
  unfold ledgerNext
  exact (Steady.of_eq (held_ledgerStart s)).trans (steady_foldl _ _ steady_wornOut _)

theorem steady_wordsDone (e : Entry) (s : State) : Steady (held s) (held (wordsDone e s)) := by
  unfold wordsDone
  split <;> first | exact steady_activateDone _ _ | exact .of_eq (by simp)

theorem steady_writeOver (w : LedgerWrite) (p : Bool) (s : State) : Steady (held s) (held (writeOver w p s)) := by
  unfold writeOver
  split
  · exact .of_eq rfl
  · refine steady_romResumes _ _ (fun a b => ?_)
    split
    · exact steady_romWritten s a b
    · exact steady_romWriteFailed s a b
  · split
    · exact steady_assertReset _ _ _ _
    · exact .of_eq rfl
  · split
    · exact .of_eq rfl
    split
    · exact .of_eq (by simp)
    split
    · exact steady_wordsDone _ _
    · exact .of_eq (by simp)

theorem steady_resetCtrlWrite (w : Nat) (s : State) : Steady (held s) (held (resetCtrlWrite w s)) := by
  unfold resetCtrlWrite
  split
  · exact .of_eq rfl
  split
  · exact steady_assertReset _ _ _ _
  · exact steady_assertReset _ _ _ _
  · split <;> exact .of_eq (by simp)
  · exact .of_eq rfl

end Sys2Proof.Machine
end

