-- ==== Sys2Proof/Laws/Frames.lean ====
section
/-!
SUPPORT. One lemma for each command: it keeps the queue, BKP, RESET_CAUSE and the straps, and the mode register legal; the four
commands that write one of them say what they keep of the rest.
-/
namespace Sys2Proof.Machine

-- One theorem after another: the memory of the check holds no more of them at once.
set_option Elab.async false
set_option linter.all false

theorem steady_execAllowanceRequest (cls : Fin 8) (res : Fin 4) (size : Nat) (s : State) (t : State) (h : execAllowanceRequest cls res size s = .next t) :
    Steady (held s) (held t) := by
  unfold execAllowanceRequest at h
  cases h
  exact .of_eq (by simp)

theorem steady_execScrubOverdue (vault : Bool) (s : State) (t : State) (h : execScrubOverdue vault s = .next t) :
    Steady (held s) (held t) := by
  unfold execScrubOverdue at h
  cases h
  exact .of_eq (by (repeat' split) <;> simp)

theorem steady_execAllowanceSet (src : Source) (c : Cmd) (s : State) (t : State) (h : execAllowanceSet src c s = .next t) :
    Steady (held s) (held t) := by
  unfold execAllowanceSet at h
  cases h
  exact .of_eq (by simp)

theorem steady_execAllowanceReport (src : Source) (c : Cmd) (s : State) (t : State) (h : execAllowanceReport src c s = .next t) :
    Steady (held s) (held t) := by
  unfold execAllowanceReport at h
  cases h
  exact .of_eq (by simp)

theorem steady_execFaultLogFlush (s : State) (t : State) (h : execFaultLogFlush s = .next t) :
    Steady (held s) (held t) := by
  unfold execFaultLogFlush at h
  cases h
  exact .of_eq (by simp)

theorem steady_execLedgerUserWrite (word : Fin 1024) (value : Word32) (s : State) (t : State) (h : execLedgerUserWrite word value s = .next t) :
    Steady (held s) (held t) := by
  unfold execLedgerUserWrite at h
  cases h
  exact .of_eq (by simp)

theorem steady_execLedgerStatus (src : Source) (c : Cmd) (s : State) (t : State) (h : execLedgerStatus src c s = .next t) :
    Steady (held s) (held t) := by
  unfold execLedgerStatus at h
  cases h
  exact .of_eq (by simp)

theorem steady_execResetPolicySet (src : Source) (c : Cmd) (s : State) (t : State) (h : execResetPolicySet src c s = .next t) :
    Steady (held s) (held t) := by
  unfold execResetPolicySet at h
  cases h
  exact .of_eq (by simp)

theorem steady_execPaceOffsetSet (src : Source) (c : Cmd) (s : State) (t : State) (h : execPaceOffsetSet src c s = .next t) :
    Steady (held s) (held t) := by
  unfold execPaceOffsetSet at h
  cases h
  exact .of_eq (by simp)

theorem steady_execCalOffsetSet (src : Source) (c : Cmd) (s : State) (t : State) (h : execCalOffsetSet src c s = .next t) :
    Steady (held s) (held t) := by
  unfold execCalOffsetSet at h
  cases h
  exact .of_eq (by simp)

theorem steady_execPowerWarnAssert (lowNs : Nat) (s : State) (t : State) (h : execPowerWarnAssert lowNs s = .next t) :
    Steady (held s) (held t) := by
  unfold execPowerWarnAssert at h
  cases h
  exact .of_eq (by simp)

theorem steady_execEngineConfigSet (src : Source) (c : Cmd) (s : State) (t : State) (h : execEngineConfigSet src c s = .next t) :
    Steady (held s) (held t) := by
  unfold execEngineConfigSet at h
  cases h
  exact .of_eq (by simp)

theorem steady_execEngineStatus (src : Source) (c : Cmd) (s : State) (t : State) (h : execEngineStatus src c s = .next t) :
    Steady (held s) (held t) := by
  unfold execEngineStatus at h
  cases h
  exact .of_eq (by simp)

theorem steady_execEngineTest (src : Source) (c : Cmd) (s : State) (t : State) (h : execEngineTest src c s = .next t) :
    Steady (held s) (held t) := by
  unfold execEngineTest at h
  cases h
  exact .of_eq (by simp)

theorem steady_execTbConfigSet (src : Source) (c : Cmd) (s : State) (t : State) (h : execTbConfigSet src c s = .next t) :
    Steady (held s) (held t) := by
  unfold execTbConfigSet at h
  cases h
  exact .of_eq (by simp)

theorem steady_execTbAdjust (src : Source) (c : Cmd) (s : State) (t : State) (h : execTbAdjust src c s = .next t) :
    Steady (held s) (held t) := by
  unfold execTbAdjust at h
  cases h
  exact .of_eq (by simp)

theorem steady_execTbAdjustTimeout (tb : Fin 4) (s : State) (t : State) (h : execTbAdjustTimeout tb s = .next t) :
    Steady (held s) (held t) := by
  unfold execTbAdjustTimeout at h
  cases h
  exact .of_eq (by (repeat' split) <;> simp)

theorem steady_execTbTimeGet (src : Source) (c : Cmd) (s : State) (t : State) (h : execTbTimeGet src c s = .next t) :
    Steady (held s) (held t) := by
  unfold execTbTimeGet at h
  cases h
  exact .of_eq (by simp)

theorem steady_execPpsSet (src : Source) (c : Cmd) (s : State) (t : State) (h : execPpsSet src c s = .next t) :
    Steady (held s) (held t) := by
  unfold execPpsSet at h
  cases h
  exact .of_eq (by simp)

theorem steady_execPpsOutEdge (pin : Fin 4) (s : State) (t : State) (h : execPpsOutEdge pin s = .next t) :
    Steady (held s) (held t) := by
  unfold execPpsOutEdge at h
  cases h
  exact .of_eq (by simp)

theorem steady_execPpsInEdge (pin : Fin 2) (falling : Bool) (widthNs : Nat) (s : State) (t : State) (h : execPpsInEdge pin falling widthNs s = .next t) :
    Steady (held s) (held t) := by
  unfold execPpsInEdge at h
  cases h
  exact .of_eq (by simp)

theorem steady_execPpsTimeout (tb : Fin 4) (s : State) (t : State) (h : execPpsTimeout tb s = .next t) :
    Steady (held s) (held t) := by
  unfold execPpsTimeout at h
  cases h
  exact .of_eq (by dsimp only; (repeat' split) <;> simp)

theorem steady_execPtpSourceTimeout (tb : Fin 4) (s : State) (t : State) (h : execPtpSourceTimeout tb s = .next t) :
    Steady (held s) (held t) := by
  unfold execPtpSourceTimeout at h
  cases h
  exact .of_eq (by simp)

theorem steady_execTbrefStartupTimeout (s : State) (t : State) (h : execTbrefStartupTimeout s = .next t) :
    Steady (held s) (held t) := by
  unfold execTbrefStartupTimeout at h
  cases h
  exact .of_eq (by simp)

theorem steady_execTbrefLoss (s : State) (t : State) (h : execTbrefLoss s = .next t) :
    Steady (held s) (held t) := by
  unfold execTbrefLoss at h
  cases h
  exact .of_eq (by simp)

theorem steady_execTbrefRestore (s : State) (t : State) (h : execTbrefRestore s = .next t) :
    Steady (held s) (held t) := by
  unfold execTbrefRestore at h
  cases h
  exact .of_eq (by (repeat' split) <;> simp)

theorem steady_execStationSightingReport (key : StationKey) (s : State) (t : State) (h : execStationSightingReport key s = .next t) :
    Steady (held s) (held t) := by
  unfold execStationSightingReport at h
  cases h
  exact .of_eq (by (repeat' split) <;> simp)

theorem steady_execStationAgeOut (key : StationKey) (s : State) (t : State) (h : execStationAgeOut key s = .next t) :
    Steady (held s) (held t) := by
  unfold execStationAgeOut at h
  cases h
  exact .of_eq (by (repeat' split) <;> simp)

theorem steady_execTellerWriteRequest (req : TellerRequest) (s : State) (t : State) (h : execTellerWriteRequest req s = .next t) :
    Steady (held s) (held t) := by
  unfold execTellerWriteRequest at h
  cases h
  exact .of_eq (by simp)

theorem steady_execTellerCommit (s : State) (t : State) (h : execTellerCommit s = .next t) :
    Steady (held s) (held t) := by
  unfold execTellerCommit at h
  cases h
  exact .of_eq (by simp)

theorem steady_execStationEntryApply (update : StationUpdate) (s : State) (t : State) (h : execStationEntryApply update s = .next t) :
    Steady (held s) (held t) := by
  unfold execStationEntryApply at h
  cases h
  exact .of_eq (by simp)

theorem steady_execLatchSilenceTimeout (handle : Word32) (s : State) (t : State) (h : execLatchSilenceTimeout handle s = .next t) :
    Steady (held s) (held t) := by
  unfold execLatchSilenceTimeout at h
  cases h
  exact .of_eq (by (repeat' split) <;> simp)

theorem steady_execSessionAdd (src : Source) (c : Cmd) (s : State) (t : State) (h : execSessionAdd src c s = .next t) :
    Steady (held s) (held t) := by
  unfold execSessionAdd at h
  cases h
  exact .of_eq (by simp)

theorem steady_execSessionModify (src : Source) (c : Cmd) (s : State) (t : State) (h : execSessionModify src c s = .next t) :
    Steady (held s) (held t) := by
  unfold execSessionModify at h
  cases h
  exact .of_eq (by simp)

theorem steady_execSessionDelete (src : Source) (c : Cmd) (s : State) (t : State) (h : execSessionDelete src c s = .next t) :
    Steady (held s) (held t) := by
  unfold execSessionDelete at h
  cases h
  exact .of_eq (by simp)

theorem steady_execSessionQuery (src : Source) (c : Cmd) (s : State) (t : State) (h : execSessionQuery src c s = .next t) :
    Steady (held s) (held t) := by
  unfold execSessionQuery at h
  cases h
  exact .of_eq (by simp)

theorem steady_execRelatch (src : Source) (c : Cmd) (s : State) (t : State) (h : execRelatch src c s = .next t) :
    Steady (held s) (held t) := by
  unfold execRelatch at h
  cases h
  exact .of_eq (by simp)

theorem steady_execStationAdd (src : Source) (c : Cmd) (s : State) (t : State) (h : execStationAdd src c s = .next t) :
    Steady (held s) (held t) := by
  unfold execStationAdd at h
  cases h
  exact .of_eq (by simp)

theorem steady_execStationDelete (src : Source) (c : Cmd) (s : State) (t : State) (h : execStationDelete src c s = .next t) :
    Steady (held s) (held t) := by
  unfold execStationDelete at h
  cases h
  exact .of_eq (by simp)

theorem steady_execStationQuery (src : Source) (c : Cmd) (s : State) (t : State) (h : execStationQuery src c s = .next t) :
    Steady (held s) (held t) := by
  unfold execStationQuery at h
  cases h
  exact .of_eq (by simp)

theorem steady_execLaunchGrant (port : Fin 8) (s : State) (t : State) (h : execLaunchGrant port s = .next t) :
    Steady (held s) (held t) := by
  unfold execLaunchGrant at h
  cases h
  exact .of_eq (by simp)

theorem steady_execPtpFwdTimeout (port : Fin 8) (s : State) (t : State) (h : execPtpFwdTimeout port s = .next t) :
    Steady (held s) (held t) := by
  unfold execPtpFwdTimeout at h
  cases h
  exact .of_eq (by (repeat' split) <;> simp)

theorem steady_execPtpMessageSend (tb : Fin 4) (event : Bool) (s : State) (t : State) (h : execPtpMessageSend tb event s = .next t) :
    Steady (held s) (held t) := by
  unfold execPtpMessageSend at h
  cases h
  exact .of_eq (by (repeat' split) <;> simp)

theorem steady_execLaunchQueueSet (src : Source) (c : Cmd) (s : State) (t : State) (h : execLaunchQueueSet src c s = .next t) :
    Steady (held s) (held t) := by
  unfold execLaunchQueueSet at h
  cases h
  exact .of_eq (by simp)

theorem steady_execLaunchCancel (src : Source) (c : Cmd) (s : State) (t : State) (h : execLaunchCancel src c s = .next t) :
    Steady (held s) (held t) := by
  unfold execLaunchCancel at h
  cases h
  exact .of_eq (by simp)

theorem steady_execJbTargetUpdate (channel : Word32) (leg : Leg) (s : State) (t : State) (h : execJbTargetUpdate channel leg s = .next t) :
    Steady (held s) (held t) := by
  unfold execJbTargetUpdate at h
  cases h
  exact .of_eq (by (repeat' split) <;> simp)

theorem steady_execJitterSet (src : Source) (c : Cmd) (s : State) (t : State) (h : execJitterSet src c s = .next t) :
    Steady (held s) (held t) := by
  unfold execJitterSet at h
  cases h
  exact .of_eq (by simp)

theorem steady_execFcuPhaseSet (src : Source) (c : Cmd) (s : State) (t : State) (h : execFcuPhaseSet src c s = .next t) :
    Steady (held s) (held t) := by
  unfold execFcuPhaseSet at h
  cases h
  exact .of_eq (by simp)

theorem steady_execFcuLevelSet (src : Source) (c : Cmd) (s : State) (t : State) (h : execFcuLevelSet src c s = .next t) :
    Steady (held s) (held t) := by
  unfold execFcuLevelSet at h
  cases h
  exact .of_eq (by simp)

theorem steady_execGovernorStepDown (s : State) (t : State) (h : execGovernorStepDown s = .next t) :
    Steady (held s) (held t) := by
  unfold execGovernorStepDown at h
  cases h
  exact .of_eq (by (repeat' split) <;> simp)

theorem steady_execVddCoreLow (railMv : Nat) (s : State) (t : State) (h : execVddCoreLow railMv s = .next t) :
    Steady (held s) (held t) := by
  unfold execVddCoreLow at h
  (repeat' split at h) <;> cases h <;> exact .of_eq (by simp)

theorem steady_execGovernorSet (src : Source) (c : Cmd) (s : State) (t : State) (h : execGovernorSet src c s = .next t) :
    Steady (held s) (held t) := by
  unfold execGovernorSet at h
  cases h
  exact .of_eq (by simp)

theorem steady_execPaceReport (src : Source) (c : Cmd) (s : State) (t : State) (h : execPaceReport src c s = .next t) :
    Steady (held s) (held t) := by
  unfold execPaceReport at h
  cases h
  exact .of_eq (by simp)

theorem steady_execChannelOpen (src : Source) (c : Cmd) (s : State) (t : State) (h : execChannelOpen src c s = .next t) :
    Steady (held s) (held t) := by
  unfold execChannelOpen at h
  cases h
  exact .of_eq (by simp)

theorem steady_execChannelClose (src : Source) (c : Cmd) (s : State) (t : State) (h : execChannelClose src c s = .next t) :
    Steady (held s) (held t) := by
  unfold execChannelClose at h
  cases h
  exact .of_eq (by simp)

theorem steady_execChannelModify (src : Source) (c : Cmd) (s : State) (t : State) (h : execChannelModify src c s = .next t) :
    Steady (held s) (held t) := by
  unfold execChannelModify at h
  cases h
  exact .of_eq (by simp)

theorem steady_execChannelQuery (src : Source) (c : Cmd) (s : State) (t : State) (h : execChannelQuery src c s = .next t) :
    Steady (held s) (held t) := by
  unfold execChannelQuery at h
  cases h
  exact .of_eq (by simp)

theorem steady_execSrtpKeySet (src : Source) (c : Cmd) (s : State) (t : State) (h : execSrtpKeySet src c s = .next t) :
    Steady (held s) (held t) := by
  unfold execSrtpKeySet at h
  cases h
  exact .of_eq (by simp)

theorem steady_execRtcpReportTimer (channel : Word32) (leg : Leg) (s : State) (t : State) (h : execRtcpReportTimer channel leg s = .next t) :
    Steady (held s) (held t) := by
  unfold execRtcpReportTimer at h
  cases h
  exact .of_eq (by (repeat' split) <;> simp)

theorem steady_execConfCreate (src : Source) (c : Cmd) (s : State) (t : State) (h : execConfCreate src c s = .next t) :
    Steady (held s) (held t) := by
  unfold execConfCreate at h
  cases h
  exact .of_eq (by simp)

theorem steady_execConfAddLeg (src : Source) (c : Cmd) (s : State) (t : State) (h : execConfAddLeg src c s = .next t) :
    Steady (held s) (held t) := by
  unfold execConfAddLeg at h
  cases h
  exact .of_eq (by simp)

theorem steady_execConfRemoveLeg (src : Source) (c : Cmd) (s : State) (t : State) (h : execConfRemoveLeg src c s = .next t) :
    Steady (held s) (held t) := by
  unfold execConfRemoveLeg at h
  cases h
  exact .of_eq (by simp)

theorem steady_execConfDestroy (src : Source) (c : Cmd) (s : State) (t : State) (h : execConfDestroy src c s = .next t) :
    Steady (held s) (held t) := by
  unfold execConfDestroy at h
  cases h
  exact .of_eq (by simp)

theorem steady_execToneGenerate (src : Source) (c : Cmd) (s : State) (t : State) (h : execToneGenerate src c s = .next t) :
    Steady (held s) (held t) := by
  unfold execToneGenerate at h
  cases h
  exact .of_eq (by simp)

theorem steady_execToneStop (src : Source) (c : Cmd) (s : State) (t : State) (h : execToneStop src c s = .next t) :
    Steady (held s) (held t) := by
  unfold execToneStop at h
  cases h
  exact .of_eq (by simp)

theorem steady_execToneDetectSet (src : Source) (c : Cmd) (s : State) (t : State) (h : execToneDetectSet src c s = .next t) :
    Steady (held s) (held t) := by
  unfold execToneDetectSet at h
  cases h
  exact .of_eq (by simp)

theorem steady_execPortSet (src : Source) (c : Cmd) (s : State) (t : State) (h : execPortSet src c s = .next t) :
    Steady (held s) (held t) := by
  unfold execPortSet at h
  cases h
  exact .of_eq (by simp)

theorem steady_execPortStatus (src : Source) (c : Cmd) (s : State) (t : State) (h : execPortStatus src c s = .next t) :
    Steady (held s) (held t) := by
  unfold execPortStatus at h
  cases h
  exact .of_eq (by simp)

theorem steady_execBlockLockLoss (port : Fin 8) (midFrame : Bool) (s : State) (t : State) (h : execBlockLockLoss port midFrame s = .next t) :
    Steady (held s) (held t) := by
  unfold execBlockLockLoss at h
  cases h
  exact .of_eq (by simp)

theorem steady_execMLaneBlockLock (port : Fin 8) (s : State) (t : State) (h : execMLaneBlockLock port s = .next t) :
    Steady (held s) (held t) := by
  unfold execMLaneBlockLock at h
  cases h
  exact .of_eq (by simp)

theorem steady_execMLanePolarityCheck (port : Fin 8) (inverted : Bool) (s : State) (t : State) (h : execMLanePolarityCheck port inverted s = .next t) :
    Steady (held s) (held t) := by
  unfold execMLanePolarityCheck at h
  cases h
  exact .of_eq (by dsimp only; (repeat' split) <;> simp)

theorem steady_execPortLinkUpHold (port : Fin 8) (s : State) (t : State) (h : execPortLinkUpHold port s = .next t) :
    Steady (held s) (held t) := by
  unfold execPortLinkUpHold at h
  cases h
  exact .of_eq (by simp)

theorem steady_execPortLinkDownHold (port : Fin 8) (s : State) (t : State) (h : execPortLinkDownHold port s = .next t) :
    Steady (held s) (held t) := by
  unfold execPortLinkDownHold at h
  cases h
  exact .of_eq (by simp)

theorem steady_execLocalFault (port : Fin 8) (on : Bool) (s : State) (t : State) (h : execLocalFault port on s = .next t) :
    Steady (held s) (held t) := by
  unfold execLocalFault at h
  cases h
  exact .of_eq (by simp)

theorem steady_execRemoteFault (port : Fin 8) (on : Bool) (s : State) (t : State) (h : execRemoteFault port on s = .next t) :
    Steady (held s) (held t) := by
  unfold execRemoteFault at h
  cases h
  exact .of_eq (by simp)

theorem steady_execHiBer (port : Fin 8) (on : Bool) (s : State) (t : State) (h : execHiBer port on s = .next t) :
    Steady (held s) (held t) := by
  unfold execHiBer at h
  cases h
  exact .of_eq (by simp)

theorem steady_execPtpPortSet (src : Source) (c : Cmd) (s : State) (t : State) (h : execPtpPortSet src c s = .next t) :
    Steady (held s) (held t) := by
  unfold execPtpPortSet at h
  cases h
  exact .of_eq (by simp)

theorem steady_execPortFrameReceived (port : Fin 8) (frame : RxFrame) (s : State) (t : State) (h : execPortFrameReceived port frame s = .next t) :
    Steady (held s) (held t) := by
  unfold execPortFrameReceived at h
  cases h
  exact .of_eq (by simp)

theorem steady_execSuspendedPlacementRetry (s : State) (t : State) (h : execSuspendedPlacementRetry s = .next t) :
    Steady (held s) (held t) := by
  unfold execSuspendedPlacementRetry at h
  cases h
  exact .of_eq (by simp)

theorem steady_execMigrationCopyAck (channel : Word32) (s : State) (t : State) (h : execMigrationCopyAck channel s = .next t) :
    Steady (held s) (held t) := by
  unfold execMigrationCopyAck at h
  cases h
  exact .of_eq (by (repeat' split) <;> simp)

theorem steady_execLaneSignalDetect (lane : Fin 40) (s : State) (t : State) (h : execLaneSignalDetect lane s = .next t) :
    Steady (held s) (held t) := by
  unfold execLaneSignalDetect at h
  cases h
  exact .of_eq (by simp)

theorem steady_execLaneCdrLoss (lane : Fin 40) (s : State) (t : State) (h : execLaneCdrLoss lane s = .next t) :
    Steady (held s) (held t) := by
  unfold execLaneCdrLoss at h
  cases h
  exact .of_eq (by simp)

theorem steady_execTLaneCommaAlign (lane : Fin 32) (inverted : Bool) (laneId : Nat) (s : State) (t : State) (h : execTLaneCommaAlign lane inverted laneId s = .next t) :
    Steady (held s) (held t) := by
  unfold execTLaneCommaAlign at h
  cases h
  exact .of_eq (by simp)

theorem steady_execTLaneAlignLoss (lane : Fin 32) (codeErrors : Nat) (disparityErrors : Nat) (s : State) (t : State) (h : execTLaneAlignLoss lane codeErrors disparityErrors s = .next t) :
    Steady (held s) (held t) := by
  unfold execTLaneAlignLoss at h
  cases h
  exact .of_eq (by simp)

theorem steady_execLaneFaultRetry (link : Fin 4) (s : State) (t : State) (h : execLaneFaultRetry link s = .next t) :
    Steady (held s) (held t) := by
  unfold execLaneFaultRetry at h
  cases h
  exact .of_eq (by simp)

theorem steady_execLaneSet (src : Source) (c : Cmd) (s : State) (t : State) (h : execLaneSet src c s = .next t) :
    Steady (held s) (held t) := by
  unfold execLaneSet at h
  cases h
  exact .of_eq (by simp)

theorem steady_execLaneEqTableSet (src : Source) (c : Cmd) (s : State) (t : State) (h : execLaneEqTableSet src c s = .next t) :
    Steady (held s) (held t) := by
  unfold execLaneEqTableSet at h
  cases h
  exact .of_eq (by simp)

theorem steady_execEyeScan (src : Source) (c : Cmd) (s : State) (t : State) (h : execEyeScan src c s = .next t) :
    Steady (held s) (held t) := by
  unfold execEyeScan at h
  cases h
  exact .of_eq (by simp)

theorem steady_execEyeScanPointDone (lane : Fin 40) (errors : Nat) (s : State) (t : State) (h : execEyeScanPointDone lane errors s = .next t) :
    Steady (held s) (held t) := by
  unfold execEyeScanPointDone at h
  cases h
  exact .of_eq (by (repeat' split) <;> simp)

theorem steady_execLaneLoopback (src : Source) (c : Cmd) (s : State) (t : State) (h : execLaneLoopback src c s = .next t) :
    Steady (held s) (held t) := by
  unfold execLaneLoopback at h
  cases h
  exact .of_eq (by simp)

theorem steady_execPrbsSet (src : Source) (c : Cmd) (s : State) (t : State) (h : execPrbsSet src c s = .next t) :
    Steady (held s) (held t) := by
  unfold execPrbsSet at h
  cases h
  exact .of_eq (by simp)

theorem steady_execPrbsCheck (src : Source) (c : Cmd) (s : State) (t : State) (h : execPrbsCheck src c s = .next t) :
    Steady (held s) (held t) := by
  unfold execPrbsCheck at h
  cases h
  exact .of_eq (by simp)

theorem steady_execErrorInject (src : Source) (c : Cmd) (s : State) (t : State) (h : execErrorInject src c s = .next t) :
    Steady (held s) (held t) := by
  unfold execErrorInject at h
  cases h
  exact .of_eq (by simp)

theorem steady_execErrorInjectInterval (lane : Fin 40) (s : State) (t : State) (h : execErrorInjectInterval lane s = .next t) :
    Steady (held s) (held t) := by
  unfold execErrorInjectInterval at h
  cases h
  exact .of_eq (by simp)

theorem steady_execPrbsCheckerLock (lane : Fin 40) (s : State) (t : State) (h : execPrbsCheckerLock lane s = .next t) :
    Steady (held s) (held t) := by
  unfold execPrbsCheckerLock at h
  cases h
  exact .of_eq (by simp)

theorem steady_execPrbsLockLoss (lane : Fin 40) (bits : Nat) (errors : Nat) (s : State) (t : State) (h : execPrbsLockLoss lane bits errors s = .next t) :
    Steady (held s) (held t) := by
  unfold execPrbsLockLoss at h
  cases h
  exact .of_eq (by simp)

theorem steady_execTylaneAck (link : Fin 4) (h : TyHeader) (s : State) (t : State) (h : execTylaneAck link h s = .next t) :
    Steady (held s) (held t) := by
  unfold execTylaneAck at h
  cases h
  exact .of_eq (by simp)

theorem steady_execTylaneReplayTimeout (link : Fin 4) (s : State) (t : State) (h : execTylaneReplayTimeout link s = .next t) :
    Steady (held s) (held t) := by
  unfold execTylaneReplayTimeout at h
  cases h
  exact .of_eq (by dsimp only; (repeat' split) <;> simp)

theorem steady_execTylaneLinkBringup (link : Fin 4) (nodeLink : Byte) (s : State) (t : State) (h : execTylaneLinkBringup link nodeLink s = .next t) :
    Steady (held s) (held t) := by
  unfold execTylaneLinkBringup at h
  cases h
  exact .of_eq (by simp)

theorem steady_execLinkHalfTimeout (link : Fin 4) (nodeLink : Byte) (s : State) (t : State) (h : execLinkHalfTimeout link nodeLink s = .next t) :
    Steady (held s) (held t) := by
  unfold execLinkHalfTimeout at h
  cases h
  exact .of_eq (by simp)

theorem steady_execWiringRetry (link : Fin 4) (s : State) (t : State) (h : execWiringRetry link s = .next t) :
    Steady (held s) (held t) := by
  unfold execWiringRetry at h
  cases h
  exact .of_eq (by simp)

theorem steady_execTylaneDelayProbe (link : Fin 4) (t1 : Nat) (t2 : Nat) (t3 : Nat) (t4 : Nat) (s : State) (t : State) (h : execTylaneDelayProbe link t1 t2 t3 t4 s = .next t) :
    Steady (held s) (held t) := by
  unfold execTylaneDelayProbe at h
  cases h
  exact .of_eq (by simp)

theorem steady_execLaneErrorWindow (lane : Fin 32) (s : State) (t : State) (h : execLaneErrorWindow lane s = .next t) :
    Steady (held s) (held t) := by
  unfold execLaneErrorWindow at h
  cases h
  exact .of_eq (by simp)

theorem steady_execTylaneMediaFrame (link : Fin 4) (h : TyHeader) (m : TyMedia) (s : State) (t : State) (h : execTylaneMediaFrame link h m s = .next t) :
    Steady (held s) (held t) := by
  unfold execTylaneMediaFrame at h
  cases h
  exact steady_deliverHere _ _ _ _ (fun _ => .of_eq (by (repeat' split) <;> simp)) _

theorem steady_execTylanePtpCopy (link : Fin 4) (h : TyHeader) (copy : PtpCopy) (s : State) (t : State) (h : execTylanePtpCopy link h copy s = .next t) :
    Steady (held s) (held t) := by
  unfold execTylanePtpCopy at h
  cases h
  exact steady_deliverHere _ _ _ _ (fun _ => .of_eq (by dsimp only; split <;> simp)) _

theorem steady_execViewPublish (s : State) (t : State) (h : execViewPublish s = .next t) :
    Steady (held s) (held t) := by
  unfold execViewPublish at h
  cases h
  exact .of_eq (by simp)

theorem steady_execHeartbeatSend (s : State) (t : State) (h : execHeartbeatSend s = .next t) :
    Steady (held s) (held t) := by
  unfold execHeartbeatSend at h
  cases h
  exact .of_eq (by simp)

theorem steady_execNodeUnheard (node : Fin 16) (s : State) (t : State) (h : execNodeUnheard node s = .next t) :
    Steady (held s) (held t) := by
  unfold execNodeUnheard at h
  cases h
  exact .of_eq (by (repeat' split) <;> simp)

theorem steady_execClusterJoin (src : Source) (c : Cmd) (s : State) (t : State) (h : execClusterJoin src c s = .next t) :
    Steady (held s) (held t) := by
  unfold execClusterJoin at h
  cases h
  exact .of_eq (by simp)

theorem steady_execClusterLeave (src : Source) (c : Cmd) (s : State) (t : State) (h : execClusterLeave src c s = .next t) :
    Steady (held s) (held t) := by
  unfold execClusterLeave at h
  cases h
  exact .of_eq (by simp)

theorem steady_execClusterLeaveResetWait (s : State) (t : State) (h : execClusterLeaveResetWait s = .next t) :
    Steady (held s) (held t) := by
  unfold execClusterLeaveResetWait at h
  cases h
  exact .of_eq (by dsimp only; (repeat' split) <;> simp)

theorem steady_execClusterStatus (src : Source) (c : Cmd) (s : State) (t : State) (h : execClusterStatus src c s = .next t) :
    Steady (held s) (held t) := by
  unfold execClusterStatus at h
  cases h
  exact .of_eq (by simp)

theorem steady_execChannelMigrate (src : Source) (c : Cmd) (s : State) (t : State) (h : execChannelMigrate src c s = .next t) :
    Steady (held s) (held t) := by
  unfold execChannelMigrate at h
  cases h
  exact .of_eq (by simp)

theorem steady_execDrainMoveStart (s : State) (t : State) (h : execDrainMoveStart s = .next t) :
    Steady (held s) (held t) := by
  unfold execDrainMoveStart at h
  cases h
  exact .of_eq (by (repeat' split) <;> simp)

theorem steady_execTaskEnd (engine : Fin 64) (report : TaskReport) (s : State) (t : State) (h : execTaskEnd engine report s = .next t) :
    Steady (held s) (held t) := by
  unfold execTaskEnd at h
  cases h
  exact .of_eq (by dsimp only; (repeat' split) <;> simp)

theorem steady_execTaskPreempt (engine : Fin 64) (s : State) (t : State) (h : execTaskPreempt engine s = .next t) :
    Steady (held s) (held t) := by
  unfold execTaskPreempt at h
  cases h
  exact .of_eq (by dsimp only; (repeat' split) <;> simp)

theorem steady_execHandshakeStall (engine : Fin 64) (s : State) (t : State) (h : execHandshakeStall engine s = .next t) :
    Steady (held s) (held t) := by
  unfold execHandshakeStall at h
  cases h
  exact .of_eq (by simp)

theorem steady_execWorkingMemoryUe (engine : Fin 64) (s : State) (t : State) (h : execWorkingMemoryUe engine s = .next t) :
    Steady (held s) (held t) := by
  unfold execWorkingMemoryUe at h
  cases h
  exact .of_eq (by simp)

theorem steady_execCalForcedTake (s : State) (t : State) (h : execCalForcedTake s = .next t) :
    Steady (held s) (held t) := by
  unfold execCalForcedTake at h
  cases h
  exact .of_eq (by (repeat' split) <;> simp)

theorem steady_execCalSliceEnd (engine : Fin 64) (result : SliceResult) (s : State) (t : State) (h : execCalSliceEnd engine result s = .next t) :
    Steady (held s) (held t) := by
  unfold execCalSliceEnd at h
  cases h
  exact .of_eq (by dsimp only; (repeat' split) <;> simp)

theorem steady_execTillUncorrectableError (row : Fin 32768) (address : Nat) (s : State) (t : State) (h : execTillUncorrectableError row address s = .next t) :
    Steady (held s) (held t) := by
  unfold execTillUncorrectableError at h
  cases h
  exact .of_eq (by simp)

theorem steady_execVaultUncorrectableError (row : Nat) (address : Nat) (repairLeft : Bool) (s : State) (t : State) (h : execVaultUncorrectableError row address repairLeft s = .next t) :
    Steady (held s) (held t) := by
  unfold execVaultUncorrectableError at h
  cases h
  exact .of_eq (by simp)

theorem steady_execVaultRowRepairComplete (row : Nat) (s : State) (t : State) (h : execVaultRowRepairComplete row s = .next t) :
    Steady (held s) (held t) := by
  unfold execVaultRowRepairComplete at h
  cases h
  exact .of_eq (by simp)

theorem steady_execRetire (src : Source) (c : Cmd) (s : State) (t : State) (h : execRetire src c s = .next t) :
    Steady (held s) (held t) := by
  unfold execRetire at h
  cases h
  exact .of_eq (by simp)

theorem steady_execReinstate (src : Source) (c : Cmd) (s : State) (t : State) (h : execReinstate src c s = .next t) :
    Steady (held s) (held t) := by
  unfold execReinstate at h
  cases h
  exact .of_eq (by simp)

theorem steady_execRetirementMapGet (src : Source) (c : Cmd) (s : State) (t : State) (h : execRetirementMapGet src c s = .next t) :
    Steady (held s) (held t) := by
  unfold execRetirementMapGet at h
  cases h
  exact .of_eq (by simp)

theorem steady_execFaultLogRead (src : Source) (c : Cmd) (s : State) (t : State) (h : execFaultLogRead src c s = .next t) :
    Steady (held s) (held t) := by
  unfold execFaultLogRead at h
  cases h
  exact .of_eq (by simp)

theorem steady_execNop (src : Source) (c : Cmd) (s : State) (t : State) (h : execNop src c s = .next t) :
    Steady (held s) (held t) := by
  unfold execNop at h
  cases h
  exact .of_eq (by simp)

theorem steady_execIdentify (src : Source) (c : Cmd) (s : State) (t : State) (h : execIdentify src c s = .next t) :
    Steady (held s) (held t) := by
  unfold execIdentify at h
  cases h
  exact .of_eq (by simp)

theorem steady_execVersionGet (src : Source) (c : Cmd) (s : State) (t : State) (h : execVersionGet src c s = .next t) :
    Steady (held s) (held t) := by
  unfold execVersionGet at h
  cases h
  exact .of_eq (by simp)

theorem steady_execEqSteerSet (src : Source) (c : Cmd) (s : State) (t : State) (h : execEqSteerSet src c s = .next t) :
    Steady (held s) (held t) := by
  unfold execEqSteerSet at h
  cases h
  exact .of_eq (by simp)

theorem steady_execDiagWindowMap (src : Source) (c : Cmd) (s : State) (t : State) (h : execDiagWindowMap src c s = .next t) :
    Steady (held s) (held t) := by
  unfold execDiagWindowMap at h
  cases h
  exact .of_eq (by simp)

theorem steady_execCounterRead (src : Source) (c : Cmd) (s : State) (t : State) (h : execCounterRead src c s = .next t) :
    Steady (held s) (held t) := by
  unfold execCounterRead at h
  cases h
  exact .of_eq (by simp)

theorem steady_execTelemetryRead (src : Source) (c : Cmd) (s : State) (t : State) (h : execTelemetryRead src c s = .next t) :
    Steady (held s) (held t) := by
  unfold execTelemetryRead at h
  cases h
  exact .of_eq (by simp)

theorem steady_execSettingsSave (src : Source) (c : Cmd) (s : State) (t : State) (h : execSettingsSave src c s = .next t) :
    Steady (held s) (held t) := by
  unfold execSettingsSave at h
  cases h
  exact .of_eq (by simp)

theorem steady_execSettingsStatus (src : Source) (c : Cmd) (s : State) (t : State) (h : execSettingsStatus src c s = .next t) :
    Steady (held s) (held t) := by
  unfold execSettingsStatus at h
  cases h
  exact .of_eq (by simp)

theorem steady_execSettingsRevert (src : Source) (c : Cmd) (s : State) (t : State) (h : execSettingsRevert src c s = .next t) :
    Steady (held s) (held t) := by
  unfold execSettingsRevert at h
  cases h
  exact .of_eq (by simp)

theorem steady_execSettingsFactory (src : Source) (c : Cmd) (s : State) (t : State) (h : execSettingsFactory src c s = .next t) :
    Steady (held s) (held t) := by
  unfold execSettingsFactory at h
  cases h
  exact .of_eq (by simp)

theorem steady_execStewardLockstepMismatch (s : State) (t : State) (h : execStewardLockstepMismatch s = .next t) :
    Steady (held s) (held t) := by
  unfold execStewardLockstepMismatch at h
  cases h
  exact steady_ite (steady_enterHalt _ _) (.of_eq rfl)

theorem steady_execStewardSramUe (s : State) (t : State) (h : execStewardSramUe s = .next t) :
    Steady (held s) (held t) := by
  unfold execStewardSramUe at h
  cases h
  exact steady_ite ((Steady.of_eq (held_count _ _)).trans (steady_enterHalt _ _)) (.of_eq rfl)

theorem steady_execRhoperFatalAssertion (s : State) (t : State) (h : execRhoperFatalAssertion s = .next t) :
    Steady (held s) (held t) := by
  unfold execRhoperFatalAssertion at h
  cases h
  refine steady_ite (Steady.trans ?_ (steady_enterHalt _ _)) (.of_eq rfl)
  exact .of_eq (by simp)

theorem steady_execPor (x0 : PorRail) (s : State) (t : State) (h : execPor x0 s = .next t) :
    Steady (held s) (held t) := by
  unfold execPor at h
  cases h
  refine Steady.trans ?_ (steady_assertReset _ _ _ _)
  exact .of_eq rfl

theorem steady_execResetNAssert (lowNs : Nat) (s : State) (t : State) (h : execResetNAssert lowNs s = .next t) :
    Steady (held s) (held t) := by
  unfold execResetNAssert at h
  cases h
  refine steady_ite (.of_eq rfl) (steady_ite (.of_eq rfl) (Steady.trans ?_ (steady_assertReset _ _ _ _)))
  exact .of_eq rfl

theorem steady_execWatchdogExpiry (s : State) (t : State) (h : execWatchdogExpiry s = .next t) :
    Steady (held s) (held t) := by
  unfold execWatchdogExpiry at h
  cases h
  exact steady_ite (steady_assertReset _ _ _ _) (.of_eq rfl)

theorem steady_execRemoteResetRequest (node : Fin 16) (cold : Bool) (s : State) (t : State) (h : execRemoteResetRequest node cold s = .next t) :
    Steady (held s) (held t) := by
  unfold execRemoteResetRequest at h
  cases h
  refine steady_ite ?_ (.of_eq (held_count _ _))
  exact (steady_assertReset .remote cold 0 s).trans (.of_eq rfl)

theorem steady_execResetOutRelease (s : State) (t : State) (h : execResetOutRelease s = .next t) :
    Steady (held s) (held t) := by
  unfold execResetOutRelease at h
  cases h
  exact .of_eq (by simp)

theorem steady_execBlockIdle (block : Fin 84) (s : State) (t : State) (h : execBlockIdle block s = .next t) :
    Steady (held s) (held t) := by
  unfold execBlockIdle at h
  cases h
  exact .of_eq (by (repeat' split) <;> simp)

theorem steady_execBlockResetRelease (block : Fin 84) (s : State) (t : State) (h : execBlockResetRelease block s = .next t) :
    Steady (held s) (held t) := by
  unfold execBlockResetRelease at h
  cases h
  dsimp only
  split
  · exact .of_eq rfl
  refine steady_ite (.of_eq rfl) ?_
  refine steady_ite ?_ ?_
  all_goals
    try rw [held_grantAll]
    rw [held_raiseBlockDone]
    refine Steady.trans ?_ (steady_foldl _ _ (fun s a => .of_eq (by split <;> simp)) _)
    exact .of_eq (by simp)

theorem steady_execResetCtrlCold (w : Word32) (s : State) (t : State) (h : execResetCtrlCold w s = .next t) :
    Steady (held s) (held t) := by
  unfold execResetCtrlCold at h
  cases h
  exact steady_resetCtrlWrite _ _

theorem steady_execResetCtrlWarm (w : Word32) (s : State) (t : State) (h : execResetCtrlWarm w s = .next t) :
    Steady (held s) (held t) := by
  unfold execResetCtrlWarm at h
  cases h
  exact steady_resetCtrlWrite _ _

theorem steady_execResetCtrlBlock (w : Word32) (s : State) (t : State) (h : execResetCtrlBlock w s = .next t) :
    Steady (held s) (held t) := by
  unfold execResetCtrlBlock at h
  cases h
  exact steady_resetCtrlWrite _ _

theorem steady_execPerstNAssert (s : State) (t : State) (h : execPerstNAssert s = .next t) :
    Steady (held s) (held t) := by
  unfold execPerstNAssert at h
  cases h
  dsimp only
  split
  · refine Steady.trans ?_ (steady_assertReset _ _ _ _)
    exact .of_eq rfl
  · split <;> exact .of_eq (by simp)

theorem steady_execPerstNDeassert (s : State) (t : State) (h : execPerstNDeassert s = .next t) :
    Steady (held s) (held t) := by
  unfold execPerstNDeassert at h
  cases h
  exact .of_eq (by simp)

theorem steady_execFunctionLevelReset (s : State) (t : State) (h : execFunctionLevelReset s = .next t) :
    Steady (held s) (held t) := by
  unfold execFunctionLevelReset at h
  cases h
  exact .of_eq (by simp)

theorem steady_execDeviceReset (src : Source) (c : Cmd) (s : State) (t : State) (h : execDeviceReset src c s = .next t) :
    Steady (held s) (held t) := by
  unfold execDeviceReset at h
  cases h
  exact steady_takeCommand _ _ _ _ _ steady_deviceResetBegin _

theorem steady_execImageDownload (src : Source) (c : Cmd) (s : State) (t : State) (h : execImageDownload src c s = .next t) :
    Steady (held s) (held t) := by
  unfold execImageDownload at h
  cases h
  exact .of_eq (by simp)

theorem steady_execImageVerify (src : Source) (c : Cmd) (s : State) (t : State) (h : execImageVerify src c s = .next t) :
    Steady (held s) (held t) := by
  unfold execImageVerify at h
  cases h
  exact .of_eq (by simp)

theorem steady_execImageActivate (src : Source) (c : Cmd) (s : State) (t : State) (h : execImageActivate src c s = .next t) :
    Steady (held s) (held t) := by
  unfold execImageActivate at h
  cases h
  exact steady_takeCommand _ _ _ _ _ steady_imageActivateBegin _

theorem steady_execImageConfirm (src : Source) (c : Cmd) (s : State) (t : State) (h : execImageConfirm src c s = .next t) :
    Steady (held s) (held t) := by
  unfold execImageConfirm at h
  cases h
  exact .of_eq (by simp)

theorem steady_execImageStatus (src : Source) (c : Cmd) (s : State) (t : State) (h : execImageStatus src c s = .next t) :
    Steady (held s) (held t) := by
  unfold execImageStatus at h
  cases h
  exact .of_eq (by simp)

theorem steady_execTrialWatchdogExpiry (s : State) (t : State) (h : execTrialWatchdogExpiry s = .next t) :
    Steady (held s) (held t) := by
  unfold execTrialWatchdogExpiry at h
  cases h
  split
  · exact .of_eq rfl
  split
  · exact .of_eq rfl
  dsimp only
  refine steady_ite (Steady.trans ?_ (steady_assertReset _ _ _ _)) ?_ <;> exact .of_eq (by simp)

theorem steady_execResetStretchEnd (rails : StretchRails) (s : State) (t : State)
    (h : execResetStretchEnd rails s = .next t) : Steady (held s) (held t) := by
  unfold execResetStretchEnd at h
  cases h
  exact .of_eq (by (repeat' split) <;> simp)

theorem steady_execIslandPllLock (island : Island) (s : State) (t : State) (h : execIslandPllLock island s = .next t) :
    Steady (held s) (held t) := by
  unfold execIslandPllLock at h
  cases h
  exact .of_eq (by (repeat' split) <;> simp)

theorem steady_execResetWaveComplete (s : State) (t : State) (h : execResetWaveComplete s = .next t) :
    Steady (held s) (held t) := by
  unfold execResetWaveComplete at h
  cases h
  split
  · exact .of_eq rfl
  · rename_i hh
    have hs : s.mode.current = .strap := Classical.byContradiction fun hc => hh (.inl hc)
    have hsw := held_switchMode .loader s
    have hp : (switchMode .loader s).pending = s.pending := congrArg Held.pending hsw
    have hm : (switchMode .loader s).mode = s.mode.switched .loader := congrArg Held.mode hsw
    have hb : (switchMode .loader s).bkp = s.bkp := congrArg Held.bkp hsw
    have hc : (switchMode .loader s).cause = s.cause := congrArg Held.cause hsw
    have ht : (switchMode .loader s).boot.straps = s.boot.straps := congrArg Held.straps hsw
    dsimp only
    generalize hs1 : resumeDownload _ = s1
    have h1 : held s1 = { held s with mode := { s.mode.switched .loader with steward := .rom }, period := 1, frame := 0, boundary := (switchMode .loader s).now } := by
      rw [← hs1, held_resumeDownload, held_startController, held_upd, hp, hm, hb, hc, ht]; rfl
    have st : Steady (held s) (held s1) := by
      rw [h1]
      refine ⟨rfl, rfl, rfl, rfl, fun h => ?_⟩
      have h' : ModeOk s.mode := h
      refine ⟨by simp [ModeReg.switched], by simp [ModeReg.switched], by simp [ModeReg.switched], fun _ => .inl rfl,
        by simp [ModeReg.switched, runModes], by simp [ModeReg.switched], ?_, ?_⟩
      · intro e; simp [ModeReg.switched] at e
      · intro e; have := h'.haltCause e; simp [hs] at this
    have hl1 : s1.mode.current = .loader := congrArg (fun x => x.mode.current) h1
    have hr1 : s1.mode.steward = .rom := congrArg (fun x => x.mode.steward) h1
    refine st.trans (steady_ite (steady_enterRecovery _ hl1 hr1) ?_)
    split
    · exact steady_enterRecovery _ hl1 hr1
    · exact .of_eq (held_linksApply _ _)
    · exact .of_eq rfl
    · exact steady_romChoose _ hl1 hr1

theorem steady_execRhoperStart (s : State) (t : State) (h : execRhoperStart s = .next t) :
    Steady (held s) (held t) := by
  unfold execRhoperStart at h
  cases h
  split
  · exact .of_eq rfl
  · rename_i hh
    have hl : s.mode.current = .loader := Classical.byContradiction fun hc => hh (.inl hc)
    dsimp only
    refine Steady.trans ?_ (.of_eq (held_recoverLog _ _))
    refine ⟨rfl, rfl, rfl, rfl, fun h => ?_⟩
    have h' : ModeOk s.mode := h
    refine ⟨?_, ?_, ?_, fun _ => .inr rfl, fun _ => rfl, h'.transition, h'.auto, h'.haltCause⟩ <;>
      (intro e; rw [held_mode] at e; simp [hl] at e)

theorem steady_execBootComplete (s : State) (t : State) (h : execBootComplete s = .next t) :
    Steady (held s) (held t) := by
  unfold execBootComplete at h
  cases h
  split
  · exact .of_eq rfl
  · rename_i hh
    have hl : s.mode.current = .loader := Classical.byContradiction fun hc => hh (.inl hc)
    have hr : s.mode.steward = .rhoper := Classical.byContradiction fun hc => hh (.inr (by simp [State.rhoper, hc]))
    dsimp only
    have hb := (held_bootSettings (completeBurn { s with boot := { s.boot with stage := 5 } })).trans (held_completeBurn _)
    have hm := held_fields hb
    refine Steady.trans ?_ (.of_eq (held_raiseMode _ _))
    refine Steady.trans ?_ (.of_eq (held_startUnits _))
    refine Steady.trans ?_ (.of_eq (held_governorStart _))
    refine Steady.trans ?_ (steady_switchMode_run .standby _ (by simp [runModes]) (fun _ => ?_) (fun _ => ?_))
    · exact .of_eq hb
    · exact (congrArg ModeReg.steward hm).trans hr
    · exact fun e => by
        have h2 := (congrArg ModeReg.current hm).symm.trans e
        rw [hl] at h2; cases h2

theorem steady_execTylaneBootTimeout (s : State) (t : State) (h : execTylaneBootTimeout s = .next t) :
    Steady (held s) (held t) := by
  unfold execTylaneBootTimeout at h
  cases h
  split
  · rename_i hh
    obtain ⟨hl, hr, _⟩ := hh
    refine Steady.trans ?_ (steady_enterRecovery _ hl (by show s.mode.steward = .rom; simpa [State.inRom] using hr))
    exact .of_eq rfl
  · exact .of_eq rfl

theorem steady_execBootSlot (src : Source) (c : Cmd) (s : State) (t : State) (h : execBootSlot src c s = .next t) :
    Steady (held s) (held t) := by
  unfold execBootSlot at h
  cases h
  exact steady_takeCommand _ _ _ _ _ steady_bootSlotBegin _

theorem steady_execModeSet (src : Source) (c : Cmd) (s : State) (t : State) (h : execModeSet src c s = .next t) :
    Steady (held s) (held t) := by
  unfold execModeSet at h
  cases h
  exact steady_takeCommand _ _ _ _ _ steady_modeSetBegin _

theorem steady_execModeTransitionComplete (s : State) (t : State) (h : execModeTransitionComplete s = .next t) :
    Steady (held s) (held t) := by
  unfold execModeTransitionComplete at h
  cases h
  split
  · exact .of_eq rfl
  · rename_i tr htr
    dsimp only
    refine Steady.trans ?_ (.of_eq (held_raiseMode _ _))
    have key : ∀ auto : Bool, (auto = true → tr.target = .drain) → Steady (held s) (held { switchMode tr.target s with
        mode := { (switchMode tr.target s).mode with autoStandby := auto } }) := by
      intro auto ha
      have hsw := held_switchMode tr.target s
      have hp : (switchMode tr.target s).pending = s.pending := congrArg Held.pending hsw
      have hb : (switchMode tr.target s).bkp = s.bkp := congrArg Held.bkp hsw
      have hca : (switchMode tr.target s).cause = s.cause := congrArg Held.cause hsw
      have hst : (switchMode tr.target s).boot.straps = s.boot.straps := congrArg Held.straps hsw
      refine ⟨hp, hb, hca, hst, fun h => ?_⟩
      have h' : ModeOk s.mode := h
      have ht := h'.transition tr htr
      have hf := running_facts h' ht.1
      have k := (steady_switchMode_run tr.target s ht.2 (fun _ => hf.1) (fun _ => hf.2)).mode h
      have hc : (switchMode tr.target s).mode.current = tr.target := congrArg (fun x => x.mode.current) hsw
      exact ⟨k.strap, k.halt, k.recovery, k.loader, k.running, k.transition, fun e => hc.trans (ha e), k.haltCause⟩
    have fin := key (tr.target == .drain && ((tr.entry.bind s.entry).any fun e => (prmByte e.cmd 17).testBit 0))
      (fun e => by simp only [Bool.and_eq_true, beq_iff_eq] at e; exact e.1)
    split
    · exact fin.trans (.of_eq (held_finish _ _ _ _))
    · exact fin

theorem steady_execAutoStandbyEntry (s : State) (t : State) (h : execAutoStandbyEntry s = .next t) :
    Steady (held s) (held t) := by
  unfold execAutoStandbyEntry at h
  cases h
  dsimp only
  refine (steady_settleForce s).trans ?_
  generalize settleForce s = u
  split
  · rename_i hh
    simp only [Bool.and_eq_true, decide_eq_true_eq] at hh
    have hr : u.mode.current ∈ runModes := by simp [hh.1.1.1, runModes]
    exact (steady_switchMode_run .standby u (by simp [runModes]) (fun h => (running_facts h hr).1)
      (fun h => (running_facts h hr).2)).trans (.of_eq (held_raiseMode _ _))
  · exact .of_eq rfl

theorem steady_execTylaneBootImage (link : Fin 4) (h : TyHeader) (offset : Nat) (data : List Byte) (s : State) (t : State) (h : execTylaneBootImage link h offset data s = .next t) :
    Steady (held s) (held t) := by
  unfold execTylaneBootImage at h
  cases h
  exact steady_deliverHere _ _ _ _ (fun _ => .of_eq (by simp)) _

theorem steady_execMbCmdWrite (tr : SmbusWrite) (s : State) (t : State) (h : execMbCmdWrite tr s = .next t) :
    Steady (held s) (held t) := by
  unfold execMbCmdWrite at h
  cases h
  exact .of_eq (by simp)

theorem steady_execMbCtrlGo (tr : SmbusWrite) (s : State) (t : State) (h : execMbCtrlGo tr s = .next t) :
    Steady (held s) (held t) := by
  unfold execMbCtrlGo at h
  cases h
  exact .of_eq (by simp)

theorem steady_execMbCmplRead (bytes : Nat) (s : State) (t : State) (h : execMbCmplRead bytes s = .next t) :
    Steady (held s) (held t) := by
  unfold execMbCmplRead at h
  cases h
  exact .of_eq (by simp)

theorem steady_execMgmtBusTimeout (s : State) (t : State) (h : execMgmtBusTimeout s = .next t) :
    Steady (held s) (held t) := by
  unfold execMgmtBusTimeout at h
  cases h
  exact .of_eq (by simp)

theorem steady_execEntdaa (address : BitVec 7) (s : State) (t : State) (h : execEntdaa address s = .next t) :
    Steady (held s) (held t) := by
  unfold execEntdaa at h
  cases h
  exact .of_eq (by simp)

theorem steady_execSetdasa (address : BitVec 7) (s : State) (t : State) (h : execSetdasa address s = .next t) :
    Steady (held s) (held t) := by
  unfold execSetdasa at h
  cases h
  exact .of_eq (by simp)

theorem steady_execRstdaa (s : State) (t : State) (h : execRstdaa s = .next t) :
    Steady (held s) (held t) := by
  unfold execRstdaa at h
  cases h
  exact .of_eq (by simp)

theorem steady_execGetpid (s : State) (t : State) (h : execGetpid s = .next t) :
    Steady (held s) (held t) := by
  unfold execGetpid at h
  cases h
  exact .of_eq (by simp)

theorem steady_execGetbcr (s : State) (t : State) (h : execGetbcr s = .next t) :
    Steady (held s) (held t) := by
  unfold execGetbcr at h
  cases h
  exact .of_eq (by simp)

theorem steady_execGetdcr (s : State) (t : State) (h : execGetdcr s = .next t) :
    Steady (held s) (held t) := by
  unfold execGetdcr at h
  cases h
  exact .of_eq (by simp)

theorem steady_execGetstatus (s : State) (t : State) (h : execGetstatus s = .next t) :
    Steady (held s) (held t) := by
  unfold execGetstatus at h
  cases h
  exact .of_eq (by simp)

theorem steady_execThermalSample (sample : TelemetrySample) (s : State) (t : State) (h : execThermalSample sample s = .next t) :
    Steady (held s) (held t) := by
  unfold execThermalSample at h
  cases h
  dsimp only
  refine Steady.trans ?_ (steady_thermalTrip _ _)
  exact .of_eq (by simp)

theorem steady_execThermalWarnClear (s : State) (t : State) (h : execThermalWarnClear s = .next t) :
    Steady (held s) (held t) := by
  unfold execThermalWarnClear at h
  cases h
  exact .of_eq (by (repeat' split) <;> simp)

theorem steady_execUartRxByte (b : Byte) (s : State) (t : State) (h : execUartRxByte b s = .next t) :
    Steady (held s) (held t) := by
  unfold execUartRxByte at h
  cases h
  exact .of_eq (by simp)

theorem steady_execExtest (s : State) (t : State) (h : execExtest s = .next t) :
    Steady (held s) (held t) := by
  unfold execExtest at h
  cases h
  exact .of_eq (by simp)

theorem steady_execIdcode (s : State) (t : State) (h : execIdcode s = .next t) :
    Steady (held s) (held t) := by
  unfold execIdcode at h
  cases h
  exact .of_eq (by simp)

theorem steady_execSamplePreload (s : State) (t : State) (h : execSamplePreload s = .next t) :
    Steady (held s) (held t) := by
  unfold execSamplePreload at h
  cases h
  exact .of_eq (by simp)

theorem steady_execClamp (s : State) (t : State) (h : execClamp s = .next t) :
    Steady (held s) (held t) := by
  unfold execClamp at h
  cases h
  exact .of_eq (by simp)

theorem steady_execHighz (s : State) (t : State) (h : execHighz s = .next t) :
    Steady (held s) (held t) := by
  unfold execHighz at h
  cases h
  exact .of_eq (by simp)

theorem steady_execExtestPulse (s : State) (t : State) (h : execExtestPulse s = .next t) :
    Steady (held s) (held t) := by
  unfold execExtestPulse at h
  cases h
  exact .of_eq (by simp)

theorem steady_execExtestTrain (s : State) (t : State) (h : execExtestTrain s = .next t) :
    Steady (held s) (held t) := by
  unfold execExtestTrain at h
  cases h
  exact .of_eq (by simp)

theorem steady_execBypass (s : State) (t : State) (h : execBypass s = .next t) :
    Steady (held s) (held t) := by
  unfold execBypass at h
  cases h
  exact .of_eq (by simp)

theorem steady_execTrstNAssert (s : State) (t : State) (h : execTrstNAssert s = .next t) :
    Steady (held s) (held t) := by
  unfold execTrstNAssert at h
  cases h
  exact .of_eq (by simp)

theorem steady_execPeriodBoundary (found : PeriodFindings) (s : State) (t : State)
    (h : execPeriodBoundary found s = .next t) : Steady (held s) (held t) := by
  unfold execPeriodBoundary at h
  cases h
  split
  · exact (Steady.of_eq (held_countFindings found s)).trans (steady_periodBoundary _ _)
  · split <;> exact .of_eq (by simp)

theorem steady_execQueueEnable (q : Fin 9) (cfg : Word32) (s : State) (t : State) (h : execQueueEnable q cfg s = .next t) :
    Steady (held s) (held t) := by
  unfold execQueueEnable at h
  cases h
  exact .of_eq (by simp)

theorem steady_execQueueDisable (q : Fin 9) (cfg : Word32) (s : State) (t : State) (h : execQueueDisable q cfg s = .next t) :
    Steady (held s) (held t) := by
  unfold execQueueDisable at h
  cases h
  exact .of_eq (by simp)

theorem steady_execCqTailDoorbell (q : Fin 4) (w : Word32) (s : State) (t : State) (h : execCqTailDoorbell q w s = .next t) :
    Steady (held s) (held t) := by
  unfold execCqTailDoorbell at h
  cases h
  exact .of_eq (by simp)

theorem steady_execCcHeadDoorbell (q : Fin 4) (w : Word32) (s : State) (t : State) (h : execCcHeadDoorbell q w s = .next t) :
    Steady (held s) (held t) := by
  unfold execCcHeadDoorbell at h
  cases h
  exact .of_eq (by simp)

theorem steady_execEqHeadDoorbell (w : Word32) (s : State) (t : State) (h : execEqHeadDoorbell w s = .next t) :
    Steady (held s) (held t) := by
  unfold execEqHeadDoorbell at h
  cases h
  exact .of_eq (by simp)

theorem steady_execCmdCancel (w : Word32) (s : State) (t : State) (h : execCmdCancel w s = .next t) :
    Steady (held s) (held t) := by
  unfold execCmdCancel at h
  cases h
  exact .of_eq (by simp)

theorem steady_execIntStatusClear (w : Word32) (s : State) (t : State) (h : execIntStatusClear w s = .next t) :
    Steady (held s) (held t) := by
  unfold execIntStatusClear at h
  cases h
  exact .of_eq (by simp)

theorem steady_execIntTest (w : Word32) (s : State) (t : State) (h : execIntTest w s = .next t) :
    Steady (held s) (held t) := by
  unfold execIntTest at h
  cases h
  exact .of_eq (by simp)

theorem steady_execDmbCmdWrite (offset : Fin 64) (data : List Byte) (s : State) (t : State) (h : execDmbCmdWrite offset data s = .next t) :
    Steady (held s) (held t) := by
  unfold execDmbCmdWrite at h
  cases h
  exact .of_eq (by simp)

theorem steady_execDmbGo (s : State) (t : State) (h : execDmbGo s = .next t) :
    Steady (held s) (held t) := by
  unfold execDmbGo at h
  cases h
  exact .of_eq (by simp)

theorem steady_execDmbDoneClear (s : State) (t : State) (h : execDmbDoneClear s = .next t) :
    Steady (held s) (held t) := by
  unfold execDmbDoneClear at h
  cases h
  exact .of_eq (by simp)

theorem steady_execCoalesceTimeout (vector : Fin 64) (s : State) (t : State) (h : execCoalesceTimeout vector s = .next t) :
    Steady (held s) (held t) := by
  unfold execCoalesceTimeout at h
  cases h
  exact .of_eq (by simp)

theorem steady_execHostDmaReadFail (target : DmaTarget) (kind : DmaErrorKind) (s : State) (t : State) (h : execHostDmaReadFail target kind s = .next t) :
    Steady (held s) (held t) := by
  unfold execHostDmaReadFail at h
  cases h
  exact .of_eq (by (repeat' split) <;> simp)

theorem steady_execPcieLinkDown (s : State) (t : State) (h : execPcieLinkDown s = .next t) :
    Steady (held s) (held t) := by
  unfold execPcieLinkDown at h
  cases h
  exact .of_eq (by simp)

theorem steady_execPcieLinkUp (s : State) (t : State) (h : execPcieLinkUp s = .next t) :
    Steady (held s) (held t) := by
  unfold execPcieLinkUp at h
  cases h
  exact .of_eq (by simp)

theorem steady_execPciePmStateChange (d3hot : Bool) (s : State) (t : State) (h : execPciePmStateChange d3hot s = .next t) :
    Steady (held s) (held t) := by
  unfold execPciePmStateChange at h
  cases h
  exact .of_eq (by simp)

theorem steady_execRetryEntryLapse (id : BitVec 64) (s : State) (t : State) (h : execRetryEntryLapse id s = .next t) :
    Steady (held s) (held t) := by
  unfold execRetryEntryLapse at h
  cases h
  exact .of_eq (by (repeat' split) <;> simp)

theorem steady_execRmemWrite (offset : Nat) (data : List Byte) (s : State) (t : State) (h : execRmemWrite offset data s = .next t) :
    Steady (held s) (held t) := by
  unfold execRmemWrite at h
  cases h
  exact .of_eq (by simp)

theorem steady_execDiagWindowRead (offset : Nat) (length : Nat) (uncorrectable : Bool) (s : State) (t : State) (h : execDiagWindowRead offset length uncorrectable s = .next t) :
    Steady (held s) (held t) := by
  unfold execDiagWindowRead at h
  cases h
  exact .of_eq (by (repeat' split) <;> simp)

theorem steady_execLedgerWriteComplete (verified : Bool) (s : State) (t : State) (h : execLedgerWriteComplete verified s = .next t) :
    Steady (held s) (held t) := by
  unfold execLedgerWriteComplete at h
  cases h
  dsimp only
  split
  · refine Steady.trans ?_ (steady_writeOver _ _ _)
    refine Steady.trans ?_ (steady_ledgerNext _)
    exact .of_eq (by simp)
  · exact .of_eq rfl

theorem steady_execPowerWarnRelease (s : State) (t : State) (h : execPowerWarnRelease s = .next t) :
    Steady (held s) (held t) := by
  unfold execPowerWarnRelease at h
  cases h
  dsimp only
  refine steady_ite (.of_eq rfl) ?_
  refine Steady.trans ?_ (steady_ledgerNext _)
  exact .of_eq (by simp)

theorem steady_execFlashOperationComplete (verified : Bool) (s : State) (t : State) (h : execFlashOperationComplete verified s = .next t) :
    Steady (held s) (held t) := by
  unfold execFlashOperationComplete at h
  cases h
  exact .of_eq (by simp)

theorem steady_execAllowanceGrant (res : Fin 4) (corrected : Bool) (s : State) (t : State) (h : execAllowanceGrant res corrected s = .next t) :
    Steady (held s) (held t) := by
  unfold execAllowanceGrant at h
  cases h
  exact .of_eq (by dsimp only; (repeat' split) <;> simp)

theorem steady_execHostDmaReadComplete (target : DmaTarget) (data : List Byte) (s : State) (t : State) (h : execHostDmaReadComplete target data s = .next t) :
    Steady (held s) (held t) := by
  unfold execHostDmaReadComplete at h
  cases h
  exact .of_eq (by (repeat' split) <;> simp)

theorem steady_execAvsCheck (acknowledged : Bool) (railMv : Nat) (s : State) (t : State) (h : execAvsCheck acknowledged railMv s = .next t) :
    Steady (held s) (held t) := by
  unfold execAvsCheck at h
  cases h
  exact .of_eq (by simp)

theorem steady_execBlockResetTimeout (block : Fin 84) (discarded : Nat) (s : State) (t : State) (h : execBlockResetTimeout block discarded s = .next t) :
    Steady (held s) (held t) := by
  unfold execBlockResetTimeout at h
  cases h
  exact .of_eq (by dsimp only; (repeat' split) <;> simp)

theorem steady_execCommandAbort (src : Source) (c : Cmd) (s : State) (t : State) (h : execCommandAbort src c s = .next t) :
    Steady (held s) (held t) := by
  unfold execCommandAbort at h
  cases h
  exact .of_eq (by simp)

theorem steady_execCommandBegin (s : State) (t : State) (h : execCommandBegin s = .next t) :
    Steady (held s) (held t) := by
  unfold execCommandBegin at h
  cases h
  exact steady_beginNext _

theorem steady_execCqEntryTake (s : State) (t : State) (h : execCqEntryTake s = .next t) :
    Steady (held s) (held t) := by
  unfold execCqEntryTake at h
  cases h
  exact steady_takeNext _

theorem steady_execDmbTake (s : State) (t : State) (h : execDmbTake s = .next t) :
    Steady (held s) (held t) := by
  unfold execDmbTake at h
  cases h
  exact steady_takeDmb _

theorem steady_execMgmtMbTake (s : State) (t : State) (h : execMgmtMbTake s = .next t) :
    Steady (held s) (held t) := by
  unfold execMgmtMbTake at h
  cases h
  exact steady_takeMgmt _

theorem steady_execTylaneStewardMessage (link : Fin 4) (h : TyHeader) (m : StewardMessage) (s : State) (t : State) (h : execTylaneStewardMessage link h m s = .next t) :
    Steady (held s) (held t) := by
  unfold execTylaneStewardMessage at h
  cases h
  exact steady_deliverHere _ _ _ _ (steady_stewardMessage _ _ _) _

/-- What every command keeps: the queue, and the legality of the mode register. -/
structure Kept (s t : State) : Prop where
  pending : t.pending = s.pending
  mode : ModeOk s.mode → ModeOk t.mode

theorem Steady.kept {s t : State} (h : Steady (held s) (held t)) : Kept s t :=
  ⟨h.pending, h.mode⟩

theorem Kept.of_held {s t : State} (h : held t = held s) : Kept s t :=
  Steady.kept (.of_eq h)

theorem Kept.rfl {s : State} : Kept s s := ⟨.refl _, id⟩

theorem Kept.trans {s t u : State} (h : Kept s t) (k : Kept t u) : Kept s u :=
  ⟨k.pending.trans h.pending, fun m => k.mode (h.mode m)⟩

theorem kept_bar0Write (offset w : Nat) (s : State) : Kept s (bar0Write offset w s) := by
  unfold bar0Write
  split
  · exact Steady.kept (steady_resetCtrlWrite _ _)
  split
  · exact ⟨.refl _, id⟩
  split
  · unfold bkpWrite; split <;> exact ⟨.refl _, id⟩
  (repeat' split) <;> exact .of_held (by simp)

/-- A write of BAR0 keeps the queue and the mode register's form, whatever words it covers. -/
theorem kept_barWrite (n offset : Nat) (data : List Byte) (s : State) : Kept s (barWrite n offset data s) := by
  induction n generalizing offset data s with
  | zero => exact Kept.rfl
  | succ n ih =>
    unfold barWrite
    split
    · exact Kept.rfl
    · refine Kept.trans ?_ (ih _ _ _)
      split
      · exact .of_held (by simp)
      split
      · exact kept_bar0Write _ _ _
      · exact Kept.rfl

theorem kept_loadMemory (s : State) : Kept s (loadMemory s) := by
  unfold loadMemory
  split <;> exact ⟨.refl _, id⟩

/-- OPTION_LOADING_DONE keeps the queue and the mode register's form. -/
theorem kept_execOptionLoadingDone (straps : Straps) (err : Bool) (s t : State)
    (h : execOptionLoadingDone straps err s = .next t) : Kept s t := by
  unfold execOptionLoadingDone at h
  cases h
  split
  · exact Kept.rfl
  · have h0 : Kept s { s with cause := causeAfter s.power s.cause } := ⟨.refl _, id⟩
    have h1 := h0.trans ((Kept.of_held (held_loadShadow _)).trans
      ((kept_loadMemory _).trans (Kept.of_held (held_adoptAddress straps _))))
    dsimp only
    generalize adoptAddress straps (loadMemory (loadShadow { s with cause := causeAfter s.power s.cause })) = u at h1 ⊢
    split
    · refine Kept.trans ?_ (steady_enterHalt 1 _).kept
      exact ⟨h1.pending, h1.mode⟩
    · exact ⟨h1.pending, h1.mode⟩

/-- RESET_CAUSE_WRITE writes RESET_CAUSE alone. -/
theorem kept_resetCauseWrite (w : Nat) (s : State) :
    (resetCauseWrite w s).pending = s.pending ∧ (resetCauseWrite w s).mode = s.mode ∧
      (resetCauseWrite w s).bkp = s.bkp ∧ (resetCauseWrite w s).boot = s.boot := ⟨rfl, rfl, rfl, rfl⟩

/-- WDOG_RUN_CLEAR keeps the queue, the mode register, BKP and the straps. -/
theorem kept_execWdogRunClear (s t : State) (h : execWdogRunClear s = .next t) :
    t.pending = s.pending ∧ t.mode = s.mode ∧ t.bkp = s.bkp ∧ t.boot = s.boot := by
  unfold execWdogRunClear at h
  cases h
  split <;> exact ⟨rfl, rfl, rfl, rfl⟩

end Sys2Proof.Machine
end

