-- ==== Sys2Proof/Laws/Packing.lean ====
section
/-!
SUPPORT. Packing loses nothing: what a consumer takes from the words of a frame is the frame (02 R52).
-/
namespace Sys2Proof.Machine

/-- A word of 1 to 64 bytes says how many of its bytes are valid (02 Table 2-6). -/
theorem coreWord_valid (part : List Byte) (a b c d : Bool) (h0 : 0 < part.length) (h : part.length ≤ 64) :
    (coreWord part a b c d).valid = part.length := by
  have e : ((coreWord part a b c d).tag.extractLsb' 0 6).toNat = part.length % 64 := by
    simp only [coreWord, packTag, BitVec.extractLsb'_toNat, BitVec.toNat_ofNat, Nat.shiftRight_zero]
    omega
  simp only [CoreWord.valid, e]
  split <;> omega

/-- The valid bytes of a word are the bytes that it was made of. -/
theorem coreWord_bytes (part : List Byte) (a b c d : Bool) (h0 : 0 < part.length) (h : part.length ≤ 64) :
    (coreWord part a b c d).data.take (coreWord part a b c d).valid = part := by
  rw [coreWord_valid part a b c d h0 h]
  simp [coreWord]

/-- The parts of 64 bytes, one after another, are the bytes as far as they reach. -/
theorem parts_flatten (bytes : List Byte) (n : Nat) :
    (List.range n).flatMap (fun k => (bytes.drop (64 * k)).take 64) = bytes.take (64 * n) := by
  induction n with
  | zero => simp
  | succ n ih => rw [List.range_succ, List.flatMap_append, ih, Nat.mul_succ, List.take_add]; simp

/-- A consumer takes back the frame that was packed: the padding goes nowhere (02 R52, R53). -/
theorem wordBytes_packFrame (err poison : Bool) (bytes : List Byte) : wordBytes (packFrame err poison bytes) = bytes := by
  have part : ∀ k ∈ List.range (ceilDiv bytes.length 64),
      0 < ((bytes.drop (64 * k)).take 64).length ∧ ((bytes.drop (64 * k)).take 64).length ≤ 64 := by
    intro k hk
    simp only [List.mem_range, ceilDiv] at hk
    simp only [List.length_take, List.length_drop]
    omega
  have each : (List.range (ceilDiv bytes.length 64)).flatMap (fun k =>
        let w := coreWord ((bytes.drop (64 * k)).take 64) (k == 0) (k + 1 == ceilDiv bytes.length 64) err poison
        w.data.take w.valid) =
      (List.range (ceilDiv bytes.length 64)).flatMap fun k => (bytes.drop (64 * k)).take 64 :=
    List.flatMap_congr fun k hk => coreWord_bytes _ _ _ _ _ (part k hk).1 (part k hk).2
  have whole : bytes.length ≤ 64 * ceilDiv bytes.length 64 := by
    simp only [ceilDiv]
    omega
  simp only [wordBytes, packFrame, List.flatMap_map]
  exact each.trans ((parts_flatten bytes _).trans (List.take_of_length_le whole))

end Sys2Proof.Machine
end

