-- ==== Sys2Proof/Laws/Queries.lean ====
section
/-! SUPPORT. Opening an entry of the command table touches no read of the rest of the machine: each read by name answers of the
opened state what it answered of the state before. A completion proof rewrites with these in place of unfolding the read. -/

namespace Sys2Proof.Machine

set_option Elab.async false
set_option linter.all false

variable {op : Op} {src : Source} {c : Cmd} {s : State}

@[simp] theorem opened_reads_freeAt (x1 : Nat) :
    State.freeAt (opened op src c s) x1 = State.freeAt s x1 := (rfl)
@[simp] theorem opened_reads_node :
    State.node (opened op src c s) = State.node s := (rfl)
@[simp] theorem opened_reads_rhoper :
    State.rhoper (opened op src c s) = State.rhoper s := (rfl)
@[simp] theorem opened_reads_running :
    State.running (opened op src c s) = State.running s := (rfl)
@[simp] theorem opened_reads_tallyRuns :
    State.tallyRuns (opened op src c s) = State.tallyRuns s := (rfl)
@[simp] theorem opened_reads_counter (x1 : Ctr) :
    State.counter (opened op src c s) x1 = State.counter s x1 := (rfl)
@[simp] theorem opened_reads_endpointOn :
    State.endpointOn (opened op src c s) = State.endpointOn s := (rfl)
@[simp] theorem opened_reads_linkHolds :
    State.linkHolds (opened op src c s) = State.linkHolds s := (rfl)
@[simp] theorem opened_reads_blockInReset (x1 : Nat) :
    State.blockInReset (opened op src c s) x1 = State.blockInReset s x1 := (rfl)
@[simp] theorem opened_reads_balance (x1 : Nat) (x2 : Nat) :
    State.balance (opened op src c s) x1 x2 = State.balance s x1 x2 := (rfl)
@[simp] theorem opened_reads_inForce (x1 : Nat) (x2 : Nat) :
    State.inForce (opened op src c s) x1 x2 = State.inForce s x1 x2 := (rfl)
@[simp] theorem opened_reads_tier (x1 : Nat) (x2 : Nat) :
    State.tier (opened op src c s) x1 x2 = State.tier s x1 x2 := (rfl)
@[simp] theorem opened_reads_goesBefore (x1 : Nat) (x2 : Nat) (x3 : Nat) (x4 : Nat) :
    State.goesBefore (opened op src c s) x1 x2 x3 x4 = State.goesBefore s x1 x2 x3 x4 := (rfl)
@[simp] theorem opened_reads_mayGrant (x1 : Nat) (x2 : Nat) :
    State.mayGrant (opened op src c s) x1 x2 = State.mayGrant s x1 x2 := (rfl)
@[simp] theorem opened_reads_eventVector (x1 : Nat) :
    State.eventVector (opened op src c s) x1 = State.eventVector s x1 := (rfl)
@[simp] theorem opened_reads_eqRoom :
    State.eqRoom (opened op src c s) = State.eqRoom s := (rfl)
@[simp] theorem opened_reads_tb (x1 : Nat) :
    State.tb (opened op src c s) x1 = State.tb s x1 := (rfl)
@[simp] theorem opened_reads_tbValue (x1 : Nat) :
    State.tbValue (opened op src c s) x1 = State.tbValue s x1 := (rfl)
@[simp] theorem opened_reads_tbShadow (x1 : Nat) :
    State.tbShadow (opened op src c s) x1 = State.tbShadow s x1 := (rfl)
@[simp] theorem opened_reads_route (x1 : Nat) :
    State.route (opened op src c s) x1 = State.route s x1 := (rfl)
@[simp] theorem opened_reads_tyLink (x1 : Nat) :
    State.tyLink (opened op src c s) x1 = State.tyLink s x1 := (rfl)
@[simp] theorem opened_reads_residenceNow (x1 : TyPayload) :
    State.residenceNow (opened op src c s) x1 = State.residenceNow s x1 := (rfl)
@[simp] theorem opened_reads_sent (x1 : ReplayFrame) :
    State.sent (opened op src c s) x1 = State.sent s x1 := (rfl)
@[simp] theorem opened_reads_word (x1 : Nat) :
    State.word (opened op src c s) x1 = State.word s x1 := (rfl)
@[simp] theorem opened_reads_intPinLow :
    State.intPinLow (opened op src c s) = State.intPinLow s := (rfl)
@[simp] theorem opened_reads_bar0Read (x1 : Nat) (x2 : Nat) :
    State.bar0Read (opened op src c s) x1 x2 = State.bar0Read s x1 x2 := (rfl)
@[simp] theorem opened_reads_movingObjects :
    State.movingObjects (opened op src c s) = State.movingObjects s := (rfl)
@[simp] theorem opened_reads_sourceCc (x1 : Source) :
    State.sourceCc (opened op src c s) x1 = State.sourceCc s x1 := (rfl)
@[simp] theorem opened_reads_takes (x1 : Source) :
    State.takes (opened op src c s) x1 = State.takes s x1 := (rfl)
@[simp] theorem opened_reads_admitted :
    State.admitted (opened op src c s) = State.admitted s := (rfl)
@[simp] theorem opened_reads_remoteEn :
    State.remoteEn (opened op src c s) = State.remoteEn s := (rfl)
@[simp] theorem opened_reads_perstBlock :
    State.perstBlock (opened op src c s) = State.perstBlock s := (rfl)
@[simp] theorem opened_reads_writeCount (x1 : Nat) :
    State.writeCount (opened op src c s) x1 = State.writeCount s x1 := (rfl)
@[simp] theorem opened_reads_worn (x1 : Nat) :
    State.worn (opened op src c s) x1 = State.worn s x1 := (rfl)
@[simp] theorem opened_reads_paceOffset (x1 : Nat) :
    State.paceOffset (opened op src c s) x1 = State.paceOffset s x1 := (rfl)
@[simp] theorem opened_reads_calOffset (x1 : Nat) :
    State.calOffset (opened op src c s) x1 = State.calOffset s x1 := (rfl)
@[simp] theorem opened_reads_calEffective (x1 : Nat) :
    State.calEffective (opened op src c s) x1 = State.calEffective s x1 := (rfl)
@[simp] theorem opened_reads_effectiveRail (x1 : Nat) (x2 : Nat) :
    State.effectiveRail (opened op src c s) x1 x2 = State.effectiveRail s x1 x2 := (rfl)
@[simp] theorem opened_reads_effectiveTemp (x1 : Nat) (x2 : Int) :
    State.effectiveTemp (opened op src c s) x1 x2 = State.effectiveTemp s x1 x2 := (rfl)
@[simp] theorem opened_reads_engine (x1 : Nat) :
    State.engine (opened op src c s) x1 = State.engine s x1 := (rfl)
@[simp] theorem opened_reads_inService (x1 : Nat) :
    State.inService (opened op src c s) x1 = State.inService s x1 := (rfl)
@[simp] theorem opened_reads_channelsOn (x1 : Nat) :
    State.channelsOn (opened op src c s) x1 = State.channelsOn s x1 := (rfl)
@[simp] theorem opened_reads_coinsOn (x1 : Nat) :
    State.coinsOn (opened op src c s) x1 = State.coinsOn s x1 := (rfl)
@[simp] theorem opened_reads_deviceCoins :
    State.deviceCoins (opened op src c s) = State.deviceCoins s := (rfl)
@[simp] theorem opened_reads_serviceCount :
    State.serviceCount (opened op src c s) = State.serviceCount s := (rfl)
@[simp] theorem opened_reads_admits (x1 : Nat) (x2 : Nat) (x3 : Option Nat) :
    State.admits (opened op src c s) x1 x2 x3 = State.admits s x1 x2 x3 := (rfl)
@[simp] theorem opened_reads_freeCoins (x1 : Nat) :
    State.freeCoins (opened op src c s) x1 = State.freeCoins s x1 := (rfl)
@[simp] theorem opened_reads_chooseEngine (x1 : Nat) (x2 : List Nat) :
    State.chooseEngine (opened op src c s) x1 x2 = State.chooseEngine s x1 x2 := (rfl)
@[simp] theorem opened_reads_freeSlot (x1 : Nat) :
    State.freeSlot (opened op src c s) x1 = State.freeSlot s x1 := (rfl)
@[simp] theorem opened_reads_gateCount (x1 : Nat) :
    State.gateCount (opened op src c s) x1 = State.gateCount s x1 := (rfl)
@[simp] theorem opened_reads_gateFallback (x1 : Nat) :
    State.gateFallback (opened op src c s) x1 = State.gateFallback s x1 := (rfl)
@[simp] theorem opened_reads_paceIndex (x1 : Nat) :
    State.paceIndex (opened op src c s) x1 = State.paceIndex s x1 := (rfl)
@[simp] theorem opened_reads_engineReq (x1 : Nat) :
    State.engineReq (opened op src c s) x1 = State.engineReq s x1 := (rfl)
@[simp] theorem opened_reads_fabricReq :
    State.fabricReq (opened op src c s) = State.fabricReq s := (rfl)
@[simp] theorem opened_reads_monitorReq (x1 : Nat) :
    State.monitorReq (opened op src c s) x1 = State.monitorReq s x1 := (rfl)
@[simp] theorem opened_reads_shortMonitors :
    State.shortMonitors (opened op src c s) = State.shortMonitors s := (rfl)
@[simp] theorem opened_reads_spare :
    State.spare (opened op src c s) = State.spare s := (rfl)
@[simp] theorem opened_reads_oldestCal (x1 : List Nat) :
    State.oldestCal (opened op src c s) x1 = State.oldestCal s x1 := (rfl)
@[simp] theorem opened_reads_forcedChoice :
    State.forcedChoice (opened op src c s) = State.forcedChoice s := (rfl)
@[simp] theorem opened_reads_calHeld :
    State.calHeld (opened op src c s) = State.calHeld s := (rfl)
@[simp] theorem opened_reads_testOn (x1 : Nat) :
    State.testOn (opened op src c s) x1 = State.testOn s x1 := (rfl)
@[simp] theorem opened_reads_sliceIdle (x1 : Nat) :
    State.sliceIdle (opened op src c s) x1 = State.sliceIdle s x1 := (rfl)
@[simp] theorem opened_reads_calEngine :
    State.calEngine (opened op src c s) = State.calEngine s := (rfl)
@[simp] theorem opened_reads_asks (x1 : Nat) :
    State.asks (opened op src c s) x1 = State.asks s x1 := (rfl)
@[simp] theorem opened_reads_firstAsker (x1 : Nat) :
    State.firstAsker (opened op src c s) x1 = State.firstAsker s x1 := (rfl)
@[simp] theorem opened_reads_dispatchable (x1 : Nat) :
    State.dispatchable (opened op src c s) x1 = State.dispatchable s x1 := (rfl)
@[simp] theorem opened_reads_dispatchNext :
    State.dispatchNext (opened op src c s) = State.dispatchNext s := (rfl)
@[simp] theorem opened_reads_faults10 (x1 : Nat) :
    State.faults10 (opened op src c s) x1 = State.faults10 s x1 := (rfl)
@[simp] theorem opened_reads_tbCfg (x1 : Nat) :
    State.tbCfg (opened op src c s) x1 = State.tbCfg s x1 := (rfl)
@[simp] theorem opened_reads_tbOn (x1 : Nat) :
    State.tbOn (opened op src c s) x1 = State.tbOn s x1 := (rfl)
@[simp] theorem opened_reads_tbNamed (x1 : Nat) :
    State.tbNamed (opened op src c s) x1 = State.tbNamed s x1 := (rfl)
@[simp] theorem opened_reads_ppsHigh (x1 : Nat) :
    State.ppsHigh (opened op src c s) x1 = State.ppsHigh s x1 := (rfl)
@[simp] theorem opened_reads_servoRate (x1 : Nat) :
    State.servoRate (opened op src c s) x1 = State.servoRate s x1 := (rfl)
@[simp] theorem opened_reads_usesTbref :
    State.usesTbref (opened op src c s) = State.usesTbref s := (rfl)
@[simp] theorem opened_reads_lane (x1 : Nat) :
    State.lane (opened op src c s) x1 = State.lane s x1 := (rfl)
@[simp] theorem opened_reads_laneCfg (x1 : Nat) :
    State.laneCfg (opened op src c s) x1 = State.laneCfg s x1 := (rfl)
@[simp] theorem opened_reads_laneRetired (x1 : Nat) :
    State.laneRetired (opened op src c s) x1 = State.laneRetired s x1 := (rfl)
@[simp] theorem opened_reads_port (x1 : Nat) :
    State.port (opened op src c s) x1 = State.port s x1 := (rfl)
@[simp] theorem opened_reads_portCfg (x1 : Nat) :
    State.portCfg (opened op src c s) x1 = State.portCfg s x1 := (rfl)
@[simp] theorem opened_reads_latencyShift (x1 : Nat) (x2 : Nat) :
    State.latencyShift (opened op src c s) x1 x2 = State.latencyShift s x1 x2 := (rfl)
@[simp] theorem opened_reads_rxStamp (x1 : Nat) (x2 : Nat) :
    State.rxStamp (opened op src c s) x1 x2 = State.rxStamp s x1 x2 := (rfl)
@[simp] theorem opened_reads_txTime (x1 : Nat) (x2 : Nat) :
    State.txTime (opened op src c s) x1 x2 = State.txTime s x1 x2 := (rfl)
@[simp] theorem opened_reads_ptpFrame (x1 : PtpWaiting) :
    State.ptpFrame (opened op src c s) x1 = State.ptpFrame s x1 := (rfl)
@[simp] theorem opened_reads_ownMessage (x1 : Nat) (x2 : Nat) :
    State.ownMessage (opened op src c s) x1 x2 = State.ownMessage s x1 x2 := (rfl)
@[simp] theorem opened_reads_ownFrame (x1 : Nat) (x2 : Bool) (x3 : List Byte) :
    State.ownFrame (opened op src c s) x1 x2 x3 = State.ownFrame s x1 x2 x3 := (rfl)
@[simp] theorem opened_reads_homeOf (x1 : Nat) :
    State.homeOf (opened op src c s) x1 = State.homeOf s x1 := (rfl)
@[simp] theorem opened_reads_handleOf (x1 : Session) :
    State.handleOf (opened op src c s) x1 = State.handleOf s x1 := (rfl)
@[simp] theorem opened_reads_session (x1 : Nat) :
    State.session (opened op src c s) x1 = State.session s x1 := (rfl)
@[simp] theorem opened_reads_sessionByKey (x1 : SessionKey) :
    State.sessionByKey (opened op src c s) x1 = State.sessionByKey s x1 := (rfl)
@[simp] theorem opened_reads_freePlaces (x1 : Nat) :
    State.freePlaces (opened op src c s) x1 = State.freePlaces s x1 := (rfl)
@[simp] theorem opened_reads_sessionEntries :
    State.sessionEntries (opened op src c s) = State.sessionEntries s := (rfl)
@[simp] theorem opened_reads_channel (x1 : Nat) :
    State.channel (opened op src c s) x1 = State.channel s x1 := (rfl)
@[simp] theorem opened_reads_copyOf (x1 : Session) :
    State.copyOf (opened op src c s) x1 = State.copyOf s x1 := (rfl)
@[simp] theorem opened_reads_sessionCopy (x1 : Nat) (x2 : List SessionCopy) :
    State.sessionCopy (opened op src c s) x1 x2 = State.sessionCopy s x1 x2 := (rfl)
@[simp] theorem opened_reads_entryOf (x1 : LegState) :
    State.entryOf (opened op src c s) x1 = State.entryOf s x1 := (rfl)
@[simp] theorem opened_reads_boundLeg (x1 : Nat) :
    State.boundLeg (opened op src c s) x1 = State.boundLeg s x1 := (rfl)
@[simp] theorem opened_reads_station (x1 : StationKey) :
    State.station (opened op src c s) x1 = State.station s x1 := (rfl)
@[simp] theorem opened_reads_otherMembers :
    State.otherMembers (opened op src c s) = State.otherMembers s := (rfl)
@[simp] theorem opened_reads_stationUpdate (x1 : StationKey) :
    State.stationUpdate (opened op src c s) x1 = State.stationUpdate s x1 := (rfl)
@[simp] theorem opened_reads_periodAt (x1 : Nat) :
    State.periodAt (opened op src c s) x1 = State.periodAt s x1 := (rfl)
@[simp] theorem opened_reads_asNode :
    State.asNode (opened op src c s) = State.asNode s := (rfl)
@[simp] theorem opened_reads_launchQueue (x1 : Nat) (x2 : Nat) :
    State.launchQueue (opened op src c s) x1 x2 = State.launchQueue s x1 x2 := (rfl)
@[simp] theorem opened_reads_launchCfg (x1 : Nat) (x2 : Nat) :
    State.launchCfg (opened op src c s) x1 x2 = State.launchCfg s x1 x2 := (rfl)
@[simp] theorem opened_reads_launchCells :
    State.launchCells (opened op src c s) = State.launchCells s := (rfl)
@[simp] theorem opened_reads_boundaryValue (x1 : Nat) (x2 : Nat) :
    State.boundaryValue (opened op src c s) x1 x2 = State.boundaryValue s x1 x2 := (rfl)
@[simp] theorem opened_reads_launchTime (x1 : LaunchCfg) (x2 : Nat) (x3 : Nat) (x4 : Nat) :
    State.launchTime (opened op src c s) x1 x2 x3 x4 = State.launchTime s x1 x2 x3 x4 := (rfl)
@[simp] theorem opened_reads_egress (x1 : SessionCopy) :
    State.egress (opened op src c s) x1 = State.egress s x1 := (rfl)
@[simp] theorem opened_reads_wireNs (x1 : Nat) (x2 : Nat) :
    State.wireNs (opened op src c s) x1 x2 = State.wireNs s x1 x2 := (rfl)
@[simp] theorem opened_reads_grantInstant (x1 : Nat) (x2 : LaunchPacket) :
    State.grantInstant (opened op src c s) x1 x2 = State.grantInstant s x1 x2 := (rfl)
@[simp] theorem opened_reads_timedHeads (x1 : Nat) :
    State.timedHeads (opened op src c s) x1 = State.timedHeads s x1 := (rfl)
@[simp] theorem opened_reads_untilLaunch (x1 : Nat) (x2 : Nat × LaunchPacket) :
    State.untilLaunch (opened op src c s) x1 x2 = State.untilLaunch s x1 x2 := (rfl)
@[simp] theorem opened_reads_earliest (x1 : Nat) (x2 : List (Nat × LaunchPacket)) :
    State.earliest (opened op src c s) x1 x2 = State.earliest s x1 x2 := (rfl)
@[simp] theorem opened_reads_ptpExpired (x1 : PtpWaiting) :
    State.ptpExpired (opened op src c s) x1 = State.ptpExpired s x1 := (rfl)
@[simp] theorem opened_reads_fitsBefore (x1 : Nat) (x2 : Nat) :
    State.fitsBefore (opened op src c s) x1 x2 = State.fitsBefore s x1 x2 := (rfl)
@[simp] theorem opened_reads_immediateHead (x1 : Nat) :
    State.immediateHead (opened op src c s) x1 = State.immediateHead s x1 := (rfl)
@[simp] theorem opened_reads_ownType (x1 : Nat) (x2 : Bool) :
    State.ownType (opened op src c s) x1 x2 = State.ownType s x1 x2 := (rfl)
@[simp] theorem opened_reads_reservedGranules :
    State.reservedGranules (opened op src c s) = State.reservedGranules s := (rfl)
@[simp] theorem opened_reads_nowUs :
    State.nowUs (opened op src c s) = State.nowUs s := (rfl)
@[simp] theorem opened_reads_frameOfPlayout (x1 : Int) :
    State.frameOfPlayout (opened op src c s) x1 = State.frameOfPlayout s x1 := (rfl)
@[simp] theorem opened_reads_taskWaiting (x1 : Channel) :
    State.taskWaiting (opened op src c s) x1 = State.taskWaiting s x1 := (rfl)
@[simp] theorem opened_reads_tooLate (x1 : Channel) (x2 : Int) :
    State.tooLate (opened op src c s) x1 x2 = State.tooLate s x1 x2 := (rfl)
@[simp] theorem opened_reads_searchOrder (x1 : Nat) :
    State.searchOrder (opened op src c s) x1 = State.searchOrder s x1 := (rfl)
@[simp] theorem opened_reads_mixesWide (x1 : Channel) :
    State.mixesWide (opened op src c s) x1 = State.mixesWide s x1 := (rfl)
@[simp] theorem opened_reads_rateOf (x1 : Channel) :
    State.rateOf (opened op src c s) x1 = State.rateOf s x1 := (rfl)
@[simp] theorem opened_reads_legRate (x1 : Channel) (x2 : Leg) :
    State.legRate (opened op src c s) x1 x2 = State.legRate s x1 x2 := (rfl)
@[simp] theorem opened_reads_txGroupDelay (x1 : Channel) (x2 : Leg) :
    State.txGroupDelay (opened op src c s) x1 x2 = State.txGroupDelay s x1 x2 := (rfl)
@[simp] theorem opened_reads_groupDelay (x1 : Channel) (x2 : Leg) :
    State.groupDelay (opened op src c s) x1 x2 = State.groupDelay s x1 x2 := (rfl)
@[simp] theorem opened_reads_nextReport (x1 : Leg) :
    State.nextReport (opened op src c s) x1 = State.nextReport s x1 := (rfl)
@[simp] theorem opened_reads_pointVoltage :
    State.pointVoltage (opened op src c s) = State.pointVoltage s := (rfl)
@[simp] theorem opened_reads_ratedTarget :
    State.ratedTarget (opened op src c s) = State.ratedTarget s := (rfl)
@[simp] theorem opened_reads_startUnchecked :
    State.startUnchecked (opened op src c s) = State.startUnchecked s := (rfl)
@[simp] theorem opened_reads_raiseGoal :
    State.raiseGoal (opened op src c s) = State.raiseGoal s := (rfl)
@[simp] theorem opened_reads_raiseUnderWay :
    State.raiseUnderWay (opened op src c s) = State.raiseUnderWay s := (rfl)
@[simp] theorem opened_reads_supplyAdmits :
    State.supplyAdmits (opened op src c s) = State.supplyAdmits s := (rfl)
@[simp] theorem opened_reads_needsRaise (x1 : Nat) (x2 : Nat) :
    State.needsRaise (opened op src c s) x1 x2 = State.needsRaise s x1 x2 := (rfl)
@[simp] theorem opened_reads_servicePeers :
    State.servicePeers (opened op src c s) = State.servicePeers s := (rfl)
@[simp] theorem opened_reads_deviceFree :
    State.deviceFree (opened op src c s) = State.deviceFree s := (rfl)
@[simp] theorem opened_reads_roomyPeers :
    State.roomyPeers (opened op src c s) = State.roomyPeers s := (rfl)
@[simp] theorem opened_reads_choosePeer :
    State.choosePeer (opened op src c s) = State.choosePeer s := (rfl)
@[simp] theorem opened_reads_taskRunning (x1 : Nat) :
    State.taskRunning (opened op src c s) x1 = State.taskRunning s x1 := (rfl)
@[simp] theorem opened_reads_conference (x1 : Nat) :
    State.conference (opened op src c s) x1 = State.conference s x1 := (rfl)
@[simp] theorem opened_reads_openConference (x1 : Nat) :
    State.openConference (opened op src c s) x1 = State.openConference s x1 := (rfl)
@[simp] theorem opened_reads_isLeg (x1 : Channel) :
    State.isLeg (opened op src c s) x1 = State.isLeg s x1 := (rfl)
@[simp] theorem opened_reads_confRoom :
    State.confRoom (opened op src c s) = State.confRoom s := (rfl)
@[simp] theorem opened_reads_confOrder :
    State.confOrder (opened op src c s) = State.confOrder s := (rfl)
@[simp] theorem opened_reads_legDenied (x1 : Channel) :
    State.legDenied (opened op src c s) x1 = State.legDenied s x1 := (rfl)
@[simp] theorem opened_reads_placeOf (x1 : Channel) :
    State.placeOf (opened op src c s) x1 = State.placeOf s x1 := (rfl)
@[simp] theorem opened_reads_sentChannel (x1 : Channel) :
    State.sentChannel (opened op src c s) x1 = State.sentChannel s x1 := (rfl)
@[simp] theorem opened_reads_linkGood (x1 : Nat) :
    State.linkGood (opened op src c s) x1 = State.linkGood s x1 := (rfl)
@[simp] theorem opened_reads_portsOn :
    State.portsOn (opened op src c s) = State.portsOn s := (rfl)
@[simp] theorem opened_reads_portRuns (x1 : Nat) :
    State.portRuns (opened op src c s) x1 = State.portRuns s x1 := (rfl)
@[simp] theorem opened_reads_awaited (x1 : Nat) :
    State.awaited (opened op src c s) x1 = State.awaited s x1 := (rfl)
@[simp] theorem opened_reads_placement (x1 : Channel) :
    State.placement (opened op src c s) x1 = State.placement s x1 := (rfl)
@[simp] theorem opened_reads_engineWord (x1 : Nat) :
    State.engineWord (opened op src c s) x1 = State.engineWord s x1 := (rfl)
@[simp] theorem opened_reads_laneWord :
    State.laneWord (opened op src c s) = State.laneWord s := (rfl)
@[simp] theorem opened_reads_linkEnabled (x1 : Nat) :
    State.linkEnabled (opened op src c s) x1 = State.linkEnabled s x1 := (rfl)
@[simp] theorem opened_reads_halfWhole (x1 : Nat) (x2 : Nat) :
    State.halfWhole (opened op src c s) x1 x2 = State.halfWhole s x1 x2 := (rfl)
@[simp] theorem opened_reads_mapStraight (x1 : Nat) :
    State.mapStraight (opened op src c s) x1 = State.mapStraight s x1 := (rfl)
@[simp] theorem opened_reads_mapReversed (x1 : Nat) :
    State.mapReversed (opened op src c s) x1 = State.mapReversed s x1 := (rfl)
@[simp] theorem opened_reads_halfReady (x1 : Nat) (x2 : Nat) :
    State.halfReady (opened op src c s) x1 x2 = State.halfReady s x1 x2 := (rfl)
@[simp] theorem opened_reads_bitsNs (x1 : Nat) (x2 : Nat) :
    State.bitsNs (opened op src c s) x1 x2 = State.bitsNs s x1 x2 := (rfl)
@[simp] theorem opened_reads_tyHeader (x1 : Nat) (x2 : ReplayFrame) :
    State.tyHeader (opened op src c s) x1 x2 = State.tyHeader s x1 x2 := (rfl)
@[simp] theorem opened_reads_partnerWord (x1 : Nat) :
    State.partnerWord (opened op src c s) x1 = State.partnerWord s x1 := (rfl)
@[simp] theorem opened_reads_arrived (x1 : Nat) (x2 : TyHeader) (x3 : PtpCopy) :
    State.arrived (opened op src c s) x1 x2 x3 = State.arrived s x1 x2 x3 := (rfl)
@[simp] theorem opened_reads_joined :
    State.joined (opened op src c s) = State.joined s := (rfl)
@[simp] theorem opened_reads_hears (x1 : Nat) :
    State.hears (opened op src c s) x1 = State.hears s x1 := (rfl)
@[simp] theorem opened_reads_isKing :
    State.isKing (opened op src c s) = State.isKing s := (rfl)
@[simp] theorem opened_reads_heardMask :
    State.heardMask (opened op src c s) = State.heardMask s := (rfl)
@[simp] theorem opened_reads_enough (x1 : BitVec 16) :
    State.enough (opened op src c s) x1 = State.enough s x1 := (rfl)
@[simp] theorem opened_reads_nextMap (x1 : BitVec 16) :
    State.nextMap (opened op src c s) x1 = State.nextMap s x1 := (rfl)
@[simp] theorem opened_reads_ownHeartbeat :
    State.ownHeartbeat (opened op src c s) = State.ownHeartbeat s := (rfl)
@[simp] theorem opened_reads_chooseTarget (x1 : Channel) :
    State.chooseTarget (opened op src c s) x1 = State.chooseTarget s x1 := (rfl)
@[simp] theorem opened_reads_arriving (x1 : Nat) (x2 : Nat) :
    State.arriving (opened op src c s) x1 x2 = State.arriving s x1 x2 := (rfl)
@[simp] theorem opened_reads_drainOrder :
    State.drainOrder (opened op src c s) = State.drainOrder s := (rfl)
@[simp] theorem opened_reads_drainHeld (x1 : Nat) :
    State.drainHeld (opened op src c s) x1 = State.drainHeld s x1 := (rfl)
@[simp] theorem opened_reads_moveGroup (x1 : Channel) :
    State.moveGroup (opened op src c s) x1 = State.moveGroup s x1 := (rfl)
@[simp] theorem opened_reads_retryCoins (x1 : Nat) :
    State.retryCoins (opened op src c s) x1 = State.retryCoins s x1 := (rfl)
@[simp] theorem opened_reads_bootCtrl :
    State.bootCtrl (opened op src c s) = State.bootCtrl s := (rfl)
@[simp] theorem opened_reads_trialOpen :
    State.trialOpen (opened op src c s) = State.trialOpen s := (rfl)
@[simp] theorem opened_reads_pinned (x1 : Nat) :
    State.pinned (opened op src c s) x1 = State.pinned s x1 := (rfl)
@[simp] theorem opened_reads_newestArea (x1 : Area → Bool) :
    State.newestArea (opened op src c s) x1 = State.newestArea s x1 := (rfl)
@[simp] theorem opened_reads_usableArea :
    State.usableArea (opened op src c s) = State.usableArea s := (rfl)
@[simp] theorem opened_reads_saveTarget :
    State.saveTarget (opened op src c s) = State.saveTarget s := (rfl)
@[simp] theorem opened_reads_nextGen :
    State.nextGen (opened op src c s) = State.nextGen s := (rfl)
@[simp] theorem opened_reads_mayNotSave :
    State.mayNotSave (opened op src c s) = State.mayNotSave s := (rfl)
@[simp] theorem opened_reads_stewardOn :
    State.stewardOn (opened op src c s) = State.stewardOn s := (rfl)
@[simp] theorem opened_reads_waitingBlock (x1 : Nat) :
    State.waitingBlock (opened op src c s) x1 = State.waitingBlock s x1 := (rfl)
@[simp] theorem opened_reads_blockBusy (x1 : Nat) :
    State.blockBusy (opened op src c s) x1 = State.blockBusy s x1 := (rfl)
@[simp] theorem opened_reads_fuseSv :
    State.fuseSv (opened op src c s) = State.fuseSv s := (rfl)
@[simp] theorem opened_reads_slot (x1 : Nat) :
    State.slot (opened op src c s) x1 = State.slot s x1 := (rfl)
@[simp] theorem opened_reads_slotVerifies (x1 : Nat) :
    State.slotVerifies (opened op src c s) x1 = State.slotVerifies s x1 := (rfl)
@[simp] theorem opened_reads_stagedHeader :
    State.stagedHeader (opened op src c s) = State.stagedHeader s := (rfl)
@[simp] theorem opened_reads_inRom :
    State.inRom (opened op src c s) = State.inRom s := (rfl)
@[simp] theorem opened_reads_takesSlot (x1 : Nat) :
    State.takesSlot (opened op src c s) x1 = State.takesSlot s x1 := (rfl)
@[simp] theorem opened_reads_downloadDenied (x1 : Nat) (x2 : Bool) :
    State.downloadDenied (opened op src c s) x1 x2 = State.downloadDenied s x1 x2 := (rfl)
@[simp] theorem opened_reads_stagedReason (x1 : Nat) :
    State.stagedReason (opened op src c s) x1 = State.stagedReason s x1 := (rfl)
@[simp] theorem opened_reads_activateWords (x1 : Cmd) :
    State.activateWords (opened op src c s) x1 = State.activateWords s x1 := (rfl)
@[simp] theorem opened_reads_activateDenied (x1 : Cmd) :
    State.activateDenied (opened op src c s) x1 = State.activateDenied s x1 := (rfl)
@[simp] theorem opened_reads_slotState (x1 : Nat) :
    State.slotState (opened op src c s) x1 = State.slotState s x1 := (rfl)
@[simp] theorem opened_reads_trialLeft :
    State.trialLeft (opened op src c s) = State.trialLeft s := (rfl)
@[simp] theorem opened_reads_stretchHeld (x1 : Nat) (x2 : List PorRail) :
    State.stretchHeld (opened op src c s) x1 x2 = State.stretchHeld s x1 x2 := (rfl)
@[simp] theorem opened_reads_islandOn :
    State.islandOn (opened op src c s) = State.islandOn s := (rfl)
@[simp] theorem opened_reads_mgmtBlock (x1 : Nat) :
    State.mgmtBlock (opened op src c s) x1 = State.mgmtBlock s x1 := (rfl)
@[simp] theorem opened_reads_pinDrive (x1 : PinGroup) :
    State.pinDrive (opened op src c s) x1 = State.pinDrive s x1 := (rfl)
@[simp] theorem opened_reads_nextMultiple :
    State.nextMultiple (opened op src c s) = State.nextMultiple s := (rfl)
@[simp] theorem opened_reads_nextBoundary :
    State.nextBoundary (opened op src c s) = State.nextBoundary s := (rfl)
@[simp] theorem opened_reads_waits (x1 : Nat) (x2 : Nat) :
    State.waits (opened op src c s) x1 x2 = State.waits s x1 x2 := (rfl)
@[simp] theorem opened_reads_someIdle :
    State.someIdle (opened op src c s) = State.someIdle s := (rfl)
@[simp] theorem opened_reads_taskBehind (x1 : Nat) :
    State.taskBehind (opened op src c s) x1 = State.taskBehind s x1 := (rfl)
@[simp] theorem opened_reads_fetching (x1 : Nat) :
    State.fetching (opened op src c s) x1 = State.fetching s x1 := (rfl)
@[simp] theorem opened_reads_liveBytes (x1 : Bool) (x2 : Nat) (x3 : Nat) :
    State.liveBytes (opened op src c s) x1 x2 x3 = State.liveBytes s x1 x2 x3 := (rfl)
@[simp] theorem opened_reads_serves (x1 : Nat) (x2 : Nat) :
    State.serves (opened op src c s) x1 x2 = State.serves s x1 x2 := (rfl)
@[simp] theorem opened_reads_migrationAdmitted (x1 : Entry) :
    State.migrationAdmitted (opened op src c s) x1 = State.migrationAdmitted s x1 := (rfl)
@[simp] theorem opened_reads_roundOrder :
    State.roundOrder (opened op src c s) = State.roundOrder s := (rfl)
@[simp] theorem opened_reads_offers (x1 : Nat) :
    State.offers (opened op src c s) x1 = State.offers s x1 := (rfl)
@[simp] theorem opened_reads_runningImage :
    State.runningImage (opened op src c s) = State.runningImage s := (rfl)

end Sys2Proof.Machine
end

