-- ==== Sys2Proof/Laws/Sparse.lean ====
section
/-!
SUPPORT. The sparse memories: a read after a write, a write elsewhere, and the canonical form that every operation keeps.
-/
namespace Sys2Proof.Machine

section
variable {α : Type} {d : α}

@[simp] theorem sget_nil (key : Nat) : sget d ([] : Sparse α) key = d := rfl

variable [DecidableEq α]

theorem swfFrom_mono {m : Sparse α} {lo lo' : Nat} (h : lo' ≤ lo) (hm : swfFrom d lo m = true) :
    swfFrom d lo' m = true := by
  cases m with
  | nil => rfl
  | cons p rest =>
    simp only [swfFrom, Bool.and_eq_true, decide_eq_true_eq] at hm ⊢
    exact ⟨⟨by omega, hm.1.2⟩, hm.2⟩

/-- A key below every listed one is not listed. -/
theorem sget_below {m : Sparse α} {lo key : Nat} (hm : swfFrom d lo m = true) (hk : key < lo) : sget d m key = d := by
  induction m generalizing lo with
  | nil => rfl
  | cons p rest ih =>
    simp only [swfFrom, Bool.and_eq_true, decide_eq_true_eq] at hm
    rw [sget, if_neg (by omega)]
    exact ih hm.2 (by omega)

theorem swfFrom_serase {m : Sparse α} {lo key : Nat} (hm : swfFrom d lo m = true) :
    swfFrom d lo (serase m key) = true := by
  induction m generalizing lo with
  | nil => rfl
  | cons p rest ih =>
    simp only [swfFrom, Bool.and_eq_true, decide_eq_true_eq] at hm
    unfold serase
    split
    · exact swfFrom_mono (by omega) hm.2
    · simp only [swfFrom, Bool.and_eq_true, decide_eq_true_eq]
      exact ⟨hm.1, ih hm.2⟩

theorem swfFrom_sinsert {m : Sparse α} {lo key : Nat} {x : α} (hm : swfFrom d lo m = true) (hk : lo ≤ key) (hx : x ≠ d) :
    swfFrom d lo (sinsert m key x) = true := by
  induction m generalizing lo with
  | nil => simp [sinsert, swfFrom, hk, hx]
  | cons p rest ih =>
    simp only [swfFrom, Bool.and_eq_true, decide_eq_true_eq] at hm
    unfold sinsert
    split
    · simp only [swfFrom, Bool.and_eq_true, decide_eq_true_eq]
      exact ⟨⟨hk, hx⟩, ⟨by omega, hm.1.2⟩, hm.2⟩
    · split
      · next h => subst h; simp only [swfFrom, Bool.and_eq_true, decide_eq_true_eq]; exact ⟨⟨hk, hx⟩, hm.2⟩
      · simp only [swfFrom, Bool.and_eq_true, decide_eq_true_eq]
        exact ⟨hm.1, ih hm.2 (by omega)⟩

/-- Setting a key keeps the canonical form. -/
theorem swf_sset {m : Sparse α} {key : Nat} {x : α} (hm : swf d m = true) : swf d (sset d m key x) = true := by
  unfold sset
  split
  · exact swfFrom_serase hm
  · next h => exact swfFrom_sinsert hm (Nat.zero_le _) h

theorem sget_serase {m : Sparse α} {lo key a : Nat} (hm : swfFrom d lo m = true) :
    sget d (serase m key) a = if a = key then d else sget d m a := by
  induction m generalizing lo with
  | nil => simp [serase]
  | cons p rest ih =>
    simp only [swfFrom, Bool.and_eq_true, decide_eq_true_eq] at hm
    unfold serase
    split
    · next h =>
      subst h
      by_cases ha : a = p.1
      · rw [if_pos ha, ha]; exact sget_below hm.2 (by omega)
      · rw [if_neg ha, sget, if_neg (fun h => ha h.symm)]
    · next h =>
      rw [sget, sget, ih hm.2]
      by_cases ha : a = key
      · rw [if_pos ha, if_pos ha, if_neg (by omega)]
      · rw [if_neg ha, if_neg ha]

omit [DecidableEq α] in
theorem sget_sinsert {m : Sparse α} {key a : Nat} {x : α} :
    sget d (sinsert m key x) a = if a = key then x else sget d m a := by
  induction m with
  | nil => simp [sinsert, sget, eq_comm]
  | cons p rest ih =>
    unfold sinsert
    split
    · simp [sget, eq_comm]
    · split
      · next h => subst h; by_cases ha : a = p.1 <;> simp [sget, ha, eq_comm]
      · next h =>
        rw [sget, sget, ih]
        by_cases ha : a = key
        · rw [if_pos ha, if_pos ha, if_neg (by omega)]
        · rw [if_neg ha, if_neg ha]

/-- A read after a write gives the value written, and a write leaves every other key alone. -/
theorem sget_sset {m : Sparse α} {key a : Nat} {x : α} (hm : swf d m = true) :
    sget d (sset d m key x) a = if a = key then x else sget d m a := by
  unfold sset
  split
  · next h => rw [sget_serase hm, h]
  · exact sget_sinsert

omit [DecidableEq α] in
theorem sget_serase_ne {m : Sparse α} {key a : Nat} (ha : a ≠ key) : sget d (serase m key) a = sget d m a := by
  induction m with
  | nil => rfl
  | cons p rest ih =>
    unfold serase
    split
    · next h => rw [sget, if_neg (by omega)]
    · rw [sget, sget, ih]

/-- A write of another key is not seen, whatever the form. -/
theorem sget_sset_ne {m : Sparse α} {key a : Nat} {x : α} (ha : a ≠ key) : sget d (sset d m key x) a = sget d m a := by
  unfold sset
  split
  · exact sget_serase_ne ha
  · rw [sget_sinsert, if_neg ha]

end

/-- Storing bytes keeps the canonical form. -/
theorem swf_swrite {m : Sparse Byte} {bs : List Byte} {address : Nat} (hm : swf 0 m = true) :
    swf 0 (swrite m address bs) = true := by
  induction bs generalizing m address with
  | nil => exact hm
  | cons b rest ih => exact ih (swf_sset hm)

/-- Storing bytes leaves every other address alone. -/
theorem sget_swrite_outside {m : Sparse Byte} {bs : List Byte} {address a : Nat}
    (h : a < address ∨ address + bs.length ≤ a) : sget 0 (swrite m address bs) a = sget 0 m a := by
  induction bs generalizing m address with
  | nil => rfl
  | cons b rest ih =>
    simp only [List.length_cons] at h
    rw [swrite, ih (by omega), sget_sset_ne (by omega)]

/-- The bytes stored are the bytes read. -/
theorem sget_swrite_inside {m : Sparse Byte} {bs : List Byte} {address k : Nat} (hm : swf 0 m = true)
    (hk : k < bs.length) : sget 0 (swrite m address bs) (address + k) = bs[k] := by
  induction bs generalizing m address k with
  | nil => simp at hk
  | cons b rest ih =>
    rw [swrite]
    cases k with
    | zero => rw [sget_swrite_outside (by omega), sget_sset hm, if_pos (by omega)]; rfl
    | succ k =>
      have := ih (m := sset 0 m address b) (address := address + 1) (k := k) (swf_sset hm) (by simpa using hk)
      rw [show address + (k + 1) = address + 1 + k by omega, this]; rfl

/-- Every write of a byte memory keeps `Memory.wf`. -/
theorem Memory.wf_swrite {m : Sparse Byte} {bs : List Byte} {address : Nat} (hm : Memory.wf m = true) :
    Memory.wf (swrite m address bs) = true :=
  swf_swrite hm

/-- The retention memory keeps its form under every write. -/
theorem Memory.wf_rmemPut {s : State} {offset : Nat} {bs : List Byte} (hm : Memory.wf s.rmem = true) :
    Memory.wf (rmemPut offset bs s).rmem = true :=
  swf_swrite hm

end Sys2Proof.Machine
end

