-- ==== Sys2Proof/Machine/Package.lean ====
section
/-!
DEFINITION. The package (18 R568 to R570): its ball array, and what each ball carries. No command reads it.
-/
namespace Sys2Proof.Machine

/-- A ball by row index 0 to 63 and column 1 to 64 (18 R568). -/
structure Ball where
  row : Nat
  column : Nat
deriving DecidableEq, Repr

/-- The 19 row letters in their order. -/
def rowLetters : List Char := "ABCDEFGHJKLMNPTUVWY".toList

/-- The letters of a row: one for the first 19 rows, then two in the same sequence (18 R568). -/
def rowName (row : Nat) : List Char :=
  let second := rowLetters.getD (row % 19) 'A'
  if row < 19 then [second] else [rowLetters.getD (row / 19 - 1) 'A', second]

/-- A position of the 64 by 64 array that has a ball: the corners of 4 by 4 have none (18 R568). -/
def Ball.populated (b : Ball) : Bool :=
  let edge (n : Nat) : Bool := decide (n < 4) || decide (60 ≤ n)
  decide (b.row < 64) && decide (1 ≤ b.column) && decide (b.column ≤ 64) && !(edge b.row && edge (b.column - 1))

/-- The pins of a lane and of a differential pair (18 Table 18-5). -/
inductive Polarity where
  | positive
  | negative
deriving DecidableEq, Repr

inductive Direction where
  | transmit
  | receive
deriving DecidableEq, Repr

/-- The single-ended signals of row CE, columns 5 to 40, in their order (18 Table 18-5). -/
inductive CeSignal where
  | perstN | resetN | resetOutN | intN | powerWarnN
  | ppsIn (pin : Fin 2) | ppsOut (pin : Fin 4)
  | xspiClk | xspiCsN | xspiDqs | xspiDq (bit : Fin 8)
  | smbScl | smbSda | avsClk | avsMdata | avsSdata
  | tck | tms | tdi | tdo | trstN | uartTx | uartRx
  | vddCoreSense (p : Polarity)
deriving DecidableEq, Repr

def ceSignals : List CeSignal :=
  [.perstN, .resetN, .resetOutN, .intN, .powerWarnN, .ppsIn 0, .ppsIn 1, .ppsOut 0, .ppsOut 1, .ppsOut 2, .ppsOut 3,
   .xspiClk, .xspiCsN, .xspiDqs, .xspiDq 0, .xspiDq 1, .xspiDq 2, .xspiDq 3, .xspiDq 4, .xspiDq 5, .xspiDq 6, .xspiDq 7,
   .smbScl, .smbSda, .avsClk, .avsMdata, .avsSdata, .tck, .tms, .tdi, .tdo, .trstN, .uartTx, .uartRx,
   .vddCoreSense .positive, .vddCoreSense .negative]

/-- The signals of row CC, columns 5 to 30, in their order (18 Table 18-5). -/
inductive CcSignal where
  | gpio (n : Fin 16)
  | bootSrc (n : Fin 2)
  | clkMode (n : Fin 2)
  | nodeId (n : Fin 4)
  | mgmtAddr (n : Fin 2)
deriving DecidableEq, Repr

def ccSignals : List CcSignal :=
  [.gpio 0, .gpio 1, .gpio 2, .gpio 3, .gpio 4, .gpio 5, .gpio 6, .gpio 7, .gpio 8, .gpio 9, .gpio 10, .gpio 11, .gpio 12,
   .gpio 13, .gpio 14, .gpio 15, .bootSrc 0, .bootSrc 1, .clkMode 0, .clkMode 1, .nodeId 0, .nodeId 1, .nodeId 2, .nodeId 3,
   .mgmtAddr 0, .mgmtAddr 1]

/-- The clock inputs in their order on row CG (18 Table 18-5). -/
inductive ClockInput where
  | pcieRefclk
  | refclk
  | tbref
deriving DecidableEq, Repr

/-- The rails of 18 Table 18-6. -/
inductive PackageRail where
  | vddCore | vddSram | vddaSd | vddhSd | hbmVdd | hbmVddq | hbmVpp | vddio | vddAon | vss
deriving DecidableEq, Repr

/-- What a ball carries. -/
inductive BallUse where
  | mLane (lane : Nat) (d : Direction) (p : Polarity)
  | tLane (index : Nat) (d : Direction) (p : Polarity)
  | pcieLane (lane : Nat) (d : Direction) (p : Polarity)
  | clock (input : ClockInput) (p : Polarity)
  | ce (signal : CeSignal)
  | cc (signal : CcSignal)
  | reserved
  | supply (rail : PackageRail)
  | absent
deriving DecidableEq, Repr

def polarityOf (n : Nat) : Polarity := if n % 2 = 0 then .positive else .negative

/-- The signal ball at a populated position, if it is one (18 R569, Table 18-5). -/
def Ball.signal (b : Ball) : Option BallUse :=
  let c := b.column
  let lane (first step : Nat) (row : Nat) : Option Nat :=
    if first ≤ row ∧ (row - first) % step = 0 ∧ (row - first) / step < 16 then some ((row - first) / step) else none
  if (b.row = 0 ∨ b.row = 2) ∧ 10 ≤ c ∧ c ≤ 53 ∧ (c - 10) % 6 ≤ 1 then
    some (.mLane ((c - 10) / 6) (if b.row = 0 then .transmit else .receive) (polarityOf ((c - 10) % 6)))
  else if c ≤ 4 ∧ (lane 6 3 b.row).isSome then
    (lane 6 3 b.row).map fun l => .tLane l (if c ≤ 2 then .transmit else .receive) (polarityOf (c - 1))
  else if 61 ≤ c ∧ (lane 6 3 b.row).isSome then
    (lane 6 3 b.row).map fun l => .tLane (l + 16) (if 63 ≤ c then .transmit else .receive) (polarityOf (64 - c))
  else if b.row = 63 ∧ 10 ≤ c ∧ c ≤ 25 then
    some (.pcieLane ((c - 10) / 4) (if (c - 10) % 4 ≤ 1 then .transmit else .receive) (polarityOf (c - 10)))
  else if b.row = 63 ∧ (c = 27 ∨ c = 28) then some (.clock .pcieRefclk (polarityOf (c - 27)))
  else if b.row = 63 ∧ (c = 31 ∨ c = 32) then some (.clock .refclk (polarityOf (c - 31)))
  else if b.row = 63 ∧ (c = 35 ∨ c = 36) then some (.clock .tbref (polarityOf (c - 35)))
  else if b.row = 61 ∧ 5 ≤ c ∧ c ≤ 40 then (ceSignals[c - 5]?).map .ce
  else if b.row = 61 ∧ 41 ≤ c ∧ c ≤ 60 then some .reserved
  else if b.row = 59 ∧ 5 ≤ c ∧ c ≤ 30 then (ccSignals[c - 5]?).map .cc
  else none

/-- The rail of a populated ball that carries no signal (18 R570, Table 18-6). -/
def Ball.rail (b : Ball) : PackageRail :=
  let c := b.column
  let inner : Bool := decide (5 ≤ c) && decide (c ≤ 60)
  let side : Bool := decide (6 ≤ b.row) && decide (b.row ≤ 55)
  if 8 ≤ b.row ∧ b.row ≤ 53 ∧ 7 ≤ c ∧ c ≤ 58 ∧ (b.row + c) % 2 = 0 then .vddCore
  else if (b.row = 6 ∨ b.row = 7 ∨ b.row = 54 ∨ b.row = 55) ∧ 7 ≤ c ∧ c ≤ 58 then .vddSram
  else if (b.row = 4 ∧ inner) ∨ (side ∧ (c = 5 ∨ c = 60)) then .vddaSd
  else if (b.row = 5 ∧ inner) ∨ (side ∧ (c = 6 ∨ c = 59)) then .vddhSd
  else if (b.row = 56 ∨ b.row = 57) ∧ inner then .hbmVdd
  else if b.row = 58 ∧ inner then .hbmVddq
  else if b.row = 59 ∧ 31 ≤ c ∧ c ≤ 46 then .hbmVpp
  else if (b.row = 59 ∧ 47 ≤ c ∧ c ≤ 60) ∨ (b.row = 62 ∧ 5 ≤ c ∧ c ≤ 30) then .vddio
  else if b.row = 62 ∧ 31 ≤ c ∧ c ≤ 38 then .vddAon
  else .vss

/-- What a position of the array carries. -/
def Ball.use (b : Ball) : BallUse :=
  if !b.populated then .absent else (b.signal).getD (.supply b.rail)

end Sys2Proof.Machine
end

