-- ==== Sys2Proof/Tests/Slice0.lean ====
section
/-!
SUPPORT. Tests of the model on fixed values, and a witness for the hypotheses of each statement.
-/
namespace Sys2Proof.Tests

-- One theorem after another: the memory of the check holds no more of them at once.
set_option Elab.async false
set_option linter.all false
open Sys2Proof Sys2Proof.Machine

/-- A device that runs in a mode under Rhoper. -/
def on (m : Mode) : State :=
  { State.reset with
    mode := { current := m, steward := .rhoper }
    power := { asserted := false, pcieReleased := true, vaultUp := true }
    link := { up := true } }

/-- A device on which the ROM runs. -/
def rom (m : Mode) : State :=
  { State.reset with mode := { current := m, steward := .rom } }

/-- A command with header FORMAT 1 and the parameters given. -/
def cmd (fs : List Fld) : Cmd := ⟨1, 0, 1, 0, 0, BitVec.ofNat 384 (layout 16 fs)⟩

/-- A G.711 program of 20 ms with no leg B. -/
def prog : List Fld :=
  [⟨24, 1, 1⟩, ⟨28, 1, 20⟩, ⟨32, 1, 0xFF⟩, ⟨33, 1, 0xFF⟩, ⟨34, 1, 0xFF⟩, ⟨35, 1, 0xFF⟩]

/-- A single-leg channel. -/
def chan : Channel :=
  { id := 16, engine := 0, slot := 0, level := 4, coins := 5, state := .running, program := programOf (cmd prog), next := none,
    conference := none, firstFrame := 1, closing := none, ecConverged := false, ecDisabled := false, nlpActive := false,
    ecErl := 0, ecErle := 0, checkpointFrame := 0, move := none, outMove := none, legA := { session := 0x2000005 }, legB := {} }

/-- A session without a channel. -/
def sess : Session := newSession (cmd [⟨40, 2, 5004⟩, ⟨49, 1, 64⟩]) 5 1 none

/-- A mode with channels, sessions and conferences in it. -/
def holding (m : Mode) (chs : List Channel) (ss : List Session) (cs : List Conference) : State :=
  { on m with
    voice := { channels := chs, conferences := cs }
    tables := { sessions := ss } }

/-! States, commands and entries that the witnesses share. -/

def entry (id : Nat) (op : Op) (p : Phase) (c : Cmd) : Entry := ⟨id, op, .dmb, 0, c, p, [], false, false, [], none, [], [], []⟩

def saving : State := { on .service with
  cmds := { entries := [⟨0, .settingsSave, .cq 0 0, 0, cmd [], .executing, [.settings], true, false, [], none, [], [], []⟩], nextId := 1 }
  sets := { save := some { entry := some 0, copy := {}, gen := 1, area := 0, done := 0, total := saveOps } } }

def govern (mv : Nat) : State := { on .service with gov := { started := true, targetMv := mv } }

def addP : List Fld := [⟨40, 2, 5004⟩, ⟨49, 1, 64⟩]

def conf0 : Conference := ⟨32, 3, 3, false, [], false⟩

def conf1 : Conference := ⟨32, 3, 3, false, [{ index := 0, channel := 16, listenOnly := false, gainDb := 0 }], false⟩

def tone : List Fld := [⟨16, 4, 16⟩, ⟨28, 1, 0xF6⟩, ⟨29, 1, 0xF6⟩, ⟨31, 1, 1⟩, ⟨32, 2, 100⟩]

def chanT : Channel := { chan with legA := { session := 0x2000005, tone := some ⟨true, 1, false, 0, 0, 0, 0, 1, [(100, 0)], 1⟩ } }

def det : List Fld := [⟨21, 1, 1⟩, ⟨22, 1, 40⟩, ⟨23, 1, 0xD8⟩, ⟨24, 2, 400⟩, ⟨28, 1, 2⟩, ⟨29, 1, 0xE0⟩, ⟨30, 2, 100⟩]

def tbFree : State := { on .service with time := { bases := { state := .free } :: List.replicate 3 {} } }

def tbRole2 : State := { tbFree with cfg := { timeBases := { enable := true, role := 2 } :: List.replicate 3 {} } }

def pkt : LaunchPacket := ⟨65536 * 1000000000, 16, 200, 0, false, none, false, []⟩

def timedQ : State := { tbFree with
  cfg := { launch := { timed := true, offsetNs := 1000000 } :: List.replicate 63 {} }
  launch := { queues := { packets := [pkt] } :: List.replicate 63 {} } }

def sKey : StationKey := ⟨4095, 0x020000000001⟩

def sP : List Fld := [⟨18, 2, 4095⟩, ⟨20, 6, 0x010000000002⟩]

def stat : Station := ⟨sKey, 0, 7, true, 0, 0⟩

def withStat : State := { on .service with tables := { stations := [stat] } }

def ready7 : State := { on .diagnostic with lanes := { lanes := { state := .ready, cdrLocked := true, aligned := true } :: List.replicate 39 {} } }

def joined : State := { on .service with
  cfg := { clusterSize := 2 }
  lanes := { links := { state := .up, width := 8 } :: List.replicate 3 {} }
  cluster := { view := some ⟨1, 0, 3, List.replicate 256 0⟩, peers := {} :: ⟨some 0, 4, 2, 0, 0⟩ :: List.replicate 14 {} } }

def frec : FaultRecord := ⟨3, 1, 0, 5, 9, 1, 0, 4, 0, 0, 0⟩

def waitE : Entry := entry 0 .nop .waiting (cmd [])

def dsc : List Byte := natBytes 64 (layout 0 [⟨0,2,1⟩,⟨2,2,9⟩,⟨5,1,1⟩])

def cqs : State := { on .service with ep := { cq := { enable := true, tail := 1, log2 := 4, staging := descriptors 1 dsc } :: List.replicate 3 {}, cc := {enable := true, log2 := 4} :: List.replicate 3 {} } }

def lw : LedgerWrite := ⟨5, 77, .host⟩

def qst : State := on .service

def ao : State := { qst with alw := { running := true } }

/-- HOSTDMA holds accesses of the Till. -/
def rich : State := setBalance 2 1 (fun b => { b with b := 4096 }) ao

def fq : State := { qst with ep := { cq := { enable := true, tail := 2, log2 := 4 } :: List.replicate 3 {}, cc := {enable := true, log2 := 4} :: List.replicate 3 {} , config := { busMaster := true } } }

def fqr : State := { fq with alw := rich.alw }

def ske : Entry := { entry 0 .srtpKeySet .executing (cmd [⟨16,4,0x10⟩,⟨24,8,4096⟩]) with aux := [1] }

def adr : State := { qst with mgmt := { dynamic := some 9 } }

def pblk : State := { qst with power := { asserted := false, pcieReleased := true, perstBlock := true } }

def st : Straps := ⟨2, 1, 5, 3⟩

def blk (b : Nat) : BlockReset := ⟨b, .resetCtrl, false, false, 0, 100, 0, 2000000, []⟩

def wb (b : Nat) : State := { qst with power := { asserted := false, pcieReleased := true, blocks := [blk b] } }

def ab (b : Nat) : State := { qst with power := { asserted := false, pcieReleased := true, blocks := [{ blk b with applied := true, appliedAt := 7 }] } }

def bx (b : Fin 84) : State × Nat := blockApply (blk b.val) false (wb b.val)

def aq : State := setBalance 2 0 (fun b => { b with b := 100, waiting := [⟨3, .other⟩] }) ao

def tk : Task := ⟨16, 4, .frame, 1, 0, 0⟩

def tk0 : Task := ⟨16, 0, .frame, 1, 0, 0⟩

def rep : TaskReport := ⟨true, [], [], []⟩

def eng (x : Engine) : State := { qst with board := { engines := x :: List.replicate 63 {} } }

def sch : Channel := { chan with state := .suspended }

def upP : State := { qst with ports := { state := .up } :: List.replicate 7 {} }

def key : StationKey := ⟨0, 5⟩

def lch : Channel := { chan with legA := { session := 5, flags := 0x10, latched := some (9, 9), lastAcceptedAt := 4 } }

def jch : Channel := { chan with legA := { session := 5, jb := { cfg := { fixed := true } } } }

def j2 : Channel := { chan with legA := { session := 5, jb := { cfg := { fixed := false }, latenessMs := [(0, 33)] } } }

def vs (c : Channel) : State := { qst with voice := { channels := [c] } }

def prt (x : Port) (l : Lane) : State := { qst with ports := x :: List.replicate 7 {}, lanes := { lanes := l :: List.replicate 39 {} } }

def fre (q : LaunchQueue) (c : LaunchCfg) (p : Port) : State := { qst with
   time := { bases := { state := .free } :: List.replicate 3 {} }
   cfg := { launch := c :: List.replicate 63 {} }
   ports := p :: List.replicate 7 {}
   launch := { queues := q :: List.replicate 63 {} } }

def pktSoon : LaunchPacket := ⟨0, 16, 200, 0, false, none, false, []⟩

def up : Port := { state := .up }

def g0 : State := fre { packets := [pktSoon] } { timed := true } up

def g1 : State := fre { packets := [pktSoon] } {} up

def pp : State := { qst with cfg := { pps := { enable := true, offsetNs := -5 } :: List.replicate 5 {} }, time := { bases := { state := .free } :: List.replicate 3 {} } }

def pi : State := { qst with cfg := { pps := List.replicate 4 {} ++ [{ enable := true }, {}] } }

def tb (b : TimeBase) (c : TimeBaseCfg) : State := { qst with cfg := { timeBases := c :: List.replicate 3 {} }, time := { bases := b :: List.replicate 3 {} } }

def wt : PtpWaiting := ⟨2, 0, true, 0, 14, List.replicate 90 0, 5, 5, 0, false⟩

def ent : Entry := ⟨3, .tbAdjust, .dmb, 0, cmd [], .executing, [], false, false, [], none, [9], [], []⟩

def ln (l : Lane) : State := { qst with lanes := { lanes := l :: List.replicate 39 {} } }

def tl (l : Lane) : State := { qst with lanes := { lanes := List.replicate 8 {} ++ l :: List.replicate 31 {} } }

def sent : Entry := ⟨3, .eyeScan, .dmb, 0, cmd [], .executing, [], true, false, [], none, [], [], []⟩

def scn (d : Nat) : State := { (ln { state := .ready }) with cmds := { entries := [sent] }, lanes := { lanes := { state := .ready } :: List.replicate 39 {}, scans := [⟨3, 0, 1, 1, 20, 4096, 5, d, false⟩] } }

def lk (l : TyLink) : State := { qst with cfg := { clusterSize := 4 }, lanes := { links := l :: List.replicate 3 {}, lanes := List.replicate 8 {} ++ List.replicate 32 { state := .ready } } }

def hlf : State := { qst with lanes := { links := { state := .training } :: List.replicate 3 {}, lanes := List.replicate 8 {} ++ List.replicate 4 { state := .ready } ++ List.replicate 28 {} } }

def rf : ReplayFrame := ⟨1, 2, .reset false, 64, 0, 0, 0, 0⟩

def th : TyHeader := ⟨0, 1, false, 3, 5, 2, 64, 0, true, 0⟩

def lkU (l : TyLink) : State := lk { l with state := .up, width := 8, rxSeq := 5 }

def om : OutMove := ⟨none, 1, true, 3, 2, 9, true, 1, 0⟩

def mch : Channel := { chan with state := .moving, outMove := some om }

def smp : TelemetrySample := ⟨List.replicate 9 (some 400), [750, 800, 900, 1800], 5, true, false⟩

def hot : TelemetrySample := ⟨some 1000 :: List.replicate 8 (some 400), [750, 800, 900, 1800], 5, true, false⟩

def tga : Cmd := { cmd [] with tag := 5000 }

def bad : Cmd := { cmd [] with format := 2 }

def nopE : Entry := ⟨0, .nop, .dmb, 0, cmd [], .executing, [], false, false, [], none, [], [], []⟩

def cqE : Entry := ⟨0, .nop, .cq 0 3, 0, { cmd [] with tag := 9 }, .executing, [], false, false, [], none, [], [], []⟩

def dup : State := { qst with cmds := { entries := [cqE], nextId := 1 } }

def rc : Cmd := { cmd [] with tag := 7, retryId := 77 }

def rr (r : Option (Byte × BitVec 160)) (o : Op) : RetryRecord := ⟨77, o, 0, 0, r, 5⟩

def rst (r : Option (Byte × BitVec 160)) (o : Op) : State := { qst with cmds := { entries := [{cqE with cmd := {cmd [] with tag := 3, retryId := 77}}], nextId := 1, retry := [rr r o] } }

def clo : Cmd := cmd [⟨16, 4, 16⟩]

def opE : Entry := ⟨0, .channelClose, .cq 0 3, 0, clo, .executing, objectsOf .channelClose clo, true, false, [], none, [], [], []⟩

def fin : State := { rich with cmds := dup.cmds, ep := { cc := { enable := true, log2 := 4, tail := 15 } :: List.replicate 3 {} }, link := { up := true } }

def dst : State := { qst with ep := { cq := { enable := true, log2 := 4 } :: List.replicate 3 {}, cc := { enable := true, log2 := 4 } :: List.replicate 3 {} } }

theorem grantInstant_zero (s : State) (port : Nat) (p : LaunchPacket) (h : p.launch = 0)
    (hl : s.latencyShift port 1 = 0) : s.grantInstant port p = 0 := by
  unfold State.grantInstant
  rw [h, hl]
  omega

/-- Whatever the pipeline delay, a packet whose launch is 0 is due. -/
theorem soonest : (advance 0 g0).earliest 0 (((advance 0 g0).timedHeads 0).filter fun x =>
    decide ((advance 0 g0).grantInstant 0 x.2 ≤ (advance 0 g0).tbValue ((advance 0 g0).launchCfg 0 x.1).tb)) =
      some (0, pktSoon) := by
  have h : (advance 0 g0).grantInstant 0 pktSoon = 0 := grantInstant_zero _ _ _ rfl (by
    have o : (advance 0 g0).calOffset 3 = 0 := by decide +kernel
    have i : (advance 0 g0).portCfg 0 = {} := by decide +kernel
    simp [State.latencyShift, State.calEffective, i, o, calRange])
  have t : (advance 0 g0).timedHeads 0 = [(0, pktSoon)] := by decide +kernel
  simp [t, h, State.earliest]

/-- A channel whose session lives on node 1. -/
def roamer : Channel := { chan with legA := { session := 0x2200005 } }

def sending : State := { qst with
  time := { bases := { state := .free } :: List.replicate 3 {} }
  cfg := { timeBases := { role := 1 } :: List.replicate 3 {}, ptpPorts := {} :: { enable := true } :: List.replicate 6 {} } }

def loading : State := { State.reset with power := { asserted := false, optionLoading := true } }

def signalled : State := { qst with ep := { config := { msixEnable := true }, msix := List.replicate 64 { masked := false } } }

/-! One theorem for each statement with hypotheses: concrete values that meet them together, for each of its clauses. -/

theorem witness_DeviceCommandsComplete :
    (∃ src c, ∃ s : State, opens .nop src c s = true ∧ accepts runModes [reservedBits c 16 1 1, reservedBytes c 17 64] s
      = true) ∧
    (∃ src c, ∃ s : State, opens .identify src c s = true ∧ accepts allModes [reservedBytes c 16 64] s = true) ∧
    (∃ src c, ∃ s : State, opens .versionGet src c s = true ∧ s.mode.steward = .rhoper ∧ accepts runModes [reservedBytes
      c 16 64] s = true) ∧
    (∃ src c, ∃ s : State, opens .versionGet src c s = true ∧ s.mode.steward = .rom ∧ accepts [.loader, .recovery]
      [reservedBytes c 16 64] s = true) ∧
    (∃ src c, ∃ s : State, ∃ id, ∃ t : Entry, ∃ j : SaveJob, opens .commandAbort src c s = true ∧ accepts runModes
      [reservedBytes c 18 64] s = true ∧ s.abortTargetOf .commandAbort src c = some id ∧ (opened .commandAbort src c
      s).entry id = some t ∧ t.op = .settingsSave ∧ t.phase = .executing ∧ s.sets.save = some j ∧ j.done % chunkOps = 0 ∧
      (s.alw.flashBusy.any fun r => r.job == .settings) = false) ∧
    (∃ src c, ∃ s : State, opens .eqSteerSet src c s = true ∧ accepts runModes (((List.range 11).map fun f => need (16 +
      f) (decide (prmByte c (16 + f) = 4) || (decide (6 ≤ prmByte c (16 + f)) && decide (prmByte c (16 + f) ≤ 63)))) ++
      [reservedBytes c 27 64]) s = true) ∧
    (∃ src c, ∃ s : State, opens .diagWindowMap src c s = true ∧ accepts [.diagnostic] [need 16 (decide (prmByte c 16
      ≤ 1) || decide (prmByte c 16 = 255)), reservedBytes c 17 24, need 24 (decide (prm c 24 8 % 0x10000 = 0)),
      reservedBytes c 32 64, need 24 (decide (prmByte c 16 = 255) || decide (prm c 24 8 + 0xF0000 ≤ if prmByte c 16 =
      1 then 0x400000000 else 0x4000000))] s = true) ∧
    (∃ src c, ∃ s : State, opens .counterRead src c s = true ∧ accepts runModes [within c 16 1 0 7, within c 17 1 0 10,
      hostAddr c 24 64, within c 32 2 1 256, reservedBytes c 34 64, need 17 (counterSub (prmByte c 16) (prmByte c 17)),
      need 20 (counterInstance (prmByte c 16) (prmByte c 17) (prm c 20 4)), need 32 (decide (prm c 18 2 + prm c 32 2 ≤
      256))] s = true ∧ (prmByte c 16 = 3 → ∃ ch ∈ s.voice.channels, ch.id = prm c 20 4)) ∧
    (∃ src c, ∃ s : State, opens .telemetryRead src c s = true ∧ accepts runModes [within c 16 1 0 2, within c 17 1 0 71,
      reservedBytes c 18 64, need 17 (decide (prmByte c 16 = 2) || decide (prmByte c 17 = 0))] s = true) :=
  ⟨⟨.dmb, (cmd []), (on .service), by decide +kernel⟩,
   ⟨.dmb, (cmd []), (on .service), by decide +kernel⟩,
   ⟨.dmb, (cmd []), (on .service), by decide +kernel⟩,
   ⟨.dmb, (cmd []), (rom .loader), by decide +kernel⟩,
   ⟨(.cq 1 0), { cmd [⟨16, 2, 1⟩] with tag := 2 }, saving, 0, ⟨0, .settingsSave, .cq 0 0, 0, cmd [], .executing,
  [.settings], true, false, [], none, [], [], []⟩,
  { entry := some 0, copy := {}, gen := 1, area := 0, done := 0, total := saveOps }, by decide +kernel⟩,
   ⟨.dmb, (cmd ((List.range 11).map fun k => ⟨16 + k, 1, 6 + k⟩)), (on .service), by decide +kernel⟩,
   ⟨.dmb, (cmd [⟨16, 1, 1⟩, ⟨24, 8, 0x10000⟩]), (on .diagnostic), by decide +kernel⟩,
   ⟨.dmb, (cmd [⟨24, 8, 0x4000⟩, ⟨32, 2, 256⟩]), (on .service), by decide +kernel⟩,
   ⟨.dmb, (cmd []), (on .service), by decide +kernel⟩⟩

theorem witness_ModeAndResetCommandsComplete :
    (∃ src c, ∃ s : State, opens .modeSet src c s = true ∧ accepts runModes (modeSetChecks c) s = true ∧ prmByte c 16 ≠
      255 ∧ modePair s.mode.current (modeOf (prmByte c 16)) = true ∧ s.voice.channels = []) ∧
    (∃ src c, ∃ s : State, opens .modeSet src c s = true ∧ prmByte c 16 = 255 ∧ src ≠ .mgmt ∧ accepts (.loader ::
      .recovery :: runModes) (modeSetChecks c) s = true) ∧
    (∃ src c, ∃ s : State, opens .deviceReset src c s = true ∧ src ≠ .mgmt ∧ prmByte c 16 ≠ 3 ∧ accepts (.recovery ::
      runModes) (deviceResetChecks c) s = true) ∧
    (∃ src c, ∃ s : State, opens .resetPolicySet src c s = true ∧ accepts [.standby, .diagnostic] [reservedBits c 16 1 3,
      reservedBytes c 17 64] s = true) :=
  ⟨⟨.dmb, (cmd [⟨16, 1, 4⟩]), (on .standby), by decide +kernel⟩,
   ⟨.dmb, (cmd [⟨16, 1, 255⟩]), (rom .recovery), by decide +kernel⟩,
   ⟨.dmb, (cmd [⟨16, 1, 2⟩]), (on .service), by decide +kernel⟩,
   ⟨.dmb, (cmd [⟨16, 1, 3⟩]), (on .standby), by decide +kernel⟩⟩

theorem witness_IslandCommandsComplete :
    (∃ c, islandOpens .identify c = true ∧ reservedBytes c 16 64 = none) ∧
    (∃ c, islandOpens .telemetryRead c = true ∧ badOffset [within c 16 1 0 2, within c 17 1 0 71, reservedBytes c 18 64,
      need 17 (decide (prmByte c 16 = 2) || decide (prmByte c 17 = 0))] = none) ∧
    (∃ c, islandOpens .modeSet c = true ∧ badOffset (modeSetChecks c) = none) ∧
    (∃ c, islandOpens .deviceReset c = true ∧ badOffset (deviceResetChecks c) = none) :=
  ⟨⟨(cmd []), by decide +kernel⟩,
   ⟨(cmd [⟨16, 1, 2⟩, ⟨17, 1, 71⟩]), by decide +kernel⟩,
   ⟨(cmd [⟨16, 1, 255⟩]), by decide +kernel⟩,
   ⟨(cmd [⟨16, 1, 1⟩]), by decide +kernel⟩⟩

theorem witness_GovernorAndAllowanceCommandsComplete :
    (∃ src c, ∃ s : State, ∃ g : GovernorCfg, opens .governorSet src c s = true ∧ accepts [.standby, .service, .drain]
      [within c 16 1 0 2, within c 17 1 0 2, need 18 (decide (650 ≤ prm c 18 2) && decide (prm c 18 2 ≤ 800) && decide
      (prm c 18 2 % 5 = 0)), within c 20 1 16 128, reservedBytes c 21 64, need 18 (decide (prm c 18 2 ≤ pointMv (prmByte
      c 17)))] s = true ∧ ((List.range 64).all fun n => decide (s.coinsOn n ≤ ratedCoins (prmByte c 17))) = true ∧
      s.gov.started = true ∧ g =
      { mode := prmByte c 16, point := prmByte c 17, floorMv := prm c 18 2, margin := prmByte c 20 } ∧ (match g.mode with
      | 0 => pointMv g.point | 1 => ({ s with cfg := { s.cfg with governor := g } } : State).ratedTarget
      | _ => g.floorMv) ≤ s.gov.targetMv) ∧
    (∃ src c, ∃ s : State, ∃ g : GovernorCfg, opens .governorSet src c s = true ∧ accepts [.standby, .service, .drain]
      [within c 16 1 0 2, within c 17 1 0 2, need 18 (decide (650 ≤ prm c 18 2) && decide (prm c 18 2 ≤ 800) && decide
      (prm c 18 2 % 5 = 0)), within c 20 1 16 128, reservedBytes c 21 64, need 18 (decide (prm c 18 2 ≤ pointMv (prmByte
      c 17)))] s = true ∧ ((List.range 64).all fun n => decide (s.coinsOn n ≤ ratedCoins (prmByte c 17))) = true ∧
      s.gov.started = true ∧ g = { mode := 0, point := prmByte c 17, floorMv := prm c 18 2, margin := prmByte c 20 } ∧
      prmByte c 16 = 0 ∧ s.gov.targetMv < pointMv g.point) ∧
    (∃ src c, ∃ s : State, opens .paceReport src c s = true ∧ accepts runModes [hostAddr c 16 64, reservedBytes c 24 64]
      s = true) ∧
    (∃ src c, ∃ s : State, opens .paceOffsetSet src c s = true ∧ accepts [.standby, .diagnostic] [within c 16 1 0 71,
      reservedBytes c 18 64] s = true) ∧
    (∃ src c, ∃ s : State, ∃ new, opens .allowanceSet src c s = true ∧ accepts runModes [within c 16 1 0 7, within c 17 1
      0 3, reservedBits c 18 1 1, reservedBytes c 19 20, reservedBytes c 28 64, need 20 (decide (prm c 20 4 ≤ 256 *
      ratedCapacity (prmByte c 17))), need 24 (background (prmByte c 16) || decide (prm c 24 4 = 0)), need 24 (decide
      (prm c 24 4 ≤ prm c 20 4))] s = true ∧ prmByte c 18 % 2 = 0 ∧ new = s.cfg.allowances.set (4 * prmByte c 16 +
      prmByte c 17) ⟨prm c 20 4, prm c 24 4⟩ ∧ (prmByte c 16 = 4 → prmByte c 17 = 0 → 64 ≤ prm c 24 4) ∧ (prmByte c 16 =
      4 → prmByte c 17 = 1 → 2 ≤ prm c 24 4) ∧ (List.range 4).all (sumFits new) = true ∧ mediaFits new (s.admitted.map
      (·.coins)) = true) ∧
    (∃ src c, ∃ s : State, opens .allowanceSet src c s = true ∧ accepts runModes [reservedBits c 18 1 1, reservedBytes c
      19 20, reservedBytes c 28 64] s = true ∧ prmByte c 18 % 2 = 1 ∧ mediaFits defaultAllowances (s.admitted.map
      (·.coins)) = true) ∧
    (∃ src c, ∃ s : State, opens .allowanceReport src c s = true ∧ accepts runModes [hostAddr c 16 64, reservedBytes c 24
      64] s = true) :=
  ⟨⟨.dmb, (cmd [⟨17, 1, 1⟩, ⟨18, 2, 700⟩, ⟨20, 1, 32⟩]), (govern 750), ⟨0, 1, 700, 32⟩, by decide +kernel⟩,
   ⟨.dmb, (cmd [⟨17, 1, 2⟩, ⟨18, 2, 700⟩, ⟨20, 1, 32⟩]), (govern 750), ⟨0, 2, 700, 32⟩, by decide +kernel⟩,
   ⟨.dmb, (cmd [⟨16, 8, 4096⟩]), (on .service), by decide +kernel⟩,
   ⟨.dmb, (cmd [⟨16, 1, 71⟩, ⟨17, 1, 0x80⟩]), (on .standby), by decide +kernel⟩,
   ⟨.dmb, (cmd [⟨16, 1, 4⟩, ⟨20, 4, 100⟩, ⟨24, 4, 64⟩]), (on .service), ((on .service).cfg.allowances.set 16 ⟨100, 64⟩),
  by decide +kernel⟩,
   ⟨.dmb, (cmd [⟨18, 1, 1⟩]), (on .service), by decide +kernel⟩,
   ⟨.dmb, (cmd [⟨16, 8, 4096⟩]), (on .service), by decide +kernel⟩⟩

theorem witness_SettingsCommandsComplete :
    (∃ src c, ∃ s : State, ∃ a, opens .settingsSave src c s = true ∧ accepts runModes [reservedBytes c 16 64] s = true ∧
      s.nextGen ≤ 0xFFFFFFFE ∧ s.mayNotSave = false ∧ s.saveTarget = some a) ∧
    (∃ src c, ∃ s : State, opens .settingsStatus src c s = true ∧ accepts runModes [hostAddr c 16 64, reservedBytes c 24
      64] s = true) ∧
    (∃ src c, ∃ s : State, ∃ x, opens .settingsRevert src c s = true ∧ accepts [.standby, .diagnostic] [reservedBytes c
      16 64] s = true ∧ s.sets.loaded = some x) ∧
    (∃ src c, ∃ s : State, opens .settingsFactory src c s = true ∧ accepts [.standby, .diagnostic] [reservedBytes c 16
      64] s = true) :=
  ⟨⟨.dmb, (cmd []), (on .service), 0, by decide +kernel⟩,
   ⟨.dmb, (cmd [⟨16, 8, 4096⟩]), (on .service), by decide +kernel⟩,
   ⟨.dmb, (cmd []), { on .standby with sets := { loaded := some {} } }, {}, by decide +kernel⟩,
   ⟨.dmb, (cmd []), (on .standby), by decide +kernel⟩⟩

theorem witness_SessionCommandsComplete :
    (∃ src c, ∃ s : State, ∃ p rest x, opens .sessionAdd src c s = true ∧ accepts serviceModes (sessionAddChecks c) s =
      true ∧ s.tables.teller = [] ∧ s.homeOf (sessionAddKey c).hash = s.node ∧ s.sessionByKey (sessionAddKey c) = none ∧
      needsAlias (BitVec.ofNat 8 (prmByte c 16)) = false ∧ s.freePlaces (sessionAddKey c).hash = p :: rest ∧ x =
      newSession c p (sget 1 s.tables.generations p) none) ∧
    (∃ src c, ∃ s : State, ∃ p q rest x, opens .sessionAdd src c s = true ∧ accepts serviceModes (sessionAddChecks c) s =
      true ∧ s.tables.teller = [] ∧ s.homeOf (sessionAddKey c).hash = s.node ∧ s.sessionByKey (sessionAddKey c) = none ∧
      s.sessionByKey { sessionAddKey c with port := (sessionAddKey c).port + 1 } = none ∧ needsAlias (BitVec.ofNat 8
      (prmByte c 16)) = true ∧ s.freePlaces (sessionAddKey c).hash = p :: q :: rest ∧ x = newSession c p (sget 1
      s.tables.generations p) (some q)) ∧
    (∃ src c, ∃ s : State, ∃ x : Session, opens .sessionModify src c s = true ∧ accepts serviceModes (sessionModifyChecks
      c) s = true ∧ s.tables.teller = [] ∧ handleNode (prm c 16 4) = s.node ∧ s.session (prm c 16 4) = some x ∧ x.runNode
      = none) ∧
    (∃ src c, ∃ s : State, ∃ x : Session, opens .sessionDelete src c s = true ∧ accepts serviceModes [reservedBytes c 20
      64] s = true ∧ s.tables.teller = [] ∧ handleNode (prm c 16 4) = s.node ∧ s.session (prm c 16 4) = some x ∧
      x.channel = 0) ∧
    (∃ src c, ∃ s : State, ∃ x, opens .sessionQuery src c s = true ∧ accepts serviceModes [reservedBytes c 20 24,
      hostAddr c 24 64, reservedBytes c 32 64] s = true ∧ (∀ n a, src ≠ .peer n a) ∧ s.tables.teller = [] ∧
      handleNode (prm c 16 4) = s.node ∧ s.session (prm c 16 4) = some x) ∧
    (∃ src c, ∃ s : State, ∃ x : Session, opens .relatch src c s = true ∧ accepts serviceModes (relatchChecks c) s = true
      ∧ s.tables.teller = [] ∧ handleNode (prm c 16 4) = s.node ∧ s.session (prm c 16 4) = some x ∧ x.runNode = none ∧
      prmByte c 20 % 2 = 0 ∧ latchPolicy x.flags ≠ 2) :=
  ⟨⟨.dmb, (cmd (⟨16, 1, 4⟩ :: addP)), (on .service), ((on .service).freePlaces (sessionAddKey (cmd (⟨16, 1, 4⟩ ::
  addP))).hash).head!, ((on .service).freePlaces (sessionAddKey (cmd (⟨16, 1, 4⟩ :: addP))).hash).tail, (newSession (cmd
  (⟨16, 1, 4⟩ :: addP)) ((on .service).freePlaces (sessionAddKey (cmd (⟨16, 1, 4⟩ :: addP))).hash).head! 1 none),
  by decide +kernel⟩,
   ⟨.dmb, (cmd addP), (on .service), 438040, 438041, (List.range' 438042 30), (newSession (cmd addP) 438040 1 (some
  438041)), by decide +kernel⟩,
   ⟨.dmb, (cmd [⟨16, 4, 0x2000005⟩, ⟨31, 1, 9⟩]), (holding .service [] [sess] []), sess, by decide +kernel⟩,
   ⟨.dmb, (cmd [⟨16, 4, 0x2000005⟩]), (holding .service [] [sess] []), sess, by decide +kernel⟩,
   ⟨.dmb, (cmd [⟨16, 4, 0x2000005⟩, ⟨24, 8, 4096⟩]), (holding .service [] [sess] []), sess, by decide +kernel, by decide +kernel,
  by simp, by decide +kernel⟩,
   ⟨.dmb, (cmd [⟨16, 4, 0x2000005⟩]), (holding .service [] [sess] []), sess, by decide +kernel⟩⟩

theorem witness_ChannelCommandsComplete :
    (∃ src c, ∃ s : State, ∃ a : Session, ∃ engine, opens .channelOpen src c s = true ∧ accepts [.service] (openChecks c)
      s = true ∧ s.tables.teller = [] ∧ handleNode (openA c) = s.node ∧ s.session (openA c) = some a ∧ a.channel = 0 ∧
      openB c = 0 ∧ s.chooseEngine (programCoins (programOf c) (isMixer (programOf c))) [] = some engine ∧ s.supplyAdmits
      = true ∧ s.reservedGranules + legGranules (programOf c) .a ((s.cfg.jitter.getD 0 {}).maxMs) ≤ depthPool ∧
      s.needsRaise engine (programCoins (programOf c) (isMixer (programOf c))) = false) ∧
    (∃ src c, ∃ s : State, ∃ ch : Channel, opens .channelModify src c s = true ∧ accepts serviceModes (modifyChecks
      c) s = true ∧ s.tables.teller = [] ∧ s.channel (prm c 16 4) = some ch ∧ ch.state = .running ∧ prm c 20 4 = 0 ∧ modifyDenied ch.latest (programOf c) 0 = false ∧ programCoins (programOf c) (isMixer
      (programOf c)) ≤ ch.coins ∧ s.reservedGranules - (ch.legA.jb.reserved + ch.legB.jb.reserved) + (legGranules
      (programOf c) .a ch.legA.jb.cfg.maxMs + if ch.legB.session = 0 then 0 else legGranules (programOf c) .b
      ch.legB.jb.cfg.maxMs) ≤ depthPool) ∧
    (∃ src c, ∃ s : State, ∃ ch, opens .channelClose src c s = true ∧ accepts serviceModes [reservedBytes c 20 64] s =
      true ∧ s.channel (prm c 16 4) = some ch) ∧
    (∃ src c, ∃ s : State, ∃ ch, opens .channelQuery src c s = true ∧ accepts serviceModes [reservedBytes c 20 24,
      hostAddr c 24 64, reservedBytes c 32 64] s = true ∧ (∀ n a, src ≠ .peer n a) ∧ s.channel (prm c 16 4) = some
      ch) :=
  ⟨⟨.dmb, (cmd (⟨16, 4, 0x2000005⟩ :: prog)), (holding .service [] [sess] []), sess, 0, by decide +kernel⟩,
   ⟨.dmb, (cmd (⟨16, 4, 16⟩ :: prog)), (holding .service [chan] [sess] []), chan, by decide +kernel⟩,
   ⟨.dmb, (cmd [⟨16, 4, 16⟩]), (holding .drain [chan] [sess] []), chan, by decide +kernel⟩,
   ⟨.dmb, (cmd [⟨16, 4, 16⟩, ⟨24, 8, 4096⟩]), (holding .drain [chan] [sess] []), chan, by decide +kernel,
  by decide +kernel, by simp, by decide +kernel⟩⟩

theorem witness_LegCommandsComplete :
    (∃ src c, ∃ s : State, opens .jitterSet src c s = true ∧ accepts serviceModes (jitterChecks c) s = true ∧ prm c 16 4
      = 0) ∧
    (∃ src c, ∃ s : State, ∃ ch : Channel, ∃ l, opens .jitterSet src c s = true ∧ accepts serviceModes (jitterChecks c) s
      = true ∧ prm c 16 4 ≠ 0 ∧ s.channel (prm c 16 4) = some ch ∧ ch.state ≠ .suspended ∧ l = legParam c 20 ∧ hasBuffer
      ch l = true ∧ flagUdptl (ch.legOf l).flags = false ∧ (vbd ch.latest = true → prmByte c 21 = 1) ∧ legPtime ch.latest
      (legNum l) ≤ prm c 26 2 ∧ s.reservedGranules - (ch.legOf l).jb.reserved + granules ch.latest (legNum l) (prm c 26
      2) ≤ depthPool) ∧
    (∃ src c, ∃ s : State, ∃ ch : Channel, opens .srtpKeySet src c s = true ∧ accepts serviceModes [within c 20 1 0 1,
      within c 21 1 0 1, within c 22 1 0 3, reservedBits c 23 1 1, need 24 (decide (prm c 24 8 % 64 = 0)), reservedBytes
      c 36 64, need 24 ((prmByte c 22 == 0) == (prm c 24 8 == 0))] s = true ∧ s.channel (prm c 16 4) = some ch ∧ ch.state
      ≠ .suspended ∧ (legParam c 20 = .b → noRtp (pb ch.latest 25) = false) ∧ prmByte c 22 = 0) ∧
    (∃ src c, ∃ s : State, ∃ ch : Channel, opens .srtpKeySet src c s = true ∧ accepts serviceModes [within c 20 1 0
      1, within c 21 1 0 1, within c 22 1 0 3, reservedBits c 23 1 1, need 24 (decide (prm c 24 8 % 64 = 0)),
      reservedBytes c 36 64, need 24 ((prmByte c 22 == 0) == (prm c 24 8 == 0))] s = true ∧ s.channel (prm c 16 4) =
      some ch ∧ ch.state ≠ .suspended ∧ (∀ n a, src ≠ .peer n a) ∧ (legParam c 20 = .b → noRtp (pb ch.latest 25) =
      false) ∧ prmByte c 22 ≠ 0) ∧
    (∃ src c, ∃ s : State, ∃ new, opens .fcuPhaseSet src c s = true ∧ accepts serviceModes (phaseChecks c) s = true ∧ prm
      c 16 4 = 0 ∧ new = phaseWith c (s.cfg.phase.getD (legNum (legParam c 20)) {})) ∧
    (∃ src c, ∃ s : State, ∃ ch : Channel, ∃ l, opens .fcuPhaseSet src c s = true ∧ accepts serviceModes (phaseChecks c)
      s = true ∧ prm c 16 4 ≠ 0 ∧ s.channel (prm c 16 4) = some ch ∧ ch.state ≠ .suspended ∧ l = legParam c 20 ∧ hasPaths
      ch.latest l = true ∧ (prmByte c 21).testBit 1 = true ∧ (prmByte c 21).testBit 2 = false) ∧
    (∃ src c, ∃ s : State, opens .fcuLevelSet src c s = true ∧ accepts serviceModes (levelChecks c) s = true ∧ prm c 16 4
      = 0) ∧
    (∃ src c, ∃ s : State, ∃ ch : Channel, ∃ l, opens .fcuLevelSet src c s = true ∧ accepts serviceModes (levelChecks c)
      s = true ∧ prm c 16 4 ≠ 0 ∧ s.channel (prm c 16 4) = some ch ∧ ch.state ≠ .suspended ∧ l = legParam c 20 ∧ hasPaths
      ch.latest l = true ∧ levelOf c ≠ (ch.legOf l).meter.cfg) :=
  ⟨⟨.dmb, (cmd [⟨20, 1, 1⟩, ⟨22, 2, 40⟩, ⟨24, 2, 20⟩, ⟨26, 2, 100⟩]), (on .service), by decide +kernel⟩,
   ⟨.dmb, (cmd [⟨16, 4, 16⟩, ⟨22, 2, 40⟩, ⟨24, 2, 20⟩, ⟨26, 2, 100⟩]), (holding .service [chan] [] []), chan, .a,
  by decide +kernel⟩,
   ⟨.dmb, (cmd [⟨16, 4, 16⟩]), (holding .service [chan] [] []), chan, by decide +kernel⟩,
   ⟨.dmb, (cmd [⟨16, 4, 16⟩, ⟨22, 1, 1⟩, ⟨24, 8, 4096⟩]), (holding .service [chan] [] []), chan, by decide +kernel,
  by decide +kernel, by decide +kernel, by decide +kernel, by simp, by decide +kernel⟩,
   ⟨.dmb, (cmd [⟨21, 1, 8⟩, ⟨24, 4, 65536⟩]), (on .service), (phaseWith (cmd [⟨21, 1, 8⟩, ⟨24, 4, 65536⟩]) {}),
  by decide +kernel⟩,
   ⟨.dmb, (cmd [⟨16, 4, 16⟩, ⟨21, 1, 2⟩]), (holding .service [chan] [] []), chan, .a, by decide +kernel⟩,
   ⟨.dmb, (cmd [⟨22, 1, 1⟩, ⟨23, 1, 3⟩, ⟨26, 2, 100⟩, ⟨28, 2, 100⟩]), (on .service), by decide +kernel⟩,
   ⟨.dmb, (cmd [⟨16, 4, 16⟩, ⟨22, 1, 1⟩, ⟨23, 1, 3⟩, ⟨26, 2, 100⟩, ⟨28, 2, 100⟩]), (holding .service [chan] [] []), chan,
  .a, by decide +kernel⟩⟩

theorem witness_ConferenceCommandsComplete :
    (∃ src c, ∃ s : State, ∃ id, opens .confCreate src c s = true ∧ accepts serviceModes [within c 16 1 3 64, within
      c 17 1 0 8, reservedBits c 18 1 1, reservedBytes c 19 64] s = true ∧ s.confRoom = true ∧ ((∃ n a, src = .peer n
      a) ∨ s.servicePeers = []) ∧ id = s.voice.nextConference % 268435456 * 16 + s.node) ∧
    (∃ src c, ∃ s : State, ∃ conf : Conference, ∃ ch : Channel, ∃ coins, opens .confAddLeg src c s = true ∧ accepts
      serviceModes [reservedBits c 24 1 1, need 25 (decide (-12 ≤ prmInt c 25 1) && decide (prmInt c 25 1 ≤ 12)),
      reservedBytes c 26 64] s = true ∧ prm c 16 4 ≠ 0 ∧ s.openConference (prm c 16 4) = some conf ∧ s.channel (prm c
      20 4) = some ch ∧ s.legDenied ch = none ∧ conf.legs.length < conf.maxLegs ∧ coins = programCoins (withCodecB
      ch.latest 0x11) true ∧ s.admits ch.engine coins (some ch.id) = true ∧ s.needsRaise ch.engine (coins - ch.coins)
      = false) ∧
    (∃ src c, ∃ s : State, ∃ conf : Conference, opens .confRemoveLeg src c s = true ∧ accepts serviceModes
      [reservedBytes c 24 64] s = true ∧ s.openConference (prm c 16 4) = some conf ∧ (conf.legs.any fun x =>
      x.channel == prm c 20 4 && !x.leaving) = true) ∧
    (∃ src c, ∃ s : State, ∃ conf : Conference, opens .confDestroy src c s = true ∧ accepts serviceModes
      [reservedBytes c 20 64] s = true ∧ s.openConference (prm c 16 4) = some conf) :=
  ⟨⟨.dmb, (cmd [⟨16, 1, 3⟩]), (on .service), 16, by decide +kernel, by decide +kernel, by decide +kernel,
  .inr (by decide +kernel), by decide +kernel⟩,
   ⟨.dmb, (cmd [⟨16, 4, 32⟩, ⟨20, 4, 16⟩]), (holding .service [chan] [] [conf0]), conf0, chan, 5, by decide +kernel⟩,
   ⟨.dmb, (cmd [⟨16, 4, 32⟩, ⟨20, 4, 16⟩]), (holding .service [chan] [] [conf1]), conf1, by decide +kernel⟩,
   ⟨.dmb, (cmd [⟨16, 4, 32⟩]), (holding .service [] [] [conf0]), conf0, by decide +kernel⟩⟩

theorem witness_ToneCommandsComplete :
    (∃ src c, ∃ s : State, ∃ ch : Channel, opens .toneGenerate src c s = true ∧ accepts serviceModes (toneChecks c) s =
      true ∧ s.channel (prm c 16 4) = some ch ∧ ch.state ≠ .suspended ∧ noGenerator ch.latest (legParam c 20) = false ∧
      (prmByte c 21 = 1 → prm c 24 2 ≤ if s.legRate ch (legParam c 20) = 8 then 3400 else 7000) ∧ (prmByte c 21 = 1 → prm
      c 26 2 ≤ if s.legRate ch (legParam c 20) = 8 then 3400 else 7000)) ∧
    (∃ src c, ∃ s : State, ∃ ch : Channel, ∃ g, opens .toneStop src c s = true ∧ accepts serviceModes [within c 20 1 0 1,
      reservedBytes c 21 64] s = true ∧ s.channel (prm c 16 4) = some ch ∧ ch.state ≠ .suspended ∧ noGenerator ch.latest
      (legParam c 20) = false ∧ (ch.legOf (legParam c 20)).tone = some g ∧ (ch.legOf (legParam c 20)).toneStopFrame =
      none) ∧
    (∃ src c, ∃ s : State, ∃ ch : Channel, opens .toneStop src c s = true ∧ accepts serviceModes [within c 20 1 0 1,
      reservedBytes c 21 64] s = true ∧ s.channel (prm c 16 4) = some ch ∧ ch.state ≠ .suspended ∧ noGenerator ch.latest
      (legParam c 20) = false ∧ (ch.legOf (legParam c 20)).tone = none) ∧
    (∃ src c, ∃ s : State, opens .toneDetectSet src c s = true ∧ accepts serviceModes (detectChecks c) s = true ∧ prm c
      16 4 = 0) ∧
    (∃ src c, ∃ s : State, ∃ ch : Channel, opens .toneDetectSet src c s = true ∧ accepts serviceModes (detectChecks c) s
      = true ∧ prm c 16 4 ≠ 0 ∧ s.channel (prm c 16 4) = some ch ∧ ch.state ≠ .suspended ∧ prmByte c 20 = 1) :=
  ⟨⟨.dmb, (cmd tone), (holding .service [chan] [] []), chan, by decide +kernel⟩,
   ⟨.dmb, (cmd [⟨16, 4, 16⟩]), (holding .service [chanT] [] []), chanT, ⟨true, 1, false, 0, 0, 0, 0, 1, [(100, 0)], 1⟩,
  by decide +kernel⟩,
   ⟨.dmb, (cmd [⟨16, 4, 16⟩]), (holding .service [chan] [] []), chan, by decide +kernel⟩,
   ⟨.dmb, (cmd (⟨20, 1, 3⟩ :: det)), (on .service), by decide +kernel⟩,
   ⟨.dmb, (cmd (⟨16, 4, 16⟩ :: ⟨20, 1, 1⟩ :: det)), (holding .service [chan] [] []), chan, by decide +kernel⟩⟩

theorem witness_TimeCommandsComplete :
    (∃ src c, ∃ s : State, opens .tbConfigSet src c s = true ∧ accepts runModes (tbConfigChecks c) s = true ∧ (tbConfigOf
      c).enable = true ∧ (tbConfigOf c).role = (s.tbCfg (prmByte c 16)).role) ∧
    (∃ src c, ∃ s : State, opens .tbConfigSet src c s = true ∧ accepts runModes (tbConfigChecks c) s = true ∧ s.tbNamed
      (prmByte c 16) = false) ∧
    (∃ src c, ∃ s : State, ∃ i, opens .tbAdjust src c s = true ∧ accepts runModes (tbAdjustChecks c) s = true ∧ i =
      prmByte c 16 ∧ s.tbOn i = true ∧ (s.tbCfg i).source = 0) ∧
    (∃ src c, ∃ s : State, ∃ i, opens .tbTimeGet src c s = true ∧ accepts runModes [within c 16 1 0 3, reservedBytes c 17
      64] s = true ∧ i = prmByte c 16) ∧
    (∃ src c, ∃ s : State, opens .ppsSet src c s = true ∧ accepts runModes (ppsChecks c) s = true ∧ (prmByte c 16 ≤ 3 →
      (prmByte c 17).testBit 0 = true → s.tbOn (prmByte c 18) = true)) ∧
    (∃ src c, ∃ s : State, opens .ptpPortSet src c s = true ∧ accepts runModes (ptpPortChecks c) s = true ∧ prm c 48 16 =
      0 ∧ (ptpPortOf c).enable = false) ∧
    (∃ src c, ∃ s : State, opens .ptpPortSet src c s = true ∧ accepts runModes (ptpPortChecks c) s = true ∧ prm c 48 16 =
      0 ∧ (ptpPortOf c).enable = true ∧ (s.cfg.ptpPorts.getD (prmByte c 16) {}).enable = false ∧ (s.tbCfg (ptpPortOf
      c).tb).role = 2 ∧ (s.tbCfg (ptpPortOf c).tb).profile = 0) ∧
    (∃ src c, ∃ s : State, opens .launchQueueSet src c s = true ∧ accepts runModes (launchSetChecks c) s = true ∧
      ((launchCfgOf c).timed = true → s.tbOn (launchCfgOf c).tb = true) ∧ (prmByte c 18).testBit 2 = false ∧ (launchCfgOf
      c).timed = (s.launchCfg (prmByte c 16) (prmByte c 17)).timed ∧ (launchCfgOf c).tb = (s.launchCfg (prmByte c 16)
      (prmByte c 17)).tb ∧ (launchCfgOf c).offsetNs = (s.launchCfg (prmByte c 16) (prmByte c 17)).offsetNs ∧ (launchCfgOf
      c).staggerNs = (s.launchCfg (prmByte c 16) (prmByte c 17)).staggerNs) ∧
    (∃ src c, ∃ s : State, opens .launchQueueSet src c s = true ∧ accepts runModes (launchSetChecks c) s = true ∧
      ((launchCfgOf c).timed = true → s.tbOn (launchCfgOf c).tb = true) ∧ (s.launchQueue (prmByte c 16) (prmByte c
      17)).packets = [] ∧ (prmByte c 18).testBit 2 = false ∧ (launchCfgOf c).offsetNs ≠ (s.launchCfg (prmByte c 16)
      (prmByte c 17)).offsetNs) ∧
    (∃ src c, ∃ s : State, ∃ q : LaunchQueue, ∃ n, opens .launchCancel src c s = true ∧ accepts runModes [within c 16 1 0
      7, within c 17 1 0 7, reservedBytes c 18 20, need 24 (timeOk (prm c 24 12)), reservedBytes c 36 64] s = true ∧
      (s.launchCfg (prmByte c 16) (prmByte c 17)).timed = true ∧ q = s.launchQueue (prmByte c 16) (prmByte c 17) ∧ n =
      (q.packets.filter fun p => p.launch == fieldTime (prm c 24 12) && (prm c 20 4 == 0 || prm c 20 4 ==
      p.channel)).length ∧ 0 < n ∧ q.committed = none) :=
  ⟨⟨.dmb, (cmd [⟨17, 1, 1⟩]), (on .service), by decide +kernel⟩,
   ⟨.dmb, (cmd []), tbRole2, by decide +kernel⟩,
   ⟨.dmb, (cmd [⟨17, 1, 1⟩, ⟨24, 8, 1000⟩]), tbFree, 0, by decide +kernel⟩,
   ⟨.dmb, (cmd []), tbFree, 0, by decide +kernel⟩,
   ⟨.dmb, (cmd [⟨16, 1, 1⟩, ⟨17, 1, 1⟩, ⟨24, 4, 100⟩]), tbFree, by decide +kernel⟩,
   ⟨.dmb, (cmd [⟨16, 1, 7⟩, ⟨40, 1, 5⟩]), (on .service), by decide +kernel⟩,
   ⟨.dmb, (cmd [⟨17, 1, 1⟩]), tbRole2, by decide +kernel⟩,
   ⟨.dmb, (cmd [⟨16, 1, 7⟩, ⟨17, 1, 7⟩, ⟨26, 2, 16384⟩]), (on .service), by decide +kernel⟩,
   ⟨.dmb, (cmd [⟨18, 1, 1⟩, ⟨20, 4, 1000000⟩, ⟨26, 2, 16⟩]), tbFree, by decide +kernel⟩,
   ⟨.dmb, (cmd [⟨30, 6, 1⟩]), timedQ, { packets := [pkt] }, 1, by decide +kernel⟩⟩

theorem witness_PortAndStationCommandsComplete :
    (∃ src c, ∃ s : State, ∃ old : PortCfg, opens .portSet src c s = true ∧ accepts runModes (portSetChecks c) s = true ∧
      (s.port (prmByte c 16)).state ≠ .reset ∧ old = s.portCfg (prmByte c 16) ∧ (portCfgOf c).enable = old.enable ∧
      (portCfgOf c).speed = old.speed ∧ (portCfgOf c).fec = old.fec) ∧
    (∃ src c, ∃ s : State, ∃ old : PortCfg, opens .portSet src c s = true ∧ accepts runModes (portSetChecks c) s = true ∧
      (s.port (prmByte c 16)).state ≠ .reset ∧ old = s.portCfg (prmByte c 16) ∧ (portCfgOf c).enable ≠ old.enable) ∧
    (∃ src c, ∃ s : State, ∃ x g, opens .portStatus src c s = true ∧ accepts runModes [within c 16 1 0 7, reservedBytes c
      17 64] s = true ∧ x = s.port (prmByte c 16) ∧ g = s.portCfg (prmByte c 16)) ∧
    (∃ src c, ∃ s : State, opens .stationAdd src c s = true ∧ accepts runModes (stationAddChecks c) s = true ∧ prmByte c
      16 % 2 = 1) ∧
    (∃ src c, ∃ s : State, ∃ k, opens .stationAdd src c s = true ∧ accepts runModes (stationAddChecks c) s = true ∧
      prmByte c 16 % 2 = 0 ∧ k = stationKeyOf c ∧ s.homeOf (stationHash k) = s.node ∧ s.tables.teller = [] ∧ s.station k
      = none ∧ s.tables.stations.length < 4096) ∧
    (∃ src c, ∃ s : State, ∃ k x, opens .stationDelete src c s = true ∧ accepts runModes (stationKeyChecks c) s = true ∧
      k = stationKeyOf c ∧ s.homeOf (stationHash k) = s.node ∧ s.tables.teller = [] ∧ s.station k = some x) ∧
    (∃ src c, ∃ s : State, ∃ x, opens .stationQuery src c s = true ∧ accepts runModes (stationKeyChecks c) s = true ∧
      s.station (stationKeyOf c) = some x) :=
  ⟨⟨.dmb, (cmd [⟨16, 1, 7⟩, ⟨18, 1, 1⟩, ⟨26, 2, 1518⟩]), (on .service), {}, by decide +kernel⟩,
   ⟨.dmb, (cmd [⟨17, 1, 1⟩, ⟨18, 1, 1⟩, ⟨20, 6, 2⟩, ⟨26, 2, 9216⟩]), (on .service), {}, by decide +kernel⟩,
   ⟨.dmb, (cmd [⟨16, 1, 7⟩]), (on .service), {}, {}, by decide +kernel⟩,
   ⟨.dmb, (cmd [⟨16, 1, 1⟩, ⟨28, 2, 100⟩, ⟨30, 2, 3600⟩]), (on .service), by decide +kernel⟩,
   ⟨.dmb, (cmd (⟨27, 1, 7⟩ :: sP)), (on .service), sKey, by decide +kernel⟩,
   ⟨.dmb, (cmd sP), withStat, sKey, stat, by decide +kernel⟩,
   ⟨.dmb, (cmd sP), withStat, stat, by decide +kernel⟩⟩

theorem witness_LaneCommandsComplete :
    (∃ src c, ∃ s : State, opens .laneSet src c s = true ∧ accepts runModes (laneSetChecks c) s = true ∧ (prmByte c
      17).testBit 5 = true) ∧
    (∃ src c, ∃ s : State, ∃ new : LaneCfg, ∃ old : LaneCfg, opens .laneSet src c s = true ∧ accepts runModes
      (laneSetChecks c) s = true ∧ (prmByte c 17).testBit 5 = false ∧ prmByte c 16 < 8 ∧ old = s.laneCfg (prmByte c 16) ∧
      new =
      { txInvert := (prmByte c 17).testBit 0, rxPolarityFixed := (prmByte c 17).testBit 1, rxInvert := (prmByte c 17).testBit 2, adaptFreeze := (prmByte c 17).testBit 3, txOff := (prmByte c 17).testBit 4, txMain := prmByte c 18, txPre := prmByte c 19, txPost := prmByte c 20 }
      ∧ new.txInvert = old.txInvert ∧ new.rxPolarityFixed = old.rxPolarityFixed ∧ new.rxInvert = old.rxInvert ∧ new.txOff
      = old.txOff ∧ new.adaptFreeze = false) ∧
    (∃ src c, ∃ s : State, ∃ t, opens .laneEqTableSet src c s = true ∧ accepts runModes (eqTableChecks c) s = true ∧
      (prmByte c 17).testBit 0 = false ∧ (prmByte c 17).testBit 1 = false ∧ t = prmByte c 16 - 8) ∧
    (∃ src c, ∃ s : State, opens .eyeScan src c s = true ∧ accepts runModes [within c 16 1 0 39, need 17 (stepOk
      (prmByte c 17)), need 18 (stepOk (prmByte c 18)), within c 19 1 20 36, hostAddr c 24 64, reservedBytes c 32 64]
      s = true ∧ scannable (s.lane (prmByte c 16)).state = true ∧ 64 + 8 * gridPoints (prmByte c 17) (prmByte c 18) ≤
      prm c 20 4) ∧
    (∃ src c, ∃ s : State, opens .laneLoopback src c s = true ∧ accepts [.diagnostic] [within c 16 1 0 39, within c 17 1
      0 3, reservedBytes c 18 64] s = true) ∧
    (∃ src c, ∃ s : State, opens .prbsSet src c s = true ∧ accepts [.diagnostic] [within c 16 1 0 39, within c 17 1 0 6,
      reservedBits c 18 1 1, reservedBytes c 19 64] s = true ∧ (s.lane (prmByte c 16)).state ≠ .off ∧ (s.lane (prmByte c
      16)).loop ≠ 3) ∧
    (∃ src c, ∃ s : State, ∃ l s2, opens .prbsCheck src c s = true ∧ accepts [.diagnostic] [within c 16 1 0 39,
      within c 17 1 0 2, within c 18 1 0 6, reservedBits c 19 1 1, reservedBytes c 20 64, need 18 (if prmByte c 17 =
      1 then prmByte c 18 != 0 else prmByte c 18 == 0), need 19 (prmByte c 17 == 1 || prmByte c 19 == 0)] s = true ∧
      prmByte c 17 = 1 ∧ l = prmByte c 16 ∧ s2 = testChanged l (setLane l (fun x => { x with
      checker := prmByte c 18,
      checkerInvert := (prmByte c 19).testBit 0, checkerRunning := true, checkerStarted := true,
      checkerLocked := false, checkerBits := s.counter (laneCtr l 8), checkerErrs := s.counter (laneCtr l 9) }) (opened .prbsCheck src
      c s))) ∧
    (∃ src c, ∃ s : State, opens .errorInject src c s = true ∧ accepts [.diagnostic] [within c 16 1 0 39, within c 17
      1 0 2, reservedBytes c 18 24, need 24 (prm c 24 8 == 0 || decide (1000 ≤ prm c 24 8 ∧ prm c 24 8 ≤
      1000000000000)), reservedBytes c 32 64, need 24 (if prmByte c 17 = 2 then prm c 24 8 != 0 else prm c 24 8 ==
      0)] s = true ∧ (s.lane (prmByte c 16)).state ≠ .off) :=
  ⟨⟨.dmb, (cmd [⟨16, 1, 39⟩, ⟨17, 1, 32⟩]), (on .service), by decide +kernel⟩,
   ⟨.dmb, (cmd [⟨16, 1, 7⟩, ⟨18, 1, 40⟩]), (on .service), { txMain := 40, txPre := 0, txPost := 0 }, {}, by decide +kernel⟩,
   ⟨.dmb, (cmd [⟨16, 1, 39⟩, ⟨20, 4, 0x80000036⟩, ⟨32, 4, 1⟩]), (on .service), 31, by decide +kernel⟩,
   ⟨.dmb, (cmd [⟨17, 1, 8⟩, ⟨18, 1, 8⟩, ⟨19, 1, 20⟩, ⟨20, 4, 1288⟩, ⟨24, 8, 4096⟩]), ready7, by decide +kernel⟩,
   ⟨.dmb, (cmd [⟨17, 1, 3⟩]), ready7, by decide +kernel⟩,
   ⟨.dmb, (cmd [⟨17, 1, 6⟩]), ready7, by decide +kernel⟩,
   ⟨.dmb, (cmd [⟨17, 1, 1⟩, ⟨18, 1, 6⟩]), ready7, 0, (testChanged 0 (setLane 0 (fun x =>
  { x with checker := 6, checkerInvert := false, checkerRunning := true, checkerStarted := true, checkerLocked := false, checkerBits := 0, checkerErrs := 0 })
  (opened .prbsCheck .dmb (cmd [⟨17, 1, 1⟩, ⟨18, 1, 6⟩]) ready7))), by decide +kernel⟩,
   ⟨.dmb, (cmd [⟨17, 1, 2⟩, ⟨24, 8, 1000⟩]), ready7, by decide +kernel⟩⟩

theorem witness_ClusterCommandsComplete :
    (∃ src c, ∃ s : State, opens .clusterJoin src c s = true ∧ accepts [.standby, .diagnostic] [need 16 (prmByte c 16 ==
      1 || prmByte c 16 == 2 || prmByte c 16 == 4 || prmByte c 16 == 8 || prmByte c 16 == 16), reservedBytes c 17 64] s =
      true ∧ s.node < prmByte c 16 ∧ s.tables.sessions = [] ∧ prmByte c 16 ≠ s.cfg.clusterSize) ∧
    (∃ src c, ∃ s : State, opens .clusterLeave src c s = true ∧ accepts [.standby, .diagnostic] [within c 17 1 0 2,
      reservedBytes c 18 64] s = true ∧ prmByte c 16 = 255 ∧ prmByte c 17 = 0 ∧ s.tables.sessions = [] ∧ s.cluster.view =
      none) ∧
    (∃ src c, ∃ s : State, ∃ n, opens .clusterLeave src c s = true ∧ accepts runModes [within c 17 1 1 2, reservedBytes c
      18 64] s = true ∧ n = prmByte c 16 ∧ n ≤ 15 ∧ n ≠ s.node ∧ (s.route n).isSome = true) ∧
    (∃ src c, ∃ s : State, opens .clusterStatus src c s = true ∧ accepts runModes [hostAddr c 16 64, reservedBytes c 24
      64] s = true) ∧
    (∃ src c, ∃ s : State, ∃ ch : Channel, opens .channelMigrate src c s = true ∧ accepts serviceModes [need 20
      (decide (prmByte c 20 ≤ 15) || prmByte c 20 == 0xFF), reservedBytes c 21 64] s = true ∧ (∀ n a, src ≠ .peer n
      a) ∧ s.channel (prm c 16 4) = some ch ∧ ch.state ≠ .suspended ∧ ch.conference = none ∧ prmByte c 20 ≠ 255 ∧
      prmByte c 20 ≠ s.node ∧ prmByte c 20 ∈ s.servicePeers) :=
  ⟨⟨.dmb, (cmd [⟨16, 1, 16⟩]), (on .standby), by decide +kernel⟩,
   ⟨.dmb, (cmd [⟨16, 1, 255⟩]), (on .standby), by decide +kernel⟩,
   ⟨.dmb, (cmd [⟨16, 1, 1⟩, ⟨17, 1, 2⟩]), joined, 1, by decide +kernel⟩,
   ⟨.dmb, (cmd [⟨16, 8, 4096⟩]), joined, by decide +kernel⟩,
   ⟨.dmb, (cmd [⟨16, 4, 16⟩, ⟨20, 1, 1⟩]), { joined with voice := { channels := [chan] } }, chan,
  by decide +kernel, by decide +kernel, by simp, by decide +kernel⟩⟩

theorem witness_StorageCommandsComplete :
    (∃ src c, ∃ s : State, opens .ledgerStatus src c s = true ∧ accepts runModes [within c 16 2 0 4095, within c 18 2 0
      1024, reservedBytes c 20 24, hostAddr c 24 64, reservedBytes c 32 64, need 18 (decide (prm c 16 2 + prm c 18 2 ≤
      4096))] s = true) ∧
    (∃ src c, ∃ s : State, ∃ t, opens .calOffsetSet src c s = true ∧ t = prm c 16 2 ∧ accepts [.standby, .diagnostic]
      [within c 16 2 0 140, reservedBits c 20 1 1, reservedBytes c 21 64, need 18 (decide ((calRange t).1.1 ≤ prmInt c 18
      2) && decide (prmInt c 18 2 ≤ (calRange t).1.2)), need 20 (prmByte c 20 % 2 = 0 || prmInt c 18 2 = 0)] s = true ∧
      prmByte c 20 % 2 = 0) ∧
    (∃ src c, ∃ s : State, opens .imageDownload src c s = true ∧ accepts (.loader :: .recovery :: runModes)
      (downloadChecks c) s = true ∧ s.downloadDenied (prmByte c 16) ((prmByte c 17).testBit 0) = false ∧ (4096 ≤ prm c 20
      4 → prm c 20 4 = s.fw.expected) ∧ (prmByte c 17).testBit 1 = true) ∧
    (∃ src c, ∃ s : State, opens .imageDownload src c s = true ∧ src ≠ .mgmt ∧ accepts (.loader :: .recovery :: runModes)
      (downloadChecks c) s = true ∧ s.downloadDenied (prmByte c 16) ((prmByte c 17).testBit 0) = false ∧ (4096 ≤ prm c 20
      4 → prm c 20 4 = s.fw.expected) ∧ (prmByte c 17).testBit 1 = false) ∧
    (∃ src c, ∃ s : State, opens .imageConfirm src c s = true ∧ accepts runModes [reservedBits c 16 1 3, reservedBytes c
      17 64] s = true ∧ s.trialOpen = true ∧ s.fw.revertReset = false ∧ s.bootCtrl.testBit 5 = false ∧ (s.sets.unreadable
      = true → (prmByte c 16).testBit 0 = true)) ∧
    (∃ src c, ∃ s : State, opens .imageStatus src c s = true ∧ accepts runModes [hostAddr c 16 1, reservedBytes c 24 64]
      s = true) :=
  ⟨⟨.dmb, (cmd [⟨16, 2, 4095⟩, ⟨18, 2, 1⟩, ⟨24, 8, 4096⟩]), (on .service), by decide +kernel⟩,
   ⟨.dmb, (cmd [⟨16, 2, 140⟩, ⟨18, 2, 0xFFF9⟩]), (on .standby), 140, by decide +kernel⟩,
   ⟨.dmb, (cmd [⟨16, 1, 1⟩, ⟨17, 1, 3⟩, ⟨24, 4, 32⟩, ⟨32, 8, 77⟩]), (on .service), by decide +kernel⟩,
   ⟨.dmb, (cmd [⟨16, 1, 1⟩, ⟨17, 1, 1⟩, ⟨24, 4, 4096⟩, ⟨32, 8, 4096⟩]), (on .service), by decide +kernel⟩,
   ⟨.dmb, (cmd []), { on .standby with ledger := { words := [(wBootCtrl, 6)] } }, by decide +kernel⟩,
   ⟨.dmb, (cmd [⟨16, 8, 4096⟩]), (on .service), by decide +kernel⟩⟩

theorem witness_EngineAndFaultCommandsComplete :
    (∃ src c, ∃ s : State, opens .engineConfigSet src c s = true ∧ accepts [.diagnostic] [need 24 (decide (prmByte c 24 ≤
      1) || decide (prmByte c 24 = 255)), reservedBits c 25 1 1, reservedBytes c 26 28, within c 28 4 0 76800,
      reservedBytes c 32 64, need 28 (decide (prmByte c 25 % 2 = 1) || decide (prm c 28 4 = 0))] s = true) ∧
    (∃ src c, ∃ s : State, opens .engineStatus src c s = true ∧ accepts [.diagnostic] [hostAddr c 16 64, reservedBytes c
      24 64] s = true) ∧
    (∃ src c, ∃ s : State, opens .engineTest src c s = true ∧ accepts [.diagnostic] [within c 16 1 0 63,
      reservedBytes c 17 18, within c 18 2 1 1000, reservedBytes c 20 64] s = true ∧ (∀ j ∈ s.board.tests, j.holds =
      true ∧ j.entry ≠ s.cmds.nextId)) ∧
    (∃ src c, ∃ s : State, ∃ out, opens .faultLogRead src c s = true ∧ accepts runModes (logChecks c) s = true ∧ prmByte
      c 22 % 2 = 0 ∧ out = ((s.faults.log ++ s.faults.staged).filter fun r => seqAfter r.seq (BitVec.ofNat 32 (prm c 16
      4))).take (prm c 20 2) ∧ out ≠ []) ∧
    (∃ src c, ∃ s : State, opens .retire src c s = true ∧ accepts runModes (unitChecks c) s = true ∧ prmByte c 16 = 1 ∧
      s.laneRetired (prm c 18 2) = false) ∧
    (∃ src c, ∃ s : State, ∃ n, opens .retire src c s = true ∧ accepts runModes (unitChecks c) s = true ∧ prmByte c 16 =
      0 ∧ n = prm c 18 2 ∧ (s.engine n).retired = false) ∧
    (∃ src c, ∃ s : State, opens .reinstate src c s = true ∧ accepts [.standby, .diagnostic] (unitChecks c) s = true ∧
      prmByte c 16 = 1 ∧ s.laneRetired (prm c 18 2) = true) ∧
    (∃ src c, ∃ s : State, opens .reinstate src c s = true ∧ accepts [.standby, .diagnostic] (unitChecks c) s = true ∧
      prmByte c 16 = 0 ∧ (s.engine (prm c 18 2)).retired = true ∧ s.blockInReset (prm c 18 2) = false) ∧
    (∃ src c, ∃ s : State, opens .retirementMapGet src c s = true ∧ accepts runModes [hostAddr c 16 64, reservedBytes c
      24 64] s = true) :=
  ⟨⟨.dmb, (cmd [⟨16, 8, 0x8000000000000001⟩, ⟨25, 1, 1⟩, ⟨28, 4, 76800⟩]), (on .diagnostic), by decide +kernel⟩,
   ⟨.dmb, (cmd [⟨16, 8, 4096⟩]), (on .diagnostic), by decide +kernel⟩,
   ⟨.dmb, (cmd [⟨16, 1, 63⟩, ⟨18, 2, 1000⟩]), (on .diagnostic), by decide +kernel⟩,
   ⟨.dmb, (cmd [⟨20, 2, 1024⟩, ⟨24, 8, 4096⟩]), { on .service with faults := { staged := [frec], nextSeq := 4 } }, [frec],
  by decide +kernel⟩,
   ⟨.dmb, (cmd [⟨16, 1, 1⟩, ⟨18, 2, 39⟩]), (on .service), by decide +kernel⟩,
   ⟨.dmb, (cmd [⟨18, 2, 63⟩]), (on .service), 63, by decide +kernel⟩,
   ⟨.dmb, (cmd [⟨16, 1, 1⟩, ⟨18, 2, 8⟩]),
  { on .standby with lanes := { lanes := List.replicate 8 {} ++ { retired := true } :: List.replicate 31 {} } },
  by decide +kernel⟩,
   ⟨.dmb, (cmd []), { on .standby with board := { engines := { retired := true } :: List.replicate 63 {} } },
  by decide +kernel⟩,
   ⟨.dmb, (cmd [⟨16, 8, 4096⟩]), (on .service), by decide +kernel⟩⟩

theorem witness_TakesComplete :
    (∃ s : State, ∃ e, s.cmds.entries.find? s.ready = some e) ∧
    (∃ s : State, ∃ q d rest, s.running = true ∧ s.endpointOn = true ∧ s.ep.dmb.busy = false ∧ (∀ k ∈ [0, 1, 2, 3],
      s.offers k = true → s.slotFree k = true) ∧ (s.roundOrder.find? fun k => s.offers k && s.slotFree k) = some q ∧ q <
      4 ∧ (s.ep.cq.getD q {}).staging = d :: rest ∧ (s.ep.cq.getD q {}).head ∉ (s.ep.cq.getD q {}).cancelled) ∧
    (∃ s : State, ∃ s1, s.takes .dmb = true ∧ s.endpointOn = true ∧ s.ep.dmb.busy = true ∧ s.ep.dmb.taken = false ∧
      payRead 1 0 s = (s1, true)) ∧
    (∃ s : State, s.islandOn = true ∧ s.mgmt.busy = true ∧ s.mgmt.taken = false) ∧
    (∃ s : State, ∃ id, ∃ r : RetryRecord, (s.cmds.retry.find? fun r => r.id == id && r.result.isSome) = some r) :=
  ⟨⟨{ on .service with cmds := { entries := [waitE], nextId := 1 } }, waitE, by decide +kernel⟩,
   ⟨cqs, 0, (descriptors 1 dsc).head!, [], by decide +kernel⟩,
   ⟨{ rich with ep := { dmb := { busy := true } } }, _, by decide +kernel, by decide +kernel, by decide +kernel,
  by decide +kernel, rfl⟩,
   ⟨{ on .service with mgmt := { busy := true } }, by decide +kernel⟩,
   ⟨{ on .service with cmds := { retry := [⟨7, .nop, 0, 3, some (0, 0), 100⟩] } }, 7, ⟨7, .nop, 0, 3, some (0, 0), 100⟩,
  by decide +kernel⟩⟩

theorem witness_RegisterAndMemoryWritesComplete :
    (∃ s : State, ∃ b, s.running = true ∧ b < 84) ∧
    (∃ s : State, ∃ n, n < 16 ∧ s.power.asserted = false ∧ s.power.optionLoading = false) ∧
    (∃ s : State, s.running = true ∧ s.power.warnActive = false) ∧
    (∃ s : State, ∃ w : LedgerWrite, s.ledger.started = true ∧ s.ledger.queue = [w] ∧ w.writer = .host) ∧
    (∃ s : State, ∃ o, ∃ data : List Byte, s.power.asserted = false ∧ s.power.optionLoading = false ∧ o + data.length ≤ o
      / 8 * 8 + 8 ∧ o < 0xF000 ∧ data ≠ [] ∧ o / 8 ∉ s.rmemBad) ∧
    (∃ s : State, ∃ o n base, ∃ s1, s.window = some (false, base) ∧ s.mode.current = .diagnostic ∧ 0x10000 ≤ o ∧ o +
      n ≤ 0x100000 ∧ 0 < n ∧ payRead ((o + n - 1) / 64 - o / 64 + 1) 0 s = (s1, true)) :=
  ⟨⟨(on .service), 83, by decide +kernel⟩,
   ⟨(on .service), 15, by decide +kernel⟩,
   ⟨(on .service), by decide +kernel⟩,
   ⟨{ on .service with ledger := { queue := [lw], started := true } }, lw, by decide +kernel⟩,
   ⟨(on .service), 0xEFF8, (natBytes 8 5), by decide +kernel⟩,
   ⟨{ rich with window := some (false, 0), mode := { current := .diagnostic, steward := .rhoper } }, 0x10000, 64, 0, _,
  by decide +kernel, by decide +kernel, by decide +kernel, by decide +kernel, by decide +kernel, rfl⟩⟩

theorem witness_HostTransportComplete :
    (∃ s : State, ∃ q : Fin 9, ∃ cfg : Word32, s.endpointOn = true ∧ s.running = true ∧ q.val < 4 ∧ (s.ep.cq.getD q.val
      {}).enable = false ∧ 4 ≤ bitsOf cfg.toNat 4 4 ∧ bitsOf cfg.toNat 4 4 ≤ 12 ∧ (s.ep.cc.getD (bitsOf cfg.toNat 8 2)
      {}).enable = true) ∧
    (∃ s : State, ∃ q : Fin 9, ∃ cfg : Word32, s.endpointOn = true ∧ s.running = true ∧ 4 ≤ q.val ∧ q.val < 8 ∧
      (s.ep.cc.getD (q.val - 4) {}).enable = false ∧ 4 ≤ bitsOf cfg.toNat 4 4 ∧ bitsOf cfg.toNat 4 4 ≤ 12) ∧
    (∃ s : State, ∃ q : Fin 9, ∃ cfg : Word32, s.endpointOn = true ∧ s.running = true ∧ q.val = 8 ∧ s.eq.enable = false ∧
      6 ≤ bitsOf cfg.toNat 4 4 ∧ bitsOf cfg.toNat 4 4 ≤ 14 ∧ s.eq.lostPending = false) ∧
    (∃ s : State, ∃ q : Fin 9, s.endpointOn = true ∧ q.val < 4 ∧ (s.ep.cq.getD q.val {}).enable = true) ∧
    (∃ s : State, ∃ q : Fin 4, ∃ w : Word32, s.endpointOn = true ∧ (s.ep.cq.getD q.val {}).enable = true ∧ w.toNat < 2 ^
      (s.ep.cq.getD q.val {}).log2) ∧
    (∃ s : State, ∃ q : Fin 4, ∃ w : Word32, ∃ c : CompletionQueue, s.endpointOn = true ∧ c = s.ep.cc.getD q.val {} ∧
      c.enable = true ∧ headInRange (2 ^ c.log2) c.head c.tail w.toNat = true) ∧
    (∃ s : State, ∃ w : Word32, s.endpointOn = true ∧ s.eq.enable = true ∧ headInRange (2 ^ s.eq.log2) s.eq.head
      s.eq.tail w.toNat = true ∧ s.eq.lostPending = false) ∧
    (∃ s : State, ∃ w : Word32, ∃ c : CommandQueue, s.endpointOn = true ∧ c = s.ep.cq.getD (bitsOf w.toNat 12 2) {} ∧
      c.enable = true ∧ bitsOf w.toNat 0 12 < 2 ^ c.log2 ∧ bitsOf w.toNat 0 12 ∉ c.cancelled) ∧
    (∃ s : State, s.endpointOn = true) ∧
    (∃ s : State, s.endpointOn = true) ∧
    (∃ s : State, s.endpointOn = true ∧ s.ep.dmb.busy = false) ∧
    (∃ s : State, s.endpointOn = true ∧ s.ep.dmb.busy = false) ∧
    (∃ s : State, s.endpointOn = true) ∧
    (∃ s : State, ∃ v : Fin 64, ∃ c : CompletionQueue, v.val < 4 ∧ c = s.ep.cc.getD v.val {} ∧ c.unsignalled ≠ 0) ∧
    (∃ s : State, ∃ q : Fin 4, s.fetching q.val = true) ∧
    (∃ s : State, ∃ s1, ∃ q : Fin 4, ∃ data got, s.fetching q.val = true ∧ got = descriptors (min 16 (s.ep.cq.getD q.val
      {}).pendingCount - (s.ep.cq.getD q.val {}).staging.length) data ∧ payRead got.length 0 s = (s1, true)) ∧
    (∃ s : State, ∃ s1, ∃ id, ∃ e : Entry, ∃ data : List Byte, ∃ words, s.entry id = some e ∧ awaitsData e = true ∧
      s.linkHolds = false ∧ data.length = dataLength e ∧ e.op = .srtpKeySet ∧ words = packFrame false false data ∧
      payRead (stagingCharge words) 0 s = (s1, true)) :=
  ⟨⟨{ qst with ep := { cc := {enable := true, log2 := 4} :: List.replicate 3 {} } }, 0, 0x10040, by decide +kernel⟩,
   ⟨qst, 7, 0x05100c0, by decide +kernel⟩,
   ⟨qst, 8, 0x0510060, by decide +kernel⟩,
   ⟨cqs, 0, by decide +kernel⟩,
   ⟨cqs, 0, 15, by decide +kernel⟩,
   ⟨{ qst with ep := { cc := {enable := true, log2 := 4, tail := 3} :: List.replicate 3 {} } }, 0, 2,
  {enable := true, log2 := 4, tail := 3}, by decide +kernel⟩,
   ⟨{ qst with eq := {enable := true, log2 := 6, tail := 3} }, 3, by decide +kernel⟩,
   ⟨cqs, 0, (cqs.ep.cq.headD {}), by decide +kernel⟩,
   ⟨{ qst with irq := {dbErr := true, eqOverflow := true} }, by decide +kernel⟩,
   ⟨qst, by decide +kernel⟩,
   ⟨qst, by decide +kernel⟩,
   ⟨qst, by decide +kernel⟩,
   ⟨{ qst with ep := { dmb := { done := true } } }, by decide +kernel⟩,
   ⟨{ qst with ep := { cc := {enable := true, log2 := 4, unsignalled := 2, coalUs := 9} :: List.replicate 3 {} } }, 0,
  {enable := true, log2 := 4, unsignalled := 2, coalUs := 9}, by decide +kernel⟩,
   ⟨fq, 0, by decide +kernel⟩,
   ⟨fqr, (payRead 2 0 fqr).1, 0, List.replicate 128 0, descriptors 2 (List.replicate 128 0), by decide +kernel⟩,
   ⟨{ rich with cmds := { entries := [ske], nextId := 1 } }, _, 0, ske, (List.replicate (dataLength ske) 0), _,
  by decide +kernel, by decide +kernel, by decide +kernel, by decide +kernel, by decide +kernel, rfl, rfl⟩⟩

theorem witness_HostLinkComplete :
    (∃ s : State, s.endpointOn = true) ∧
    (∃ s : State, s.endpointOn = true) ∧
    (∃ s : State, s.endpointOn = true) ∧
    (∃ s : State, s.endpointOn = true ∧ s.testPort.pinsTaken = false) :=
  ⟨⟨qst, by decide +kernel⟩,
   ⟨qst, by decide +kernel⟩,
   ⟨{ qst with link := { up := true, d3hot := true } }, by decide +kernel⟩,
   ⟨{ qst with link := {} }, by decide +kernel⟩⟩

theorem witness_ManagementTargetComplete :
    (∃ s : State, ∃ t : SmbusWrite, s.islandOn = true ∧ t.code = 0x10 ∧ nack t 64 s = none ∧ s.mgmt.busy = false) ∧
    (∃ s : State, ∃ t : SmbusWrite, s.islandOn = true ∧ t.code = 0x11 ∧ nack t 1 s = none ∧ (t.data.headD 0).getLsbD 0 =
      true ∧ s.mgmt.busy = false) ∧
    (∃ s : State, s.islandOn = true) ∧
    (∃ s : State, ∃ n, s.islandOn = true ∧ n < 32) ∧
    (∃ s : State, s.islandOn = true) ∧
    (∃ s : State, s.islandOn = true ∧ s.mgmt.dynamic = none) ∧
    (∃ s : State, s.islandOn = true ∧ s.mgmt.dynamic = none) ∧
    (∃ s : State, s.islandOn = true) ∧
    (∃ s : State, ∃ a, s.islandOn = true ∧ s.mgmt.dynamic = some a) ∧
    (∃ s : State, ∃ a, s.islandOn = true ∧ s.mgmt.dynamic = some a) ∧
    (∃ s : State, ∃ a, s.islandOn = true ∧ s.mgmt.dynamic = some a) :=
  ⟨⟨qst, ⟨0x10, 64, List.replicate 64 3, true⟩, by decide +kernel⟩,
   ⟨qst, ⟨0x11, 1, [1], true⟩, by decide +kernel⟩,
   ⟨qst, by decide +kernel⟩,
   ⟨qst, 31, by decide +kernel⟩,
   ⟨qst, by decide +kernel⟩,
   ⟨qst, by decide +kernel⟩,
   ⟨qst, by decide +kernel⟩,
   ⟨qst, by decide +kernel⟩,
   ⟨adr, 9, by decide +kernel⟩,
   ⟨adr, 9, by decide +kernel⟩,
   ⟨adr, 9, by decide +kernel⟩⟩

theorem witness_ResetSourcesComplete :
    (∃ n, 1000 ≤ n) ∧
    (∃ s : State, s.perstBlock = false) ∧
    (∃ s : State, s.perstBlock = true ∧ s.power.asserted = false ∧ s.power.optionLoading = false) ∧
    (∃ s : State, s.power.wdogArmed = true) ∧
    (∃ s : State, s.remoteEn = true) ∧
    (∃ s : State, ∃ mv low, s.power.asserted = true ∧ s.stretchHeld mv low = false) ∧
    (∃ s : State, ∃ mv low, s.power.asserted = true ∧ s.stretchHeld mv low = true) ∧
    (∃ s : State, s.power.asserted = false ∧ s.power.resetOutLow = true) ∧
    (∃ s : State, s.rhoper = true ∧ countedMode s.mode.current = true ∧ s.power.runNs < 600000000000) :=
  ⟨⟨5000, by decide +kernel⟩,
   ⟨qst, by decide +kernel⟩,
   ⟨pblk, by decide +kernel⟩,
   ⟨{ qst with power := { wdogArmed := true } }, by decide +kernel⟩,
   ⟨{ qst with power := { asserted := false, remoteEn := true } }, by decide +kernel⟩,
   ⟨State.reset, 700, [], by decide +kernel⟩,
   ⟨State.reset, 700, [.vddIo], by decide +kernel⟩,
   ⟨{ qst with power := { asserted := false, resetOutLow := true } }, by decide +kernel⟩,
   ⟨{ qst with cause := { wdogRun := 2 } }, by decide +kernel⟩⟩

theorem witness_BootAndHaltComplete :
    (∃ s : State, s.power.optionLoading = true) ∧
    (∃ s : State, s.power.asserted = false ∧ s.power.optionLoading = false) ∧
    (∃ s : State, s.power.asserted = false ∧ s.power.optionLoading = false) ∧
    (∃ s : State, s.power.asserted = false ∧ s.power.optionLoading = false) ∧
    (∃ s : State, s.mode.current = .strap ∧ s.boot.stage = 1 ∧ s.power.refclkLocked = true ∧ s.boot.straps.bootSrc = 2 ∧
      s.power.wdogFull = false) ∧
    (∃ s : State, s.mode.current = .loader ∧ s.inRom = true ∧ s.fw.started = true) ∧
    (∃ s : State, s.mode.current = .loader ∧ s.rhoper = true) ∧
    (∃ s : State, s.mode.current = .loader ∧ s.inRom = true ∧ s.boot.straps.bootSrc = 1 ∧ s.fw.started = false) ∧
    (∃ s : State, s.stewardOn = true) ∧
    (∃ s : State, s.stewardOn = true) ∧
    (∃ s : State, s.stewardOn = true ∧ s.mode.steward = .rhoper) :=
  ⟨⟨{ State.reset with power := { asserted := false, optionLoading := true } }, by decide +kernel⟩,
   ⟨{ State.reset with power := { asserted := false } }, by decide +kernel⟩,
   ⟨{ State.reset with power := { asserted := false } }, by decide +kernel⟩,
   ⟨{ State.reset with power := { asserted := false } }, by decide +kernel⟩,
   ⟨{ State.reset with power := { asserted := false, refclkLocked := true }, boot := { stage := 1, straps := st } },
  by decide +kernel⟩,
   ⟨{ rom .loader with fw := { started := true } }, by decide +kernel⟩,
   ⟨(on .loader), by decide +kernel⟩,
   ⟨{ rom .loader with boot := { straps := { st with bootSrc := 1 } } }, by decide +kernel⟩,
   ⟨qst, by decide +kernel⟩,
   ⟨qst, by decide +kernel⟩,
   ⟨qst, by decide +kernel⟩⟩

theorem witness_ModeAndPowerEventsComplete :
    (∃ s : State, ∃ tr, s.mode.transition = some tr) ∧
    (∃ s : State, s.mode.current = .drain ∧ s.mode.autoStandby = true ∧ s.voice.channels = [] ∧ s.mode.transition =
      none ∧ (s.cmds.entries.any fun e => e.op == .modeSet && e.phase == .executing && e.aux == [7]) = false) ∧
    (∃ s : State, ∃ since, s.fw.trialSince = some since ∧ s.rhoper = true ∧ s.trialOpen = true ∧ (s.cmds.entries.any fun
      e => e.op == .imageConfirm && e.phase == .executing) = false ∧ s.worn wBootCtrl = false ∧ s.ledger.queue = [] ∧
      s.power.warnActive = false ∧ s.ledger.started = false) ∧
    (∃ s : State, ∃ n, 200 < n ∧ s.power.warnActive = false) ∧
    (∃ s : State, s.power.warnActive = true) ∧
    (∃ s : State, ∃ since, s.gov.spareSince = some since ∧ s.rhoper = true ∧ s.gov.started = true ∧ s.gov.fault =
      false ∧ s.cfg.governor.mode = 2 ∧ s.gov.loadChangedIn = 0 ∧ s.raiseUnderWay = false ∧ s.cfg.governor.floorMv <
      s.gov.targetMv) ∧
    (∃ s : State, ∃ due, s.gov.checks = [(due, s.gov.targetMv)] ∧ s.rhoper = true ∧ s.gov.setEntry = none ∧
      s.gov.raiseWaiters = [] ∧ s.cluster.arrivals = [] ∧ s.effectiveRail 0 s.gov.targetMv = s.gov.targetMv) ∧
    (∃ s : State, ∃ mv low, 600 ≤ mv ∧ low = s.effectiveRail 0 mv ∧ low < 640) :=
  ⟨⟨{ on .standby with mode := { current := .standby, steward := .rhoper, transition := some ⟨.service, none, 1⟩ } },
  ⟨.service, none, 1⟩, by decide +kernel⟩,
   ⟨{ on .drain with mode := { current := .drain, steward := .rhoper, autoStandby := true } }, by decide +kernel⟩,
   ⟨{ qst with fw := { trialSince := some 5 }, ledger := { words := [(wBootCtrl, 0x1804)] } }, 5, by decide +kernel⟩,
   ⟨qst, 201, by decide +kernel⟩,
   ⟨{ qst with power := { warnActive := true, warnDue := 9 } }, by decide +kernel⟩,
   ⟨{ qst with gov := { started := true, spareSince := some 4, targetMv := 750 }, cfg := { governor := { mode := 2 } } }, 4,
  by decide +kernel⟩,
   ⟨{ qst with gov := { started := true, checks := [(4, 750)], targetMv := 750 } }, 4, by decide +kernel⟩,
   ⟨qst, 639, 639, by decide +kernel⟩⟩

theorem witness_BlockResetsComplete :
    (∃ s : State, ∃ b : Fin 84, ∃ x r, s.waitingBlock b.val = some x ∧ s.blockBusy b.val = false ∧ r = blockApply x false
      s) ∧
    (∃ s : State, ∃ b : Fin 84, ∃ x : BlockReset, ∃ s1 r, s.waitingBlock b.val = some x ∧ 64 ≤ b.val ∧ b.val ≠ 79 ∧ b.val
      ≠ 82 ∧ s1 = advance (x.startedAt + x.timeoutNs) s ∧ r = blockApply x true s1) ∧
    (∃ s : State, ∃ b : Fin 84, ∃ x : BlockReset, (s.power.blocks.find? fun x => x.block == b.val && x.applied) = some x
      ∧ (b.val = 83 → s.power.perstLow = false) ∧ x.entries = []) :=
  ⟨⟨(wb 0), 0, (blk 0), (bx 0), by decide +kernel, by decide +kernel, rfl⟩,
   ⟨(wb 64), 64, (blk 64), (advance 2000100 (wb 64)), (blockApply (blk 64) true (advance 2000100 (wb 64))),
  by decide +kernel, by decide +kernel, by decide +kernel, by decide +kernel, rfl, rfl⟩,
   ⟨(ab 83), 83, {blk 83 with applied := true, appliedAt := 7}, by decide +kernel⟩⟩

theorem witness_AllowanceEventsComplete :
    (∃ s : State, s.alw.running = true) ∧
    (∃ s : State, ∃ res : Fin 4, ∃ cls q rest, s.alw.running = true ∧ res.val ≠ 2 ∧
      pickClass res.val (s.serves res.val) s = some cls ∧ (s.balance cls res.val).waiting = q :: rest ∧ q.job ≠ .host) ∧
    (∃ s : State, ∃ res : Fin 4, ∃ cls q rest, s.alw.running = true ∧ res.val ≠ 2 ∧
      pickClass res.val (s.serves res.val) s = some cls ∧ (s.balance cls res.val).waiting = q :: rest ∧ q.job = .host ∧
      1 < q.size) ∧
    (∃ s : State, ∃ cls, s.alw.running = true ∧ (collectAskers s).dispatchNext = some cls) ∧
    (∃ s : State, ∃ n, s.alw.flashBusy = some ⟨n, .other⟩) ∧
    (∃ s : State, ∃ vault : Bool, s.alw.running = true ∧ ((if vault then s.alw.vaultOverdue else s.alw.tillOverdue) =
      false)) ∧
    (∃ s : State, ∃ e, s.calHeld = true ∧ s.alw.running = true ∧ s.forcedChoice = some e ∧ (s.engine e).running = none) ∧
    (∃ s : State, ∃ e : Fin 64, (s.engine e.val).calSlice = true ∧ (s.engine e.val).testSlice = false ∧ s.tallyRuns = true) ∧
    (∃ s : State, ∃ e : Fin 64, ∃ job, (s.engine e.val).calSlice = true ∧ (s.engine e.val).testSlice = true ∧
      s.tallyRuns = true ∧ s.testOn e.val = some job ∧ job.slices + 1 < 250) :=
  ⟨⟨ao, by decide +kernel⟩,
   ⟨aq, 0, 2, ⟨3, .other⟩, [], by decide +kernel⟩,
   ⟨setBalance 2 0 (fun b => { b with b := 100, waiting := [⟨3, .host⟩] }) ao, 0, 2, ⟨3, .host⟩, [], by decide +kernel⟩,
   ⟨setBalance 5 2 (fun b => { b with b := 256, c := 256, waiting := [⟨1, .other⟩] }) ao, 5, by decide +kernel⟩,
   ⟨{ qst with alw := { running := true, flashBusy := some ⟨64, .other⟩ } }, 64, by decide +kernel⟩,
   ⟨ao, true, by decide +kernel⟩,
   ⟨{ qst with alw := { running := true, calForcedDue := true } }, 0, by decide +kernel⟩,
   ⟨eng { calSlice := true }, 0, by decide +kernel⟩,
   ⟨{ qst with board := {
      engines := { calSlice := true, testSlice := true } :: List.replicate 63 {}
      tests := [⟨0, 0, 2, 0, true, 248⟩] } }, 0, ⟨0, 0, 2, 0, true, 248⟩, by decide +kernel⟩⟩

theorem witness_TaskEventsComplete :
    (∃ s : State, ∃ e : Fin 64, ∃ t, ∃ report : TaskReport, s.tallyRuns = true ∧ (s.engine e.val).running = some t ∧
      report.accepted = true) ∧
    (∃ s : State, ∃ e : Fin 64, ∃ t : Task, ∃ k, s.tallyRuns = true ∧ s.blockInReset e.val = false ∧ (s.engine
      e.val).running = some t ∧ (s.engine e.val).preempt = true ∧ 2 ≤ t.level ∧ (s.engine e.val).parked = none ∧
      ((s.engine e.val).ready.any fun x => decide (x.level ≤ 1)) = true ∧ headTask (s.engine e.val).ready = some k ∧
      s.mayGrant (taskClass k) 2 = true) ∧
    (∃ s : State, ∃ e : Fin 64, s.blockInReset e.val = false ∧ s.tallyRuns = true ∧ (s.engine e.val).retired = false ∧
      (s.engine e.val).faults = [] ∧ (s.engine e.val).running = none ∧ (s.engine e.val).calSlice = false) :=
  ⟨⟨(eng { running := some tk }), 0, tk, rep, by decide +kernel⟩,
   ⟨(setBalance (taskClass tk0) 2 (fun b => { b with b := 1000 })
  { eng { running := some tk, ready := [tk0] } with alw := { running := true } }), 0, tk, tk0,
  by decide +kernel⟩,
   ⟨qst, 63, by decide +kernel⟩⟩

theorem witness_PeriodBoundaryComplete :
    (∃ s : State, ∃ due frame, s.alw.running = true ∧ s.nextBoundary = (due, frame)) :=
  ⟨{ qst with alw := { running := true } }, 124998, false, by decide +kernel⟩

theorem witness_MemoryRepairComplete :
    (∃ s : State, ∃ r : Fin 32768, s.tallyRuns = true ∧ r.val ∉ s.faults.tillRows) ∧
    (∃ s : State, ∃ r : Fin 32768, s.tallyRuns = true ∧ r.val ∈ s.faults.tillRows ∧ r.val + 32768 ∉ s.faults.tillRows ∧
      s.faults.tillSpares.length < 256) ∧
    (∃ s : State, ∃ r : Fin 32768, s.tallyRuns = true ∧ r.val ∈ s.faults.tillRows ∧ r.val + 32768 ∉ s.faults.tillRows ∧
      256 ≤ s.faults.tillSpares.length) ∧
    (∃ s : State, ∃ r, s.tallyRuns = true ∧ r ∉ s.faults.vaultRows) ∧
    (∃ s : State, ∃ r, s.tallyRuns = true ∧ r ∈ s.faults.vaultRows ∧ r + 4294967296 ∉ s.faults.vaultRows) ∧
    (∃ s : State, ∃ r, s.tallyRuns = true ∧ r ∈ s.faults.vaultRows ∧ r + 4294967296 ∉ s.faults.vaultRows) ∧
    (∃ s : State, s.rhoper = true) ∧
    (∃ s : State, s.running = true ∧ s.faults.staged ≠ [] ∧ ((s.balance 7 3).waiting.any fun r => r.job == .faultLog) =
      false ∧ (s.alw.flashBusy.any fun r => r.job == .faultLog) = false) ∧
    (∃ s : State, ∃ ch e, s.mode.current ∈ serviceModes ∧ (s.voice.channels.filter fun c => c.state = .suspended) = [ch]
      ∧ ch.outMove = none ∧ s.placement ch = some e) :=
  ⟨⟨qst, 5, by decide +kernel⟩,
   ⟨{ qst with faults := { tillRows := [5] } }, 5, by decide +kernel⟩,
   ⟨{ qst with faults := { tillRows := [5], tillSpares := List.range 256 } }, 5, by decide +kernel⟩,
   ⟨qst, 5, by decide +kernel⟩,
   ⟨{ qst with faults := { vaultRows := [5] } }, 5, by decide +kernel⟩,
   ⟨{ qst with faults := { vaultRows := [5] } }, 5, by decide +kernel⟩,
   ⟨qst, by decide +kernel⟩,
   ⟨{ qst with faults := { staged := [frec] } }, by decide +kernel⟩,
   ⟨{ qst with voice := { channels := [sch] } }, sch, 0, by decide +kernel⟩⟩

theorem witness_FrameAndStationEventsComplete :
    (∃ s : State, ∃ p : Fin 8, (s.port p.val).state = .up ∧ s.testPort.pinsTaken = false) ∧
    (∃ s : State, ∃ k, ∃ x : Sighting, ∃ r, (s.tables.sightings.find? fun y => y.key == k) = some x ∧ x.lastReport = some
      r ∧ r < x.at_ ∧ s.running = true) ∧
    (∃ s : State, ∃ k, ∃ x : Station, s.station k = some x ∧ x.isStatic = false ∧ s.homeOf (stationHash k) = s.node ∧
      s.running = true ∧ s.tables.teller = []) ∧
    (∃ s : State, s.running = true) ∧
    (∃ s : State, ∃ h e rest, s.running = true ∧ s.tables.teller = .unlatch h e :: rest) ∧
    (∃ s : State, ∃ h epoch n ip port rest, s.running = true ∧ s.tables.teller = .latch h epoch n ip port :: rest) ∧
    (∃ s : State, ∃ u : StationUpdate, s.running = true ∧ u.present = false) ∧
    (∃ s : State, ∃ u : StationUpdate, s.running = true ∧ u.present = true) ∧
    (∃ s : State, ∃ h : Word32, ∃ ch : Channel, ∃ l, s.boundLeg h.toNat = some (ch, l) ∧ latchPolicy (ch.legOf l).flags =
      1 ∧ (ch.legOf l).latched.isSome = true ∧ s.running = true) :=
  ⟨⟨upP, 0, by decide +kernel⟩,
   ⟨{ qst with tables := { sightings := [⟨key, 0, 50, some 20, none⟩] } }, key, ⟨key, 0, 50, some 20, none⟩, 20,
  by decide +kernel⟩,
   ⟨{ qst with tables := { stations := [⟨key, 0, 0, false, 0, 3⟩] } }, key, ⟨key, 0, 0, false, 0, 3⟩, by decide +kernel⟩,
   ⟨qst, by decide +kernel⟩,
   ⟨{ qst with tables := { teller := [.unlatch 5 1] } }, 5, 1, [], by decide +kernel⟩,
   ⟨{ qst with tables := { teller := [.latch 5 1 false 9 9] } }, 5, 1, false, 9, 9, [], by decide +kernel⟩,
   ⟨{ qst with tables := { stations := [⟨key, 0, 0, false, 0, 3⟩] } }, ⟨key, false, 0, 0, false, 0⟩, by decide +kernel⟩,
   ⟨qst, ⟨key, true, 15, 7, true, 9⟩, by decide +kernel⟩,
   ⟨{ qst with voice := { channels := [lch] } }, 5, lch, .a, by decide +kernel⟩⟩

theorem witness_MediaTimersComplete :
    (∃ s : State, ∃ id : Word32, ∃ l, ∃ ch : Channel, s.channel id.toNat = some ch ∧ hasBuffer ch l = true ∧ s.running = true ∧
      (ch.legOf l).jb.cfg.fixed = true) ∧
    (∃ s : State, ∃ id : Word32, ∃ l, ∃ ch : Channel, ∃ late, s.channel id.toNat = some ch ∧ hasBuffer ch l = true ∧
      s.running = true ∧ (ch.legOf l).jb.cfg.fixed = false ∧ vbd ch.program = false ∧ late = ((ch.legOf l).jb.latenessMs.filter fun p =>
      decide (s.now < p.1 + 2000000000)).foldl (fun n p => max n p.2) 0) ∧
    (∃ s : State, ∃ id : Word32, ∃ l, ∃ ch : Channel, s.channel id.toNat = some ch ∧ ch.state = .running ∧
      s.mode.current ∈ serviceModes ∧ hasBuffer ch l = true ∧ (s.entryOf (ch.legOf l)).isSome = true) :=
  ⟨⟨(vs jch), 16, .a, jch, by decide +kernel⟩,
   ⟨(vs j2), 16, .a, j2, 33, by decide +kernel⟩,
   ⟨holding .service [chan] [sess] [], 16, .a, chan, by decide +kernel⟩⟩

theorem witness_PortLinkEventsComplete :
    (∃ s : State, ∃ p : Fin 8, s.portRuns p.val = true ∧ (s.port p.val).blockLock = true) ∧
    (∃ s : State, ∃ p : Fin 8, (s.port p.val).state = .down ∧ s.linkGood p.val = true) ∧
    (∃ s : State, ∃ p : Fin 8, (s.port p.val).state = .up ∧ s.linkGood p.val = false) ∧
    (∃ s : State, ∃ p : Fin 8, s.portRuns p.val = true) ∧
    (∃ s : State, ∃ p : Fin 8, s.portRuns p.val = true ∧ (s.lane p.val).cdrLocked = true) ∧
    (∃ s : State, ∃ p : Fin 8, ∃ at_, s.portRuns p.val = true ∧ (s.lane p.val).state = .training ∧ (s.lane
      p.val).blockLockAt = some at_) :=
  ⟨⟨(prt { state := .up, blockLock := true, fecLock := true } { state := .ready, blockLockAt := some 4 }), 0,
  by decide +kernel⟩,
   ⟨(prt { state := .down, blockLock := true, fecLock := true } { state := .ready, blockLockAt := some 4 }), 0,
  by decide +kernel⟩,
   ⟨(prt { state := .up, blockLock := false } { state := .ready, blockLockAt := some 4 }), 0, by decide +kernel⟩,
   ⟨(prt { state := .up } {}), 0, by decide +kernel⟩,
   ⟨(prt { state := .up } { cdrLocked := true }), 0, by decide +kernel⟩,
   ⟨(prt { state := .down } { cdrLocked := true, state := .training, blockLockAt := some 5 }), 0, 5, by decide +kernel⟩⟩

theorem witness_TimeEventsComplete :
    (∃ s : State, ∃ p : Fin 8, ∃ s1 : State, ∃ q k, (s.port p.val).state = .up ∧ (s.port p.val).remoteFault = false ∧
      (s.port p.val).localFault = false ∧ s.blockInReset 79 = false ∧ s1 = advance (s.port p.val).sendingUntil s ∧
      s1.earliest p.val ((s1.timedHeads p.val).filter fun x => decide (s1.grantInstant p.val x.2 ≤ s1.tbValue
      (s1.launchCfg p.val x.1).tb)) = some (q, k)) ∧
    (∃ s : State, ∃ p : Fin 8, ∃ s1 : State, ∃ q k, (s.port p.val).state = .up ∧ (s.port p.val).remoteFault = false ∧
      (s.port p.val).localFault = false ∧ s.blockInReset 79 = false ∧ s1 = advance (s.port p.val).sendingUntil s ∧
      s1.timedHeads p.val = [] ∧ s1.time.waiting = [] ∧ s1.immediateHead p.val = some (q, k)) ∧
    (∃ s : State, ∃ pin : Fin 4, ∃ p : PpsCfg, p = s.cfg.pps.getD pin.val {} ∧ p.enable = true ∧ s.tbOn p.tb = true) ∧
    (∃ s : State, ∃ pin : Fin 2, ∃ falling w, s.running = true ∧ (s.cfg.pps.getD (4 + pin.val) {}).enable = true ∧
      (s.cfg.pps.getD (4 + pin.val) {}).falling = falling ∧ 100 ≤ w ∧ (∀ t, s.time.pinLastEdge.getD pin.val none = some t
      → t + 500000000 ≤ s.now)) ∧
    (∃ s : State, ∃ pin : Fin 2, ∃ falling w, s.running = true ∧ (s.cfg.pps.getD (4 + pin.val) {}).enable = true ∧
      (s.cfg.pps.getD (4 + pin.val) {}).falling = falling ∧ w < 100) ∧
    (∃ s : State, ∃ i : Fin 4, ∃ e, 2 ≤ (s.tbCfg i.val).source ∧ ((s.tb i.val).state = .acquiring ∨ (s.tb i.val).state =
      .locked) ∧ (s.tb i.val).lastEdge = some e) ∧
    (∃ s : State, ∃ i : Fin 4, (s.tbCfg i.val).source = 1 ∧ ((s.tb i.val).state = .acquiring ∨ (s.tb i.val).state =
      .locked)) ∧
    (∃ s : State, ∃ p : Fin 8, ∃ w : PtpWaiting, s.running = true ∧ (s.time.waiting.find? fun w => w.port == p.val &&
      !w.own) = some w) ∧
    (∃ s : State, s.usesTbref = true ∧ s.power.timeBaseReleased = false ∧ s.time.onTbref = true) ∧
    (∃ s : State, s.power.timeBaseReleased = true ∧ s.time.onTbref = true) ∧
    (∃ s : State, ∃ since, s.usesTbref = true ∧ s.power.timeBaseReleased = true ∧ s.time.onTbref = false ∧
      s.time.tbrefBackSince = some since) ∧
    (∃ s : State, ∃ i : Fin 4, ∃ id e, (s.tb i.val).setEntry = some id ∧ s.entry id = some e) ∧
    (∃ s : State, ∃ i : Fin 4, ∃ p, s.running = true ∧ s.tbOn i.val = true ∧ (s.tbCfg i.val).role = 1 ∧ ((List.range
      8).find? fun p => (s.cfg.ptpPorts.getD p {}).enable && (s.cfg.ptpPorts.getD p {}).tb == i.val) = some p) :=
  ⟨⟨g0, 0, advance 0 g0, 0, pktSoon, by decide, by decide, by decide, by decide +kernel, rfl, soonest⟩,
   ⟨g1, 0, (advance 0 g1), 0, pktSoon, by decide +kernel, by decide +kernel, by decide +kernel, by decide +kernel, rfl, by decide +kernel,
  by decide +kernel, by decide +kernel⟩,
   ⟨pp, 0, { enable := true, offsetNs := -5 }, by decide +kernel⟩,
   ⟨pi, 0, false, 100, by decide +kernel⟩,
   ⟨pi, 0, false, 99, by decide +kernel⟩,
   ⟨(tb { state := .locked, lastEdge := some 7 } { enable := true, source := 2 }), 0, 7, by decide +kernel⟩,
   ⟨(tb { state := .locked, lastEdge := some 7 } { enable := true, source := 1 }), 0, by decide +kernel⟩,
   ⟨{ qst with time := { waiting := [wt] } }, 2, wt, by decide +kernel⟩,
   ⟨{ qst with boot := { straps := ⟨0, 1, 0, 0⟩ }, time := { onTbref := true } }, by decide +kernel⟩,
   ⟨{ qst with power := { timeBaseReleased := true }, time := { onTbref := true } }, by decide +kernel⟩,
   ⟨{ qst with power := { timeBaseReleased := true }, boot := { straps := ⟨0, 2, 0, 0⟩ }, time := { onTbref := false, tbrefBackSince := some 4 } },
  4, by decide +kernel⟩,
   ⟨{ (tb { setEntry := some 3 } {}) with cmds := { entries := [ent] } }, 0, 3, ent, by decide +kernel⟩,
   ⟨sending, 0, 1, by decide +kernel⟩⟩

theorem witness_LaneEventsComplete :
    (∃ s : State, ∃ l : Fin 40, (s.lane l.val).state ≠ .off ∧ (s.lane l.val).state ≠ .fault ∧ (s.lane l.val).cdrLocked =
      false ∧ s.testPort.pinsTaken = false) ∧
    (∃ s : State, ∃ l : Fin 32, ∃ id, ∃ x : Lane, x = s.lane (tLane l.val) ∧ x.cdrLocked = true ∧ x.aligned = false ∧
      x.state = .training ∧ (setLane (tLane l.val) (fun x => { x with aligned := true, laneId := id }) s).mapStraight
      (linkOfLane (tLane l.val)) = true) ∧
    (∃ s : State, ∃ l : Fin 32, (s.lane (tLane l.val)).aligned = true) ∧
    (∃ s : State, ∃ l : Fin 40, (s.lane l.val).cdrLocked = true) ∧
    (∃ s : State, ∃ k : Fin 4, ((List.range 8).any fun j => (s.lane (laneOfLink k.val j)).state == .fault) = true) ∧
    (∃ s : State, ∃ l : Fin 32, ∃ x : Lane, ∃ w, s.rhoper = true ∧ s.laneRetired (tLane l.val) = false ∧ x = s.lane
      (tLane l.val) ∧ w = ((s.counter (laneCtr (tLane l.val) 2) + s.counter (laneCtr (tLane l.val) 3) - x.errorMark)
      :: x.errorSeconds).take 10) ∧
    (∃ s : State, ∃ l : Fin 40, ∃ x : EyeScan, ∃ e, (s.lanes.scans.find? fun x => x.lane == l.val) = some x ∧
      s.entry x.entry = some e ∧ x.broken = false ∧ x.done + 1 ≠ x.points ∧ s.abortsOf x.entry = []) ∧
    (∃ s : State, ∃ l : Fin 40, ∃ x : EyeScan, ∃ e, (s.lanes.scans.find? fun x => x.lane == l.val) = some x ∧
      s.entry x.entry = some e ∧ x.broken = false ∧ x.done + 1 = x.points) ∧
    (∃ s : State, ∃ l : Fin 40, (s.lane l.val).checkerLocked = true) ∧
    (∃ s : State, ∃ l : Fin 40, (s.lane l.val).checkerRunning = true) ∧
    (∃ s : State, ∃ l : Fin 40, (s.lane l.val).injectInterval ≠ 0 ∧ (s.lane l.val).state ≠ .off) :=
  ⟨⟨(ln { state := .training }), 0, by decide +kernel⟩,
   ⟨(tl { state := .training, cdrLocked := true }), 0, 0, { state := .training, cdrLocked := true }, by decide +kernel⟩,
   ⟨(tl { state := .ready, cdrLocked := true, aligned := true }), 0, by decide +kernel⟩,
   ⟨(tl { state := .ready, cdrLocked := true, aligned := true }), 8, by decide +kernel⟩,
   ⟨(tl { state := .fault }), 0, by decide +kernel⟩,
   ⟨(tl {}), 0, {}, [0], by decide +kernel⟩,
   ⟨(scn 2), 0, ⟨3, 0, 1, 1, 20, 4096, 5, 2, false⟩, sent, by decide +kernel⟩,
   ⟨(scn 4), 0, ⟨3, 0, 1, 1, 20, 4096, 5, 4, false⟩, sent, by decide +kernel⟩,
   ⟨(ln { checkerLocked := true }), 0, by decide +kernel⟩,
   ⟨(ln { checkerRunning := true }), 0, by decide +kernel⟩,
   ⟨(ln { injectInterval := 9, state := .test }), 0, by decide +kernel⟩⟩

theorem witness_TylaneLinkEventsComplete :
    (∃ s : State, ∃ k : Fin 4, ∃ w, (s.tyLink k.val).state = .training ∧ (s.tyLink k.val).width = 0 ∧ s.halfReady k.val 0
      = true ∧ s.halfReady k.val 1 = true ∧ w = s.partnerWord k.val) ∧
    (∃ s : State, ∃ k : Fin 4, ∃ w, (s.tyLink k.val).state = .training ∧ (s.tyLink k.val).width = 0 ∧ s.halfReady k.val 0
      = true ∧ s.halfReady k.val 1 = true ∧ w ≠ s.partnerWord k.val) ∧
    (∃ s : State, ∃ k : Fin 4, ∃ w low, (s.tyLink k.val).state = .training ∧ (s.tyLink k.val).width = 0 ∧ s.halfReady
      k.val 0 = low ∧ s.halfReady k.val 1 = !low ∧ w = s.partnerWord k.val) ∧
    (∃ s : State, ∃ k : Fin 4, (s.tyLink k.val).state = .wiring) ∧
    (∃ s : State, ∃ k : Fin 4, ∃ t1 t2 t3 t4, ∃ l : TyLink, ∃ d, l = s.tyLink k.val ∧ l.state = .training ∧ l.width ≠ 0 ∧
      l.probes + 1 < 16 ∧ d = ((t4 - t1) - (t3 - t2)) / 2) ∧
    (∃ s : State, ∃ k : Fin 4, ∃ t1 t2 t3 t4, ∃ l : TyLink, ∃ d, l = s.tyLink k.val ∧ l.state = .training ∧ l.width ≠ 0 ∧
      15 ≤ l.probes ∧ d = ((t4 - t1) - (t3 - t2)) / 2) ∧
    (∃ s : State, ∃ k : Fin 4, ∃ h : TyHeader, (s.tyLink k.val).state = .up ∧ s.testPort.pinsTaken = false ∧ h.crcOk
      = true ∧ h.nak = false ∧ (s.tyLink k.val).waiting = []) ∧
    (∃ s : State, ∃ k : Fin 4, ∃ h : TyHeader, (s.tyLink k.val).state = .up ∧ s.testPort.pinsTaken = false ∧ h.crcOk =
      false) ∧
    (∃ s : State, ∃ k : Fin 4, ∃ f rest, (s.tyLink k.val).state = .up ∧ (s.tyLink k.val).replay = f :: rest ∧ (s.tyLink
      k.val).replayCount < 4) :=
  ⟨⟨(lk { state := .training }), 0, 16, by decide +kernel⟩,
   ⟨(lk { state := .training }), 0, 5, by decide +kernel⟩,
   ⟨hlf, 0, 16, true, by decide +kernel⟩,
   ⟨(lk { state := .wiring }), 0, by decide +kernel⟩,
   ⟨(lk { state := .training, width := 8 }), 0, 1, 5, 9, 40, { state := .training, width := 8 }, 17, by decide +kernel⟩,
   ⟨(lk { state := .training, width := 8, probes := 15, probeMin := 4 }), 0, 1, 5, 9, 40,
  { state := .training, width := 8, probes := 15, probeMin := 4 }, 17, by decide +kernel⟩,
   ⟨(lkU { replay := [rf] }), 0, th, by decide +kernel⟩,
   ⟨(lkU {}), 0, { th with crcOk := false }, by decide +kernel⟩,
   ⟨(lkU { replay := [rf] }), 0, rf, [], by decide +kernel⟩⟩

theorem witness_TylaneFramesComplete :
    (∃ s : State, ∃ k : Fin 4, ∃ h : TyHeader, (s.tyLink k.val).state = .up ∧ s.testPort.pinsTaken = false ∧ h.crcOk
      = true ∧ h.seq = (s.tyLink k.val).rxSeq ∧ h.nak = false ∧ (s.tyLink k.val).waiting = []) ∧
    (∃ s : State, ∃ k : Fin 4, ∃ h : TyHeader, (linkReceive k.val h s).2 = true ∧ h.dest.val = s.node ∧ s.running = true) ∧
    (∃ s : State, ∃ k : Fin 4, ∃ h : TyHeader, (linkReceive k.val h s).2 = true ∧ h.dest.val = s.node) ∧
    (∃ s : State, ∃ k : Fin 4, ∃ h : TyHeader, ∃ copy : PtpCopy, (linkReceive k.val h s).2 = true ∧ h.dest.val = s.node ∧
      (s.tbCfg copy.tb.val).enable = true ∧ (s.tbCfg copy.tb.val).role = 2 ∧ (s.tbCfg copy.tb.val).domain =
      copy.domain.toNat) ∧
    (∃ s : State, ∃ k : Fin 4, ∃ h : TyHeader, (linkReceive k.val h s).2 = true ∧ h.dest.val = s.node) ∧
    (∃ s : State, ∃ k : Fin 4, ∃ h : TyHeader, ∃ f : TyPayload → ReplayFrame, (linkReceive k.val h s).2 = true ∧
      h.dest.val ≠ s.node ∧ f = (fun p => (⟨0, h.dest.val, p, h.octets, s.now, h.source.val, h.hops + 1, 0⟩ :
      ReplayFrame))) :=
  ⟨⟨(lkU {}), 0, th, by decide +kernel⟩,
   ⟨(lkU {}), 0, th, by decide +kernel⟩,
   ⟨(lkU {}), 0, th, by decide +kernel⟩,
   ⟨{ (lkU {}) with cfg := { clusterSize := 4, timeBases := { enable := true, role := 2 } :: List.replicate 3 {} } }, 0, th,
  ⟨0, 0, true, 0, 14, List.replicate 90 0, 0, 0⟩, by decide +kernel⟩,
   ⟨(lkU {}), 0, th, by decide +kernel⟩,
   ⟨(lkU {}), 0, { th with dest := 2 }, _, by decide +kernel, by decide +kernel, rfl⟩⟩

theorem witness_ClusterEventsComplete :
    (∃ s : State, s.joined = true) ∧
    (∃ s : State, ∃ n : Fin 16, ∃ at_, (s.cluster.peers.getD n.val {}).heardAt = some at_ ∧ s.joined = true) ∧
    (∃ s : State, ∃ v : ClusterView, s.isKing = true ∧ s.cluster.view = some v ∧ v.members = s.heardMask ∧ v.king =
      s.node) ∧
    (∃ s : State, s.isKing = true ∧ s.cluster.view = none ∧ s.viewElsewhere = false ∧ s.enough s.heardMask = true) ∧
    (∃ s : State, ∃ id : Word32, ∃ ch : Channel, ∃ m : OutMove, s.channel id.toNat = some ch ∧ ch.outMove = some m ∧
      m.admitted = true ∧ m.copied = true) ∧
    (∃ s : State, ∃ ch n, s.mode.current = .drain ∧ s.mode.autoStandby = true ∧ (s.drainOrder.find? fun c =>
      !s.drainHeld c.id) = some ch ∧ s.chooseTarget ch = some n ∧ ((s.cluster.drainStarts.filter fun t => decide
      (s.now < t + 1000000000)) = [] ∨ (s.cluster.drainStarts.filter fun t => decide (s.now < t + 1000000000)).length
      + (s.moveGroup ch).length ≤ 32)) ∧
    (∃ s : State, ∃ id n at_, s.cluster.leaveWait = some (id, n, at_)) :=
  ⟨⟨joined, by decide +kernel⟩,
   ⟨joined, 1, 0, by decide +kernel⟩,
   ⟨joined, ⟨1, 0, 3, List.replicate 256 0⟩, by decide +kernel⟩,
   ⟨{ joined with cluster := { view := none, peers := {} :: ⟨some 0, 4, 2, 0, 0⟩ :: List.replicate 14 {} } }, by decide +kernel⟩,
   ⟨{ joined with voice := { channels := [mch] } }, 16, mch, om, by decide +kernel⟩,
   ⟨{ joined with mode := { current := .drain, steward := .rhoper, autoStandby := true }, voice := { channels := [roamer] } },
  roamer, 1, by decide +kernel⟩,
   ⟨{ qst with cluster := { leaveWait := some (1, 2, 3) } }, 1, 2, 3, by decide +kernel⟩⟩

theorem witness_ThermalAndDebugEventsComplete :
    (∃ s : State, ∃ x : TelemetrySample, ∃ temps, temps = ((List.range 9).map fun k => (x.temps.getD k none).map
      (s.effectiveTemp k)) ∧ temps.any (atLeast 1000) = false) ∧
    (∃ s : State, ∃ x : TelemetrySample, ∃ k : Fin 9, atLeast 1000 ((x.temps.getD k.val none).map (s.effectiveTemp
      k.val)) = true ∧ 1 ≤ s.tele.tripping.getD k.val 0 ∧ s.power.thermalHold = false) ∧
    (∃ s : State, ∃ since, s.tele.coolSince = some since ∧ s.tele.warn = true ∧ s.rhoper = true) ∧
    (∃ s : State, s.mode.steward ≠ .stopped ∧ s.testPort.uartRx.length < 64) ∧
    (∃ i ir, (i, ir) ∈ [(Instr.extest, (0x00 : BitVec 8)), (.clamp, 0x04), (.highz, 0x05), (.extestPulse, 0x08),
      (.extestTrain, 0x09)]) :=
  ⟨⟨qst, smp, (((List.range 9).map fun k => (smp.temps.getD k none).map (qst.effectiveTemp k))), by decide +kernel⟩,
   ⟨{ qst with tele := { tripping := 1 :: List.replicate 8 0 } }, hot, 0, by decide +kernel⟩,
   ⟨{ qst with tele := { warn := true, coolSince := some 5 } }, 5, by decide +kernel⟩,
   ⟨{ qst with testPort := { uartRx := List.replicate 63 0 } }, by decide +kernel⟩,
   ⟨.extest, 0, by decide +kernel⟩⟩

theorem witness_StepRunsTheFrontCommand :
    (∃ c rest, ∃ s : State, s.pending = c :: rest) ∧
    (∃ s : State, s.pending = []) :=
  ⟨⟨.bypass, [.dmbGo], { qst with pending := [.bypass, .dmbGo] }, rfl⟩,
   ⟨State.reset, rfl⟩⟩

theorem witness_EveryCommandAnswersAState :
    (∃ c, ∀ mv, c = Instr.vddCoreLow mv → 600 ≤ mv) ∧
    (∃ mv, mv < 600) ∧
    (∃ s : State, ∃ mv, 600 ≤ mv ∧ 640 ≤ s.effectiveRail 0 mv) :=
  ⟨⟨.vddCoreLow 600, fun mv h => by cases h; exact Nat.le_refl _⟩,
   ⟨599, by decide +kernel⟩,
   ⟨qst, 640, by decide +kernel⟩⟩

theorem witness_QueueIsKept :
    (∃ c, ∃ s : State, ∃ t, exec c s = .next t) :=
  ⟨.bypass, State.reset, _, rfl⟩

theorem witness_ModeRegisterStaysLegal :
    (∃ s : State, ∃ t, ModeOk s.mode ∧ step s = .next t) :=
  ⟨{ State.reset with pending := [.bypass] }, _, by constructor <;> simp [State.reset, runModes], rfl⟩

theorem witness_BackupRegisters :
    (∃ c, ∃ s : State, ∃ t, exec c s = .next t ∧ (∀ o d, c ≠ .registerWrite o d) ∧ ∀ p f, c ≠ .optionLoadingDone p f) ∧
    (∃ s : State, ∃ p f t, s.power.optionLoading = true ∧ exec (.optionLoadingDone p f) s = .next t) ∧
    (∃ s : State, ∃ n, n < 16 ∧ s.power.asserted = false ∧ s.power.optionLoading = false) ∧
    (∃ s : State, ∃ o d t, (s.power.asserted = true ∨ s.power.optionLoading = true) ∧ exec (.registerWrite o d) s = .next
      t) :=
  ⟨⟨.por .vddIo, qst, _, rfl, by simp, by simp⟩,
   ⟨loading, st, false, _, rfl, rfl⟩,
   ⟨qst, 15, by decide +kernel⟩,
   ⟨loading, 0x5C, [1, 2, 3, 4], _, .inr rfl, rfl⟩⟩

theorem witness_StrapsAndCauseKept :
    (∃ c, ∃ s : State, ∃ t, exec c s = .next t ∧ (∀ p f, c ≠ .optionLoadingDone p f) ∧ ∀ o d, c ≠ .registerWrite o d) ∧
    (∃ c, ∃ s : State, ∃ t, exec c s = .next t ∧ (∀ p f, c ≠ .optionLoadingDone p f) ∧ (∀ o d, c ≠ .registerWrite o d) ∧
      (∀ w, c ≠ .resetCauseWrite w) ∧ c ≠ .wdogRunClear) :=
  ⟨⟨.por .vddIo, qst, _, rfl, by simp, by simp⟩,
   ⟨.por .vddIo, qst, _, rfl, by simp, by simp, by simp, by simp⟩⟩

theorem witness_RefusalOrder :
    (∃ i op q j, ∃ c : Cmd, ∃ s : State, hostRow i = some (op, .cq q j, c) ∧ s.running = true ∧ 4095 < c.tag.toNat) ∧
    (∃ i op src c, ∃ s : State, ∃ o, hostRow i = some (op, src, c) ∧ s.takes src = true ∧ (tagFault (opcodeOf op) src c
      s).isNone = true ∧ headerBad c = some o) ∧
    (∃ i op c, ∃ s : State, hostRow i = some (op, .dmb, c) ∧ headerBad c = none ∧ (s.mode.current = .loader ∨
      s.mode.current = .recovery) ∧ romSubset op s.mode.current = false) ∧
    (∃ i op c, hostRow i = some (op, .mgmt, c) ∧ headerBad c = none ∧ mgmtCarries op = false) ∧
    (∃ modes : List Mode, ∃ s : State, s.mode.current ∉ modes) ∧
    (∃ modes : List Mode, ∃ checks : List Check, ∃ s : State, ∃ pre o post, s.mode.current ∈ modes ∧ checks = pre ++ some
      o :: post ∧ (∀ x ∈ pre, x = none)) :=
  ⟨⟨(.nop (.cq 0 0) tga), .nop, 0, 0, tga, qst, by decide +kernel⟩,
   ⟨(.nop .dmb bad), .nop, .dmb, bad, qst, 5, by decide +kernel⟩,
   ⟨(.sessionAdd .dmb (cmd [])), .sessionAdd, (cmd []), (rom .loader), by decide +kernel⟩,
   ⟨(.sessionAdd .mgmt (cmd [])), .sessionAdd, (cmd []), by decide +kernel⟩,
   ⟨[.standby], qst, by decide +kernel⟩,
   ⟨[.service], [none, some 16, some 17], qst, [none], 16, [some 17], by decide +kernel⟩⟩

theorem witness_DuplicateTag :
    (∃ op q j c, ∃ s : State, opens op (.cq q j) c s = true) ∧
    (∃ i op q j, ∃ c : Cmd, ∃ s : State, hostRow i = some (op, .cq q j, c) ∧ s.running = true ∧ c.tag.toNat ≤ 4095 ∧
      s.tagInFlight c.tag = true) :=
  ⟨⟨.nop, 0, 0, (cmd []), qst, by decide +kernel⟩,
   ⟨(.nop (.cq 0 4) { cmd [] with tag := 9 }), .nop, 0, 4, { cmd [] with tag := 9 }, dup, by decide +kernel⟩⟩

/-- A record of a finished command, of one that still executes, and of another command. -/
theorem witness_RetryMatch :
    (∃ i op q j c, ∃ s : State, ∃ r st res, hostRow i = some (op, .cq q j, c) ∧ s.running = true ∧ c.tag.toNat ≤ 4095 ∧ s.tagInFlight c.tag = false ∧ headerBad c = none ∧ c.retryId ≠ 0 ∧
      (s.cmds.retry.find? fun r => r.id == c.retryId && !lapsed s.now r) = some r ∧
      r.op = op ∧ r.params = c.params ∧ r.result = some (st, res)) ∧
    (∃ i op q j c, ∃ s : State, ∃ r, hostRow i = some (op, .cq q j, c) ∧ s.running = true ∧ c.tag.toNat ≤ 4095 ∧ s.tagInFlight c.tag = false ∧ headerBad c = none ∧ c.retryId ≠ 0 ∧
      (s.cmds.retry.find? fun r => r.id == c.retryId && !lapsed s.now r) = some r ∧
      r.op = op ∧ r.params = c.params ∧ r.result = none) ∧
    (∃ i op q j c, ∃ s : State, ∃ r, hostRow i = some (op, .cq q j, c) ∧ s.running = true ∧ c.tag.toNat ≤ 4095 ∧ s.tagInFlight c.tag = false ∧ headerBad c = none ∧ c.retryId ≠ 0 ∧
      (s.cmds.retry.find? fun r => r.id == c.retryId && !lapsed s.now r) = some r ∧ r.op ≠ op) :=
  ⟨⟨.nop (.cq 0 4) rc, .nop, 0, 4, rc, rst (some (0, 0)) .nop, rr (some (0, 0)) .nop, 0, 0, by decide +kernel⟩,
   ⟨.nop (.cq 0 4) rc, .nop, 0, 4, rc, rst none .nop, rr none .nop, by decide +kernel⟩,
   ⟨.nop (.cq 0 4) rc, .nop, 0, 4, rc, rst none .identify, rr none .identify, by decide +kernel⟩⟩

theorem witness_SharedObjectWaits :
    (∃ i op src c, ∃ s : State, ∃ x : Entry, hostRow i = some (op, src, c) ∧ s.takes src = true ∧ src ≠ .mgmt ∧ (tagFault
      (opcodeOf op) src c s).isNone = true ∧ headerBad c = none ∧ reaches op src s = true ∧ retryId src c = 0 ∧ x ∈
      s.cmds.entries ∧ x.id < s.cmds.nextId ∧ shares x.objects (objectsOf op c) = true) ∧
    (∃ s : State, ∃ e : Entry, ∃ x : Entry, s.cmds.entries = [x, e] ∧ x.id < e.id ∧ shares x.objects e.objects = true) ∧
    (∃ s : State, ∃ e : Entry, s.cmds.entries = [e] ∧ e.phase = .waiting ∧ s.mode.transition = none ∧ shares
      s.movingObjects e.objects = false) :=
  ⟨⟨(.channelClose .dmb clo), .channelClose, .dmb, clo, { qst with cmds := { entries := [opE], nextId := 1 } }, opE,
  by decide +kernel⟩,
   ⟨{ qst with cmds := { entries := [opE, { opE with id := 4 }] } }, { opE with id := 4 }, opE, by decide +kernel⟩,
   ⟨{ qst with cmds := { entries := [{ nopE with phase := .waiting }] } }, { nopE with phase := .waiting },
  by decide +kernel⟩⟩

theorem witness_FinalCompletion :
    (∃ e : Entry, ∃ s : State, ∃ q j, s.entry e.id = some e ∧ e.source = .cq q j ∧ e.discard = false ∧ e.joined = [] ∧
      s.endpointOn = true ∧ s.linkHolds = false ∧ s.hostFree 1 = true ∧ (s.ep.cc.getD e.cc {}).enable = true) ∧
    (∃ e : Entry, ∃ s : State, s.entry e.id = some e ∧ e.source = .dmb ∧ e.discard = false ∧ e.joined = [] ∧
      s.endpointOn = true ∧ s.hostFree 1 = true) ∧
    (∃ e : Entry, ∃ s : State, s.entry e.id = some e ∧ e.source = .mgmt ∧ e.joined = []) :=
  ⟨⟨cqE, fin, 0, 3, by decide +kernel⟩,
   ⟨nopE, { rich with cmds := { entries := [nopE] } }, by decide +kernel⟩,
   ⟨{ nopE with source := .mgmt }, { qst with cmds := { entries := [{ nopE with source := .mgmt }] } }, by decide +kernel⟩⟩

theorem witness_EventQueuePosts :
    (∃ s : State, s.eqRoom = true ∧ s.eq.lostPending = false ∧ s.endpointOn = true ∧ s.linkHolds =
      false ∧ s.hostFree 1 = true) ∧
    (∃ s : State, s.eqRoom = false) :=
  ⟨⟨{ rich with eq := { enable := true, log2 := 6 } }, by decide +kernel⟩,
   ⟨{ qst with eq := { enable := true, log2 := 6, tail := 63, head := 0 } }, by decide +kernel⟩⟩

theorem witness_RmemWriteFrame :
    (∃ s : State, ∃ o, ∃ data : List Byte, ∃ t, exec (.rmemWrite o data) s = .next t ∧ t ≠ s) :=
  ⟨qst, 0xEFFE, [1, 2], _, rfl, by decide +kernel⟩

theorem witness_ReportsChangeNothingElse :
    (∃ i op src c, ∃ s : State, ∃ t, hostRow i = some (op, src, c) ∧ op ∈ [Op.identify, .channelQuery] ∧ exec i s = .next
      t) :=
  ⟨.identify .dmb (cmd []), .identify, .dmb, cmd [], qst, _, rfl, by decide, rfl⟩

theorem witness_TransportWritesChangeTheTransport :
    (∃ i, ∃ s : State, ∃ t, (∃ q w, i = .cqTailDoorbell q w) ∧ exec i s = .next t) :=
  ⟨.cqTailDoorbell 3 15, dst, _, ⟨3, 15, rfl⟩, rfl⟩

theorem witness_LaterDoorbellSetsTail :
    (∃ s : State, ∃ t, ∃ q : Fin 4, ∃ v w : Word32, s.endpointOn = true ∧ (s.ep.cq.getD q.val {}).enable = true ∧ v.toNat
      < 2 ^ (s.ep.cq.getD q.val {}).log2 ∧ w.toNat < 2 ^ (s.ep.cq.getD q.val {}).log2 ∧ exec (.cqTailDoorbell q v) s =
      .next t) :=
  ⟨dst, _, 0, 15, 3, by decide, by decide, by decide, by decide, rfl⟩

theorem witness_HaltSignalsFatal :
    (∃ i, ∃ s : State, ∃ t, i ∈ [Instr.stewardLockstepMismatch, .stewardSramUe, .rhoperFatalAssertion] ∧ s.rhoper = true
      ∧ s.stewardOn = true ∧ s.irq.fatal = false ∧ exec i s = .next t ∧ s.endpointOn = true ∧ s.linkHolds = false ∧
      s.ep.config.msixEnable = true ∧
      s.ep.config.functionMask = false ∧ (s.ep.msix.getD 5 {}).masked = false) :=
  ⟨.stewardSramUe, signalled, _, by decide, by decide, by decide, by decide, rfl, by decide, by decide, by decide, by decide, by
  decide⟩

theorem witness_RemoteResetRefused :
    (∃ s : State, s.remoteEn = false) :=
  ⟨qst, by decide +kernel⟩

theorem witness_FirstReceiveCheckDecides :
    (∃ s : State, ∃ p : Fin 8, (s.port p.val).state = .up ∧ s.testPort.pinsTaken = false ∧ s.blockInReset 77 = false ∧
      (∃ f : RxFrame, f.fifoFull = true) ∧ (∃ f : RxFrame, f.fifoFull = false ∧ f.codeError = true) ∧
      (∃ f : RxFrame, f.fifoFull = false ∧ f.codeError = false ∧ f.bytes.length = 63) ∧
      (∃ f : RxFrame, f.fifoFull = false ∧ f.codeError = false ∧ f.bytes.length = (s.portCfg p.val).maxFrame + 1) ∧
      (∃ f : RxFrame, f.fifoFull = false ∧ f.codeError = false ∧ f.bytes.length = 64 ∧
        f.bytes.length ≤ (s.portCfg p.val).maxFrame ∧
        crc32 (f.bytes.take (f.bytes.length - 4)) ≠ bytesNat (f.bytes.drop (f.bytes.length - 4)))) :=
  ⟨upP, 0, by decide +kernel, by decide +kernel, by decide +kernel,
   ⟨⟨[], false, true, false, false, 0, false, false, []⟩, rfl⟩, ⟨⟨[], true, false, false, false, 0, false, false, []⟩, rfl, rfl⟩,
   ⟨⟨List.replicate 63 0, false, false, false, false, 0, false, false, []⟩, rfl, rfl, rfl⟩,
   ⟨⟨List.replicate (qst.portCfg 0).maxFrame.succ 0, false, false, false, false, 0, false, false, []⟩, rfl, rfl, by decide +kernel⟩,
   ⟨⟨List.replicate 64 0, false, false, false, false, 0, false, false, []⟩, by decide +kernel⟩⟩

theorem witness_RefillAndCharge :
    (∃ s : State, ∃ cls res b, cls < 8 ∧ res < 4 ∧ s.alw.balances[4 * cls + res]? = some b) ∧
    (∃ s : State, ∃ cls res b, cls < 8 ∧ res < 4 ∧ s.alw.balances[4 * cls + res]? = some b) :=
  ⟨⟨ao, 7, 3, {}, by decide, by decide, rfl⟩,
   ⟨aq, 2, 0, _, by decide, by decide, rfl⟩⟩

theorem witness_EnginesPreemptAfterReset :
    (∃ s : State, ∃ rail t, exec (.por rail) s = .next t) ∧
    (∃ s : State, ∃ t, s.power.wdogArmed = true ∧ exec .watchdogExpiry s = .next t) :=
  ⟨⟨qst, .vddSram, _, rfl⟩,
   ⟨{ qst with power := { wdogArmed := true } }, _, rfl, rfl⟩⟩

/-! Images: whether one verifies rests on the fused root key, the signature and the hash, which the model leaves open (the free
values `Config.rootKey`, `Config.signatureOk`, `Config.sha384`); these witnesses hold for any image that does. -/

/-- A device whose slot 0 holds an image. -/
def holdingImage (m : State) (h body : List Byte) : State :=
  { m with fw := { slots := [{ header := h, body := body }, {}], headerStaged := h.map some, downloading := some 0 } }

theorem witness_bootSlot (h body : List Byte) (hv : imageReason h body State.reset.fuseSv = 0) :
    ∃ src c s, opens .bootSlot src c s = true ∧ accepts [.recovery] [within c 16 1 0 1, reservedBytes c 17 64] s = true ∧
      s.slotVerifies (prmByte c 16) = true :=
  ⟨.dmb, cmd [], holdingImage (rom .recovery) h body, rfl, rfl, beq_iff_eq.mpr hv⟩

theorem witness_imageVerify (h body : List Byte) (hl : h.length = 4096) (hv : imageReason h body State.reset.fuseSv = 0) :
    ∃ src c s s1, opens .imageVerify src c s = true ∧
      accepts runModes [within c 16 1 0 1, reservedBytes c 17 64] s = true ∧
      s1 = accept (entryOf .imageVerify src c s) (opened .imageVerify src c s) ∧ s1.stagedReason (prmByte c 16) = (h, 0) := by
  have staged : (holdingImage (on .service) h body).stagedHeader = some h := by
    have hm : (h.map some).mapM id = some h := by
      clear hl hv
      induction h with
      | nil => rfl
      | cons a t ih => simp [List.mapM_cons, ih]
    simp only [State.stagedHeader, holdingImage, List.length_map, hl, if_true]
    exact hm
  refine ⟨.dmb, cmd [], holdingImage (on .service) h body, _, rfl, rfl, rfl, ?_⟩
  have e : ∀ t : State, t.fw = (holdingImage (on .service) h body).fw → t.stagedReason 0 = (h, 0) := fun t ht => by
    have hs : t.stagedHeader = some h := by rw [State.stagedHeader, ht]; exact staged
    have hr : imageReason h (t.slot 0).body t.fuseSv = 0 := by rw [State.slot, State.fuseSv, ht]; exact hv
    rw [State.stagedReason, hs, ht]
    simp [holdingImage, hr]
  exact e _ rfl

theorem witness_imageActivate (h body : List Byte) (hv : imageReason h body State.reset.fuseSv = 0) :
    ∃ src c s s1, opens .imageActivate src c s = true ∧ accepts runModes (activateChecks c) s = true ∧
      s1 = accept (entryOf .imageActivate src c s) (opened .imageActivate src c s) ∧ s1.mode = s.mode ∧
      s1.activateDenied c = false ∧ s1.slotVerifies (prmByte c 16) = true := by
  have hd : ∀ t : State, t.mode = (on .service).mode → t.ledger = { words := [(wBootCtrl, 1)] } → t.fw.downloading = none →
      t.activateDenied (cmd []) = false := fun t hm hl hf => by
    have hb : t.bootCtrl = 1 := by simp [State.bootCtrl, State.word, hl, sget]
    have h0 : prmByte (cmd []) 16 = 0 := by decide +kernel
    have h1 : prmByte (cmd []) 17 = 0 := by decide +kernel
    simp [State.activateDenied, State.trialOpen, hb, h0, h1, hm, hf, on, Nat.testBit, Nat.shiftRight_succ]
  exact ⟨.dmb, cmd [], { holdingImage (on .service) h body with
    fw := { slots := [{ header := h, body := body }, {}] }, ledger := { words := [(wBootCtrl, 1)] } },
    _, rfl, rfl, rfl, rfl, hd _ rfl rfl rfl, beq_iff_eq.mpr hv⟩

/-! Ill-formed commands: one for each check of `Instr.wf`. -/

theorem test_wf_words :
    Instr.wf (.resetCtrlCold 0xA5C30002) = false ∧ Instr.wf (.resetCtrlWarm 0xA5C30001) = false ∧
    Instr.wf (.resetCtrlBlock 0xA5C30000) = false ∧ Instr.wf (.queueEnable 0 0x10040) = false ∧
    Instr.wf (.queueDisable 0 0x10001) = false := by decide

theorem test_wf_regions :
    Instr.wf (.registerWrite 0xFFFF [1, 2]) = false ∧ Instr.wf (.registerWrite 0x20 []) = false ∧
    Instr.wf (.rmemWrite 0xFFFF [1, 2]) = false ∧ Instr.wf (.diagWindowRead 0x100000 1 false) = false ∧
    Instr.wf (.dmbCmdWrite 63 [1, 2]) = false := by decide

theorem test_wf_management :
    Instr.wf (.mbCmdWrite ⟨0x11, 64, [], true⟩) = false ∧ Instr.wf (.mbCmdWrite ⟨0x10, 256, [], true⟩) = false ∧
    Instr.wf (.mbCtrlGo ⟨0x10, 1, [1], true⟩) = false ∧ Instr.wf (.mbCtrlGo ⟨0x11, 1, List.replicate 256 0, true⟩) = false ∧
    Instr.wf (.mbCmplRead 33) = false := by decide +kernel

theorem test_wf_units :
    Instr.wf (.periodBoundary {}) = false ∧ Instr.wf (.allowanceRequest 0 0 0) = false ∧
    Instr.wf (.portFrameReceived 0 ⟨[], false, false, false, false, 0, false, false, []⟩) = false ∧
    Instr.wf (.thermalSample ⟨[], [0, 0, 0, 0], 0, true, true⟩) = false ∧
    Instr.wf (.thermalSample ⟨List.replicate 9 none, [], 0, true, true⟩) = false := by decide +kernel

theorem test_wf_tylane :
    Instr.wf (.tylaneMediaFrame 0 { th with octets := 9217 } (.toEgress 0 0 0 0 64 false [])) = false ∧
    Instr.wf (.tylaneMediaFrame 0 th (.toEgress 0 0 0 0 0 false [])) = false ∧
    Instr.wf (.tylaneMediaFrame 0 th (.toHome ⟨[], false, false, false, false, 0, false, false, []⟩)) = false ∧
    Instr.wf (.tylaneStewardMessage 0 th (.view 0 1 3 [])) = false ∧
    Instr.wf (.tylaneStewardMessage 0 th (.heartbeat 0 17 4 true 0 0)) = false ∧
    Instr.wf (.tylaneStewardMessage 0 th (.reply 0 0 0 (List.replicate 9217 0))) = false ∧
    Instr.wf (.tylanePtpCopy 0 { th with octets := 9217 } ⟨0, 0, true, 0, 14, [], 0, 0⟩) = false ∧
    Instr.wf (.tylaneBootImage 0 th 0 (List.replicate 9217 0)) = false ∧
    Instr.wf (.tylaneDelayProbe 0 5 6 7 4) = false := by decide +kernel

/-! Single steps and the shared operations, against the spec's own numbers. -/

/-- The state that a command leaves. -/
def after (i : Instr) (s : State) : State :=
  match exec i s with
  | .next t => t
  | _ => s

/-- The common check word of the Ethernet CRC-32 (12 R364) over the digits 1 to 9. -/
theorem test_crc32 : crc32 [0x31, 0x32, 0x33, 0x34, 0x35, 0x36, 0x37, 0x38, 0x39] = 0xCBF43926 := by decide +kernel

/-- The common check word of CRC-32C (07 R211). -/
theorem test_crc32c : crc32c [0x31, 0x32, 0x33, 0x34, 0x35, 0x36, 0x37, 0x38, 0x39] = 0xE3069283 := by decide +kernel

/-- Fields lie least significant byte first (00 R6). -/
theorem test_layout : natBytes 4 (layout 0 [⟨0, 2, 0x1234⟩, ⟨3, 1, 0xFF⟩]) = [0x34, 0x12, 0x00, 0xFF] := by decide

/-- 04 R122: a word of BKP15 is written whole, and a part of a word is ignored (06 R162). -/
theorem test_bkp :
    (after (.registerWrite 0x5C [0x78, 0x56, 0x34, 0x12]) qst).bkp.getD 15 0 = 0x12345678 ∧
    (after (.registerWrite 0x5D [0x78, 0x56, 0x34]) qst).bkp.getD 15 0 = 0 := by decide +kernel

/-- 04 R120: a write without the key in its upper half resets nothing. -/
theorem test_reset_key : (after (.resetCtrlCold 0xA5C20001) qst).power.asserted = false ∧
    (after (.resetCtrlCold 0xA5C30001) qst).mode.current = .strap := by decide +kernel

/-- 06 R189: the second command with a tag is answered at once, and only the first stays open. -/
theorem test_dup_tag : (after (.nop (.cq 1 0) { cmd [] with tag := 9 }) dup).cmds.entries.length = 1 := by decide +kernel

/-- 03 R71: without a time base the first three periods last 124,998, 124,998 and 124,999 ns. -/
theorem test_period : (ao.nextBoundary.1, ({ ao with alw := { ao.alw with freeRunPhase := 2 } } : State).nextBoundary.1)
    = (124998, 124999) := by decide +kernel

/-- 05 R141: a lockstep mismatch ends in HALT with HALT_CAUSE 2. -/
theorem test_halt : (after .stewardLockstepMismatch qst).mode.current = .halt ∧
    (after .stewardLockstepMismatch qst).mode.haltCause = 2 := by decide +kernel

/-- 06 Table 6-9: a doorbell past the ring is refused and sets DB_ERR. -/
theorem test_doorbell : ((after (.cqTailDoorbell 0 16) dst).ep.cq.getD 0 {}).tail = 0 ∧
    (after (.cqTailDoorbell 0 16) dst).irq.dbErr = true := by decide +kernel

/-- 18 R555: a write whose count is wrong is not acknowledged. -/
theorem test_nack : (after (.mbCmdWrite ⟨0x10, 63, List.replicate 63 1, true⟩) qst).mgmt.cmd = qst.mgmt.cmd := by
  decide +kernel

/-- 02 R36: below 0.60 V nothing is defined. -/
theorem test_supply : exec (.vddCoreLow 599) qst = .fault .undefinedSupply := rfl


/-- 18 R569, R568: M3_TX_P is ball A28; lane TY2.5, index 21, lies in row AC at AC64 to AC61; row CG is index 63. -/
theorem test_balls :
    (rowName 0, (Ball.mk 0 28).use) = (['A'], .mLane 3 .transmit .positive) ∧
    rowName 21 = ['A', 'C'] ∧ rowName 63 = ['C', 'G'] ∧
    [64, 63, 62, 61].map (fun c => (Ball.mk 21 c).use) = [.tLane 21 .transmit .positive, .tLane 21 .transmit .negative,
      .tLane 21 .receive .positive, .tLane 21 .receive .negative] := by decide

/-- 18 R570, Table 18-6: how many balls each rail has. -/
theorem test_rails :
    let balls := (List.range 64).flatMap fun r => (List.range 64).map fun c => (Ball.mk r (c + 1)).use
    [PackageRail.vddCore, .vddSram, .vddaSd, .vddhSd, .hbmVdd, .hbmVddq, .hbmVpp, .vddio, .vddAon, .vss].map (fun x =>
      (balls.filter fun u => u == .supply x).length) = [1196, 208, 156, 156, 112, 56, 16, 40, 8, 1820] := by decide +kernel

end Sys2Proof.Tests
end

/-!
SUPPORT. What counting and reporting leave alone, and what the link layer of Tylane leaves alone beside them. Each shared
operation has one lemma; a field that an operation keeps is then read off with `congrArg`.
-/
namespace Sys2Proof.Machine

/-- A state without what counting and reporting write: the endpoint, the EQ, the interrupts, the link, the Tally and the
allowance balances. -/
def unreported (s : State) : State :=
  { s with ep := {}, eq := {}, irq := {}, link := {}, tally := [], alw := { s.alw with balances := [] } }

@[simp] theorem unreported_setBalance (cls res : Nat) (f : Balance → Balance) (s : State) :
    unreported (setBalance cls res f s) = unreported s := rfl

@[simp] theorem unreported_bump (c : Ctr) (n : Nat) (s : State) : unreported (bump c n s) = unreported s := by
  unfold bump
  split <;> rfl

@[simp] theorem unreported_chargeGrant (cls res size : Nat) (s : State) :
    unreported (chargeGrant cls res size s) = unreported s := by
  simp [chargeGrant]

@[simp] theorem unreported_payRound (cls res n : Nat) (s : State) :
    unreported (payRound cls res n s).1 = unreported s := by
  unfold payRound
  split <;> simp

@[simp] theorem unreported_payNow (cls res n : Nat) (s : State) :
    unreported (payNow cls res n s).1 = unreported s := by
  simp [payNow]

@[simp] theorem unreported_pay (cls res n : Nat) (s : State) : unreported (pay cls res n s).1 = unreported s := by
  unfold pay
  split <;> simp

@[simp] theorem unreported_land (t : Tlp) (s : State) : unreported (land t s) = unreported s := by
  unfold land
  split
  · rfl
  · cases t with
    | mailbox d => rfl
    | write a d => dsimp only; split <;> rfl
    | message v => dsimp only; split <;> rfl

@[simp] theorem unreported_issue (t : Tlp) (s : State) : unreported (issue t s) = unreported s := by
  have hpay := unreported_pay 2 1 t.accesses s
  unfold issue
  dsimp only
  (repeat' split)
  · rfl
  · rw [unreported_land, hpay]
  · exact hpay
  · exact hpay

@[simp] theorem unreported_hostWrite (address : Nat) (bytes : List Byte) (s : State) :
    unreported (hostWrite address bytes s) = unreported s :=
  unreported_issue _ s

@[simp] theorem unreported_sendVector (v : Nat) (s : State) : unreported (sendVector v s) = unreported s := by
  unfold sendVector
  (repeat' split)
  · rfl
  · rfl
  · exact unreported_issue _ s

@[simp] theorem unreported_sendCause (s : State) : unreported (sendCause s) = unreported s := by
  unfold sendCause
  (repeat' split)
  · rfl
  · rfl
  · exact unreported_land _ s

@[simp] theorem unreported_writeEvent (code data : Nat) (s : State) :
    unreported (writeEvent code data s) = unreported s := by
  unfold writeEvent
  dsimp only
  split
  · exact (unreported_sendVector _ _).trans (unreported_hostWrite _ _ s)
  · exact unreported_hostWrite _ _ s

@[simp] theorem unreported_irqMessage (causeBit : Nat) (was : Bool) (s : State) :
    unreported (irqMessage causeBit was s) = unreported s := by
  unfold irqMessage
  split <;> simp

@[simp] theorem unreported_dropEvent (s : State) : unreported (dropEvent s) = unreported s :=
  (unreported_irqMessage _ _ _).trans (unreported_bump _ _ _)

@[simp] theorem unreported_flushLost (s : State) : unreported (flushLost s) = unreported s := by
  unfold flushLost
  split
  · exact unreported_writeEvent _ _ s
  · rfl

@[simp] theorem unreported_raiseCore (code : Nat) (fields : List Fld) (s : State) :
    unreported (raiseCore code fields s) = unreported s := by
  unfold raiseCore
  dsimp only
  split <;> simp

@[simp] theorem unreported_raise (code : Nat) (fields : List Fld) (s : State) :
    unreported (raise code fields s) = unreported s := by
  unfold raise
  dsimp only
  (repeat' split) <;> simp

@[simp] theorem unreported_countBy (c : Ctr) (n : Nat) (s : State) : unreported (countBy c n s) = unreported s := by
  unfold countBy
  dsimp only
  split <;> simp

@[simp] theorem unreported_count (c : Ctr) (s : State) : unreported (count c s) = unreported s :=
  unreported_countBy c 1 s

/-! What an event or a counter leaves alone, field by field as the statements read it. -/

@[simp] theorem raise_now (code : Nat) (fields : List Fld) (s : State) : (raise code fields s).now = s.now :=
  congrArg (·.now) (unreported_raise code fields s)

@[simp] theorem raise_tillOverdue (code : Nat) (fields : List Fld) (s : State) :
    (raise code fields s).alw.tillOverdue = s.alw.tillOverdue :=
  congrArg (·.alw.tillOverdue) (unreported_raise code fields s)

@[simp] theorem raise_vaultOverdue (code : Nat) (fields : List Fld) (s : State) :
    (raise code fields s).alw.vaultOverdue = s.alw.vaultOverdue :=
  congrArg (·.alw.vaultOverdue) (unreported_raise code fields s)

@[simp] theorem tyLink_countBy (c : Ctr) (n : Nat) (s : State) (k : Nat) :
    (countBy c n s).tyLink k = s.tyLink k :=
  congrArg (·.tyLink k) (unreported_countBy c n s)

@[simp] theorem tyLink_count (c : Ctr) (s : State) (k : Nat) : (count c s).tyLink k = s.tyLink k :=
  tyLink_countBy c 1 s k

end Sys2Proof.Machine

/-! The controller's events (03). -/
namespace Sys2Proof.Machine

/-- The controller grants the head of the queue of the class that Table 3-3 puts first (03 R78). -/
theorem exec_allowanceGrant_queued {s : State} {res : Fin 4} {cls : Nat} (corrected : Bool)
    (hrun : s.alw.running = true) (hres : res.val ≠ 2) (hpick : pickClass res.val (s.serves res.val) s = some cls) :
    exec (.allowanceGrant res corrected) s = .next (grantQueued cls res.val corrected s) := by
  change execAllowanceGrant res corrected s = _
  simp [execAllowanceGrant, hrun, hres, hpick]

/-- DISPATCH grants the class that comes first among the engines that ask and its queues (03 R78; 08 R239). -/
theorem exec_allowanceGrant_dispatch {s : State} {cls : Nat} (corrected : Bool) (hrun : s.alw.running = true)
    (hnext : (collectAskers s).dispatchNext = some cls) :
    exec (.allowanceGrant 2 corrected) s = .next (dispatchGrant cls (collectAskers s)) := by
  change execAllowanceGrant 2 corrected s = _
  simp [execAllowanceGrant, hrun, hnext]

/-- A request of the device's own is granted whole (03 R78). -/
theorem grantQueued_whole {s : State} {cls res : Nat} {q : Request} {rest : List Request} (corrected : Bool)
    (hw : (s.balance cls res).waiting = q :: rest) (hj : q.job ≠ .host) :
    grantQueued cls res corrected s = carryOut cls res q corrected (countCorrected res corrected
      (chargeGrant cls res q.size (setBalance cls res (fun b => { b with waiting := rest }) s))) := by
  simp [grantQueued, hw, hj]

/-- A transfer of the host's with more than one access left is granted one of them (03 R76). -/
theorem grantQueued_oneAccess {s : State} {cls res : Nat} {q : Request} {rest : List Request} (corrected : Bool)
    (hw : (s.balance cls res).waiting = q :: rest) (hj : q.job = .host) (hn : 1 < q.size) :
    grantQueued cls res corrected s = carryOut cls res q corrected (countCorrected res corrected (chargeGrant cls res 1
      (setBalance cls res (fun b => { b with waiting := { q with size := q.size - 1 } :: rest }) s))) := by
  simp [grantQueued, hw, hj, hn]

/-- A flash operation that nothing waits for only frees the flash (03 R76). -/
theorem flashOver_other {s : State} {n : Nat} (verified : Bool) (h : s.alw.flashBusy = some ⟨n, .other⟩) :
    flashOver verified s = { s with alw := { s.alw with flashBusy := none } } := by
  simp [flashOver, h]

/-- SCRUB_OVERDUE marks the pass and advances the clock to its bound (03 R90). -/
theorem exec_scrubOverdue {s : State} {vault : Bool} (hrun : s.alw.running = true)
    (hnot : (if vault then s.alw.vaultOverdue else s.alw.tillOverdue) = false) :
    ∃ t, exec (.scrubOverdue vault) s = .next t ∧
      (if vault then t.alw.vaultOverdue else t.alw.tillOverdue) = true ∧
      t.now = max s.now ((if vault then s.alw.vaultPassStart else s.alw.tillPassStart)
        + (if vault then 48 else 6) * 3600000000000) := by
  refine ⟨_, rfl, ?_⟩
  simp only [hrun, hnot, Bool.not_true, Bool.or_self, Bool.false_eq_true, if_false, raise_now, advance_now, and_true]
  cases vault with
  | false => simp
  | true => simp

/-- The forced slice begins on the chosen engine once no task runs there (03 R83). -/
theorem exec_calForcedTake {s : State} {e : Nat} (hheld : s.calHeld = true) (hrun : s.alw.running = true)
    (hchoice : s.forcedChoice = some e) (hidle : (s.engine e).running = none) :
    exec .calForcedTake s = .next (chargeGrant 5 2 1 (let s1 := count (devCtr 13) (startSlice e s)
      { s1 with alw := { s1.alw with calForcedDue := false, calCount := 0 } })) := by
  change execCalForcedTake s = _
  simp [execCalForcedTake, hheld, hrun, hchoice, hidle]

/-- A slice of calibration gives its descriptor back (08 R243). -/
theorem endSlice_calibration {s : State} {e : Nat} (hcal : (s.engine e).calSlice = true)
    (htest : (s.engine e).testSlice = false) :
    endSlice e s = freeDescriptor (setEngine e (fun x => { x with calSlice := false, testSlice := false }) s) := by
  simp [endSlice, hcal, htest]

/-- A slice of a self-test leaves its iteration the descriptor (08 R243). -/
theorem endSlice_test {s : State} {e : Nat} (htest : (s.engine e).testSlice = true) :
    endSlice e s = setEngine e (fun x => { x with calSlice := false, testSlice := false }) s := by
  simp [endSlice, htest]

/-- The end of a slice of calibration (03 R82). -/
theorem exec_calSliceEnd_calibration {s : State} {e : Fin 64} (result : SliceResult)
    (hcal : (s.engine e.val).calSlice = true) (htest : (s.engine e.val).testSlice = false) (hrun : s.tallyRuns = true) :
    exec (.calSliceEnd e result) s = .next (grantAll (beginIterations (sliceResult e.val result
      (setEngine e.val (fun x => { x with lastCal := s.alw.period }) (endSlice e.val s))))) := by
  change execCalSliceEnd e result s = _
  simp [execCalSliceEnd, hcal, htest, hrun]

/-- The end of a slice of a self-test (08 R250). -/
theorem exec_calSliceEnd_test {s : State} {e : Fin 64} {job : TestJob} (result : SliceResult)
    (hcal : (s.engine e.val).calSlice = true) (htest : (s.engine e.val).testSlice = true) (hrun : s.tallyRuns = true)
    (hjob : s.testOn e.val = some job) :
    exec (.calSliceEnd e result) s = .next (grantAll (beginIterations (testSliceOver job result
      (setEngine e.val (fun x => { x with lastCal := s.alw.period }) (endSlice e.val s))))) := by
  change execCalSliceEnd e result s = _
  simp [execCalSliceEnd, hcal, htest, hrun, hjob]

/-- An iteration that is not over asks for its next slice (08 R250). -/
theorem testSliceOver_next {job : TestJob} (result : SliceResult) (s : State) (h : job.slices + 1 < 250) :
    testSliceOver job result s = requestSlice job.engine { s with board := { s.board with
      tests := s.board.tests.map fun j => if j.entry = job.entry then { j with slices := j.slices + 1 } else j } } := by
  simp [testSliceOver, h]

/-- Settles O26: one lemma for each event of the controller. -/
theorem allowanceEventsComplete : Obligations.AllowanceEventsComplete := by
  unfold Obligations.AllowanceEventsComplete
  refine ⟨?request, ?whole, ?oneAccess, ?dispatch, ?flash, ?scrub, ?forced, ?calibration, ?selfTest⟩
  case request =>
    intro s cls res n hrun
    change execAllowanceRequest cls res n s = _
    simp [execAllowanceRequest, enqueueRequest, hrun]
  case whole =>
    intro s res corrected cls q rest hrun hres hpick hw hj
    rw [exec_allowanceGrant_queued corrected hrun hres hpick, grantQueued_whole corrected hw hj]
  case oneAccess =>
    intro s res corrected cls q rest hrun hres hpick hw hj hn
    rw [exec_allowanceGrant_queued corrected hrun hres hpick, grantQueued_oneAccess corrected hw hj hn]
  case dispatch => exact fun s corrected cls => exec_allowanceGrant_dispatch corrected
  case flash => exact fun s n h => congrArg Host.Outcome.next (flashOver_other true h)
  case scrub => exact fun s vault => exec_scrubOverdue
  case forced => exact fun s e => exec_calForcedTake
  case calibration =>
    intro s e result hcal htest hrun
    rw [exec_calSliceEnd_calibration result hcal htest hrun, endSlice_calibration hcal htest]
  case selfTest =>
    intro s e result job hcal htest hrun hjob hn
    rw [exec_calSliceEnd_test result hcal htest hrun hjob, endSlice_test htest, testSliceOver_next result _ hn]

end Sys2Proof.Machine

/-! Tylane's link layer and the frames that it takes (01 R19 to R21; 13 R396; 15 R458 to R462, R475). -/
namespace Sys2Proof.Machine

/-- A state without the lanes and links either. -/
def offLanes (s : State) : State :=
  { unreported s with lanes := {} }

theorem offLanes_of_unreported {s t : State} (h : unreported t = unreported s) : offLanes t = offLanes s :=
  congrArg (fun u : State => { u with lanes := {} }) h

@[simp] theorem offLanes_raise (code : Nat) (fields : List Fld) (s : State) :
    offLanes (raise code fields s) = offLanes s :=
  offLanes_of_unreported (unreported_raise code fields s)

@[simp] theorem offLanes_countBy (c : Ctr) (n : Nat) (s : State) : offLanes (countBy c n s) = offLanes s :=
  offLanes_of_unreported (unreported_countBy c n s)

@[simp] theorem offLanes_count (c : Ctr) (s : State) : offLanes (count c s) = offLanes s :=
  offLanes_countBy c 1 s

@[simp] theorem offLanes_setLink (k : Nat) (f : TyLink → TyLink) (s : State) :
    offLanes (setLink k f s) = offLanes s := rfl

@[simp] theorem offLanes_setLane (l : Nat) (f : Lane → Lane) (s : State) :
    offLanes (setLane l f s) = offLanes s := rfl

@[simp] theorem offLanes_breakScans (l : Nat) (s : State) : offLanes (breakScans l s) = offLanes s := rfl

@[simp] theorem offLanes_laneTo (l : Nat) (new : LaneStateCode) (cause : Nat) (s : State) :
    offLanes (laneTo l new cause s) = offLanes s := by
  unfold laneTo raiseLane
  dsimp only
  (repeat' split) <;> simp

@[simp] theorem offLanes_loadEqualisation (l : Nat) (s : State) : offLanes (loadEqualisation l s) = offLanes s := by
  unfold loadEqualisation
  dsimp only
  (repeat' split) <;> simp

@[simp] theorem offLanes_laneBringup (l cause : Nat) (s : State) : offLanes (laneBringup l cause s) = offLanes s := by
  simp [laneBringup, loadTrims]

@[simp] theorem offLanes_startTLane (cause l : Nat) (s : State) : offLanes (startTLane cause l s) = offLanes s := by
  unfold startTLane laneOff
  (repeat' split) <;> simp

theorem offLanes_foldl {α : Type} {f : State → α → State} (h : ∀ s a, offLanes (f s a) = offLanes s) (l : List α)
    (s : State) : offLanes (l.foldl f s) = offLanes s := by
  induction l generalizing s with
  | nil => rfl
  | cons a rest ih => exact (ih _).trans (h s a)

@[simp] theorem offLanes_linkStart (k cause : Nat) (s : State) : offLanes (linkStart k cause s) = offLanes s :=
  (offLanes_foldl (fun s _ => offLanes_startTLane cause _ s) _ _).trans (offLanes_setLink k _ s)

@[simp] theorem offLanes_linkSend (k : Nat) (f : ReplayFrame) (s : State) :
    offLanes (linkSend k f s) = offLanes s := by
  simp [linkSend]

@[simp] theorem offLanes_linkDrain (k : Nat) (frames : List ReplayFrame) (s : State) :
    offLanes (linkDrain k frames s) = offLanes s := by
  induction frames generalizing s with
  | nil => rfl
  | cons f rest ih =>
    unfold linkDrain
    split
    · simp [ih]
    · rfl

@[simp] theorem offLanes_ackFrames (k : Nat) (ack : BitVec 16) (s : State) :
    offLanes (ackFrames k ack s) = offLanes s := rfl

@[simp] theorem offLanes_replay (k : Nat) (s : State) : offLanes (replay k s) = offLanes s := by
  unfold replay retrain
  (repeat' split) <;> simp

@[simp] theorem offLanes_ackPart (k : Nat) (h : TyHeader) (s : State) : offLanes (ackPart k h s) = offLanes s := by
  unfold ackPart linkFlush
  dsimp only
  split <;> simp

/-- The link layer writes the lanes and links, and what counting and reporting write. -/
@[simp] theorem offLanes_linkReceive (k : Nat) (h : TyHeader) (s : State) :
    offLanes (linkReceive k h s).1 = offLanes s := by
  unfold linkReceive
  dsimp only
  (repeat' split) <;> simp

@[simp] theorem running_linkReceive (k : Nat) (h : TyHeader) (s : State) :
    (linkReceive k h s).1.running = s.running :=
  congrArg (·.running) (offLanes_linkReceive k h s)

@[simp] theorem tbCfg_linkReceive (k : Nat) (h : TyHeader) (s : State) (i : Nat) :
    (linkReceive k h s).1.tbCfg i = s.tbCfg i :=
  congrArg (·.tbCfg i) (offLanes_linkReceive k h s)

/-- A link that is up is one of the block's. -/
theorem lt_links_of_up {s : State} {k : Nat} (h : (s.tyLink k).state = .up) : k < s.lanes.links.length := by
  by_contra hk
  have hnone : s.lanes.links.getD k {} = {} := List.getD_eq_default _ _ (Nat.le_of_not_lt hk)
  rw [State.tyLink, hnone] at h
  cases h

theorem tyLink_setLink_same {s : State} {k : Nat} (f : TyLink → TyLink) (hk : k < s.lanes.links.length) :
    (setLink k f s).tyLink k = f (s.tyLink k) := by
  simp [State.tyLink, upd, hk]

/-- The next frame in order is accepted: the link expects the one after it and owes its acknowledgement, and what the frame
acknowledges is taken from there (15 R459). -/
theorem linkReceive_inOrder {s : State} {k : Nat} {h : TyHeader} (hup : (s.tyLink k).state = .up)
    (hpins : s.testPort.pinsTaken = false) (hcrc : h.crcOk = true) (hseq : h.seq = (s.tyLink k).rxSeq) :
    ∃ s1, linkReceive k h s = (ackPart k h s1, true) ∧
      s1.tyLink k = { s.tyLink k with rxSeq := (s.tyLink k).rxSeq + 1, ackOwed := true } := by
  refine ⟨countBy (tylaneCtr k 3) h.octets (count (tylaneCtr k 1)
    (setLink k (fun l => { l with rxSeq := l.rxSeq + 1, ackOwed := true }) s)), ?_, ?_⟩
  · simp [linkReceive, hup, hpins, hcrc, hseq]
  · rw [tyLink_countBy, tyLink_count, tyLink_setLink_same _ (lt_links_of_up hup)]

/-- An acknowledgement writes the replay buffer and its count only. -/
theorem tyLink_ackFrames {s : State} {k : Nat} (ack : BitVec 16) (hk : k < s.lanes.links.length) :
    ∃ left n, (ackFrames k ack s).tyLink k = { s.tyLink k with replay := left, replayCount := n } :=
  ⟨_, _, tyLink_setLink_same _ hk⟩

/-- With nothing waiting and no NAK, the acknowledgement part of a frame keeps SEQ and what the link owes its partner (15
R459). -/
theorem ackPart_keeps_rx {s : State} {k : Nat} {h : TyHeader} (hk : k < s.lanes.links.length) (hnak : h.nak = false)
    (hwait : (s.tyLink k).waiting = []) :
    ((ackPart k h s).tyLink k).rxSeq = (s.tyLink k).rxSeq ∧
      ((ackPart k h s).tyLink k).ackOwed = (s.tyLink k).ackOwed := by
  obtain ⟨left, n, hacked⟩ :=
    tyLink_ackFrames (s := setLink k (fun l => { l with buffer := h.buffer }) s) h.ack (by simpa [upd] using hk)
  rw [tyLink_setLink_same _ hk] at hacked
  have hpart : ackPart k h s = ackFrames k h.ack (setLink k (fun l => { l with buffer := h.buffer }) s) := by
    simp [ackPart, hnak, linkFlush, hacked, hwait, linkDrain]
  simp [hpart, hacked]

/-- What an accepted frame does: its work here, or on with one hop more (15 R462). -/
theorem deliverHere_here {s : State} {k : Nat} {h : TyHeader} (p : TyPayload) (here : State → State)
    (hacc : (linkReceive k h s).2 = true) (hdest : h.dest.val = s.node) :
    deliverHere k h p here s = here (linkReceive k h s).1 := by
  simp [deliverHere, hacc, hdest]

theorem deliverHere_onward {s : State} {k : Nat} {h : TyHeader} (p : TyPayload) (here : State → State)
    (hacc : (linkReceive k h s).2 = true) (hdest : h.dest.val ≠ s.node) :
    deliverHere k h p here s =
      tyRoute ⟨0, h.dest.val, p, h.octets, s.now, h.source.val, h.hops + 1, 0⟩ (linkReceive k h s).1 := by
  simp [deliverHere, hacc, hdest]

/-- Settles O36: the link layer's acceptance, then delivery here or onward for each kind of frame. -/
theorem tylaneFramesComplete : Obligations.TylaneFramesComplete := by
  unfold Obligations.TylaneFramesComplete
  refine ⟨?accepted, ?media, ?steward, ?ptp, ?image, ?onward⟩
  case accepted =>
    intro s k h hup hpins hcrc hseq hnak hwait
    obtain ⟨s1, hreceive, hlink⟩ := linkReceive_inOrder hup hpins hcrc hseq
    obtain ⟨hrx, howed⟩ := ackPart_keeps_rx (lt_links_of_up (by rw [hlink, hup])) hnak (by rw [hlink, hwait])
    rw [hreceive]
    exact ⟨rfl, by rw [hrx, hlink], by rw [howed, hlink]⟩
  case media =>
    intro s k h m hacc hdest hrun
    change Host.Outcome.next (deliverHere _ _ _ _ _) = _
    simp [deliverHere_here _ _ hacc hdest, hrun]
  case steward =>
    exact fun s k h m hacc hdest => congrArg Host.Outcome.next (deliverHere_here _ _ hacc hdest)
  case ptp =>
    intro s k h copy hacc hdest hen hrole hdom
    change Host.Outcome.next (deliverHere _ _ _ _ _) = _
    simp [deliverHere_here _ _ hacc hdest, State.arrived, hen, hrole, hdom]
  case image =>
    exact fun s k h o data hacc hdest => congrArg Host.Outcome.next (deliverHere_here _ _ hacc hdest)
  case onward =>
    rintro s k h m n copy o data f hacc hdest rfl
    exact ⟨congrArg Host.Outcome.next (deliverHere_onward _ _ hacc hdest),
      congrArg Host.Outcome.next (deliverHere_onward _ _ hacc hdest),
      congrArg Host.Outcome.next (deliverHere_onward _ _ hacc hdest),
      congrArg Host.Outcome.next (deliverHere_onward _ _ hacc hdest)⟩

end Sys2Proof.Machine

/-! The one fault of the block (02 R36). -/
namespace Sys2Proof.Machine

/-- VDD_CORE_LOW answers a state from 0.60 V on (02 R36). -/
theorem exec_vddCoreLow_defined {mv : Nat} (s : State) (h : 600 ≤ mv) :
    exec (.vddCoreLow mv) s
      = .next (if s.effectiveRail 0 mv < 640 then railLow (s.effectiveRail 0 mv) s else s) :=
  if_neg (Nat.not_lt.mpr h)

/-- Settles O40: every meaning but VDD_CORE_LOW's is a next state as it stands. -/
theorem everyCommandAnswersAState : Obligations.EveryCommandAnswersAState := by
  unfold Obligations.EveryCommandAnswersAState
  refine ⟨?answers, ?undefined, ?noFall⟩
  case answers =>
    intro c s hsupply
    cases c with
    | vddCoreLow mv => exact ⟨_, exec_vddCoreLow_defined s (hsupply mv rfl)⟩
    | _ => exact ⟨_, rfl⟩
  case undefined => exact fun s mv hlow => if_pos hlow
  case noFall =>
    intro s mv hdefined hrail
    rw [exec_vddCoreLow_defined s hdefined, if_neg (Nat.not_lt.mpr hrail)]

end Sys2Proof.Machine

/-! The governor's, the pace monitors' and the Allowance controller's commands (02 R57 to R60; 03 R86 to R88). -/
namespace Sys2Proof.Machine

/-- A host command that opens, in one of its modes and with valid parameters, answers what its effect leaves (07 R201). -/
theorem exec_accepted {i : Instr} {op : Op} {src : Source} {c : Cmd} {s : State} {modes : List Mode} {cs : List Check}
    {eff : State → State} (hrow : hostRow i = some (op, src, c)) (ho : opens op src c s = true)
    (ha : accepts modes cs s = true)
    (hbegin : beginOf op (entryOf op src c s) (opened op src c s)
      = checked (entryOf op src c s) modes cs eff (opened op src c s)) :
    exec i s = .next (eff (opened op src c s)) := by
  rw [exec_hostRow hrow, takeCommand_opens ho, hbegin, checked_opened ha rfl]

/-- A report's effect: it goes to the host address at offset 16, and the command completes (02 R59, 03 R88). -/
def writeReport (e : Entry) (report : State → List Byte) (s : State) : State :=
  finish e stDone [] (hostWrite (prm e.cmd 16 8) (report s) s)

/-- The effect of a PACE_OFFSET_SET: a write of the Ledger word that holds the offset (02 R60). -/
def writePaceOffset (e : Entry) (s : State) : State :=
  let m := prmByte e.cmd 16
  writeWords e [(paceWord m, withBits (s.word (paceWord m)).toNat (8 * (m % 4)) 8 (prmByte e.cmd 17))] s

/-- The configuration that a GOVERNOR_SET carries (02 R57). -/
def governorOf (c : Cmd) : GovernorCfg :=
  { mode := prmByte c 16, point := prmByte c 17, floorMv := prm c 18 2, margin := prmByte c 20 }

/-- A GOVERNOR_SET's parameter checks (02 R57). -/
def governorSetChecks (c : Cmd) : List Check :=
  [within c 16 1 0 2, within c 17 1 0 2,
   need 18 (decide (650 ≤ prm c 18 2) && decide (prm c 18 2 ≤ 800) && decide (prm c 18 2 % 5 = 0)), within c 20 1 16 128,
   reservedBytes c 21 64, need 18 (decide (prm c 18 2 ≤ pointMv (prmByte c 17)))]

/-- The state with a governor configuration in the running settings. -/
def withGovernor (g : GovernorCfg) (s : State) : State :=
  { s with cfg := { s.cfg with governor := g } }

/-- The voltage that the configuration needs before a GOVERNOR_SET may complete (02 R58). -/
def State.neededMv (s : State) : Nat :=
  if s.cfg.governor.mode = 0 then s.pointVoltage
  else if s.cfg.governor.mode = 1 then s.ratedTarget
  else min (max s.gov.targetMv s.cfg.governor.floorMv) s.pointVoltage

/-- What a GOVERNOR_SET does once its configuration is in the running settings: it begins a raise and waits for it, or it
completes at the present voltage (02 R58). -/
def raiseOrComplete (e : Entry) (s : State) : State :=
  if s.gov.targetMv < s.neededMv then
    stepTarget (toward s.gov.targetMv s.neededMv) { s with gov := { s.gov with setEntry := some e.id } }
  else
    finish e stDone [] (stepTarget (min s.gov.targetMv s.pointVoltage) { s with gov := { s.gov with fault := false } })

/-- A target that covers the configuration completes the command (02 R58). -/
theorem raiseOrComplete_covered {e : Entry} {s : State} (h : s.neededMv ≤ s.gov.targetMv) :
    raiseOrComplete e s = finish e stDone []
      (stepTarget (min s.gov.targetMv s.pointVoltage) { s with gov := { s.gov with fault := false } }) :=
  if_neg (Nat.not_lt.mpr h)

/-- A target below the need is raised by a step, and the command waits (02 R58). -/
theorem raiseOrComplete_short {e : Entry} {s : State} (h : s.gov.targetMv < s.neededMv) :
    raiseOrComplete e s =
      stepTarget (toward s.gov.targetMv s.neededMv) { s with gov := { s.gov with setEntry := some e.id } } :=
  if_pos h

/-- What a GOVERNOR_SET does behind its checks (02 R57, R58). -/
def governorSetEffect (e : Entry) (s : State) : State :=
  if !(List.range 64).all fun n => decide (s.coinsOn n ≤ ratedCoins (prmByte e.cmd 17)) then finish e stNoResource [] s
  else if !s.gov.started then finish e stDone [] (withGovernor (governorOf e.cmd) s)
  else raiseOrComplete e (withGovernor (governorOf e.cmd) s)

/-- GOVERNOR_SET of a started governor whose point's coins cover every engine (02 R57, R58). -/
theorem exec_governorSet {src : Source} {c : Cmd} {s : State} (ho : opens .governorSet src c s = true)
    (ha : accepts [.standby, .service, .drain] (governorSetChecks c) s = true)
    (hcoins : ((List.range 64).all fun n => decide (s.coinsOn n ≤ ratedCoins (prmByte c 17))) = true)
    (hstarted : s.gov.started = true) :
    exec (.governorSet src c) s = .next (raiseOrComplete (entryOf .governorSet src c s)
      (withGovernor (governorOf c) (opened .governorSet src c s))) := by
  rw [exec_accepted (eff := governorSetEffect _) rfl ho ha rfl]
  simp [governorSetEffect, hcoins, hstarted]

theorem neededMv_full {s : State} (h : s.cfg.governor.mode = 0) : s.neededMv = s.pointVoltage :=
  if_pos h

theorem neededMv_rated {s : State} (h : s.cfg.governor.mode = 1) : s.neededMv = s.ratedTarget := by
  simp [State.neededMv, h]

theorem neededMv_tracking {s : State} (hfull : s.cfg.governor.mode ≠ 0) (hrated : s.cfg.governor.mode ≠ 1) :
    s.neededMv = min (max s.gov.targetMv s.cfg.governor.floorMv) s.pointVoltage := by
  simp [State.neededMv, hfull, hrated]

/-- An ALLOWANCE_SET's parameter checks, with RESTORE and without (03 R86). -/
def allowanceSetChecks (c : Cmd) : List Check :=
  let restore := decide (prmByte c 18 % 2 = 1)
  [need 16 (restore || decide (prmByte c 16 ≤ 7)), need 17 (restore || decide (prmByte c 17 ≤ 3)),
   reservedBits c 18 1 1, reservedBytes c 19 20, reservedBytes c 28 64,
   need 20 (restore || decide (prm c 20 4 ≤ 256 * ratedCapacity (prmByte c 17))),
   need 24 (restore || background (prmByte c 16) || decide (prm c 24 4 = 0)),
   need 24 (restore || decide (prm c 24 4 ≤ prm c 20 4))]

/-- RESTORE leaves the checks of the reserved bits and bytes only. -/
theorem badOffset_allowanceSetChecks_restore {c : Cmd} (h : prmByte c 18 % 2 = 1) :
    badOffset (allowanceSetChecks c)
      = badOffset [reservedBits c 18 1 1, reservedBytes c 19 20, reservedBytes c 28 64] := by
  simp [allowanceSetChecks, badOffset, List.findSome?_cons, need, h]

/-- A byte with no lower bound. -/
theorem within_byte_le (c : Cmd) (o hi : Nat) : within c o 1 0 hi = need o (decide (prmByte c o ≤ hi)) :=
  congrArg (need o) (Bool.true_and _)

/-- Without RESTORE every field is checked. -/
theorem allowanceSetChecks_single {c : Cmd} (h : prmByte c 18 % 2 = 0) :
    allowanceSetChecks c
      = [within c 16 1 0 7, within c 17 1 0 3, reservedBits c 18 1 1, reservedBytes c 19 20,
         reservedBytes c 28 64, need 20 (decide (prm c 20 4 ≤ 256 * ratedCapacity (prmByte c 17))),
         need 24 (background (prmByte c 16) || decide (prm c 24 4 = 0)), need 24 (decide (prm c 24 4 ≤ prm c 20 4))] := by
  simp [allowanceSetChecks, within_byte_le, h]

/-- New allowances in the running settings, which the next boundary brings into force for the command (03 R87). -/
def awaitAllowances (e : Entry) (new : List AllowanceCfg) (s : State) : State :=
  { s with cfg := { s.cfg with allowances := new },
           alw := { s.alw with setEntries := s.alw.setEntries ++ [e.id] } }

/-- The least floor that SCRUB may have on a resource: its default (03 R85). -/
def scrubLeast (res : Nat) : Nat :=
  (defaultAllowances.getD (balIndex 4 res) { allow := 0, floor := 0 }).floor

@[simp] theorem scrubLeast_vault : scrubLeast 0 = 64 := rfl

@[simp] theorem scrubLeast_till : scrubLeast 1 = 2 := rfl

/-- The command asks for a SCRUB floor on VAULT or TILL below its default (03 R85, R87). -/
def belowScrubFloor (c : Cmd) : Bool :=
  !decide (prmByte c 18 % 2 = 1) && decide (prmByte c 16 = 4) && decide (prmByte c 17 ≤ 1)
    && decide (prm c 24 4 < scrubLeast (prmByte c 17))

theorem belowScrubFloor_restore {c : Cmd} (h : prmByte c 18 % 2 = 1) : belowScrubFloor c = false := by
  simp [belowScrubFloor, h]

theorem belowScrubFloor_kept {c : Cmd} (hvault : prmByte c 16 = 4 → prmByte c 17 = 0 → 64 ≤ prm c 24 4)
    (htill : prmByte c 16 = 4 → prmByte c 17 = 1 → 2 ≤ prm c 24 4) : belowScrubFloor c = false := by
  have hfloor : prmByte c 16 = 4 → prmByte c 17 ≤ 1 → scrubLeast (prmByte c 17) ≤ prm c 24 4 := by
    intro hscrub hres
    obtain h | h : prmByte c 17 = 0 ∨ prmByte c 17 = 1 := by omega
    · simpa [h] using hvault hscrub h
    · simpa [h] using htill hscrub h
  simp only [belowScrubFloor, Bool.and_eq_false_imp, Bool.and_eq_true, decide_eq_true_eq, decide_eq_false_iff_not,
    Nat.not_lt]
  rintro ⟨⟨_, hscrub⟩, hres⟩
  exact hfloor hscrub hres

/-- What an ALLOWANCE_SET does behind its checks with the allowances that it asks for (03 R86, R87). -/
def allowanceSetEffect (e : Entry) (s : State) : State :=
  let restore := decide (prmByte e.cmd 18 % 2 = 1)
  let new := if restore then defaultAllowances
    else s.cfg.allowances.set (balIndex (prmByte e.cmd 16) (prmByte e.cmd 17)) ⟨prm e.cmd 20 4, prm e.cmd 24 4⟩
  if belowScrubFloor e.cmd then finish e stDenied [] s
  else if !(List.range 4).all (sumFits new) || !mediaFits new (s.admitted.map (·.coins)) then
    finish e stNoResource [] s
  else awaitAllowances e new s

/-- ALLOWANCE_SET of one class and resource (03 R86, R87). -/
theorem exec_allowanceSet_single {src : Source} {c : Cmd} {s : State} {new : List AllowanceCfg}
    (ho : opens .allowanceSet src c s = true) (ha : accepts runModes (allowanceSetChecks c) s = true)
    (hsingle : prmByte c 18 % 2 = 0)
    (hnew : new = s.cfg.allowances.set (balIndex (prmByte c 16) (prmByte c 17)) ⟨prm c 20 4, prm c 24 4⟩)
    (hvault : prmByte c 16 = 4 → prmByte c 17 = 0 → 64 ≤ prm c 24 4)
    (htill : prmByte c 16 = 4 → prmByte c 17 = 1 → 2 ≤ prm c 24 4)
    (hsum : (List.range 4).all (sumFits new) = true) (hmedia : mediaFits new (s.admitted.map (·.coins)) = true) :
    exec (.allowanceSet src c) s
      = .next (awaitAllowances (entryOf .allowanceSet src c s) new (opened .allowanceSet src c s)) := by
  subst hnew
  rw [exec_accepted (eff := allowanceSetEffect _) rfl ho ha rfl]
  simp [allowanceSetEffect, hsingle, belowScrubFloor_kept hvault htill, hsum, hmedia]

/-- ALLOWANCE_SET with RESTORE (03 R86). -/
theorem exec_allowanceSet_restore {src : Source} {c : Cmd} {s : State}
    (ho : opens .allowanceSet src c s = true) (ha : accepts runModes (allowanceSetChecks c) s = true)
    (hrestore : prmByte c 18 % 2 = 1) (hmedia : mediaFits defaultAllowances (s.admitted.map (·.coins)) = true) :
    exec (.allowanceSet src c) s = .next (awaitAllowances (entryOf .allowanceSet src c s) defaultAllowances
      (opened .allowanceSet src c s)) := by
  have hsum : (List.range 4).all (sumFits defaultAllowances) = true := by decide
  rw [exec_accepted (eff := allowanceSetEffect _) rfl ho ha rfl]
  simp [allowanceSetEffect, hrestore, belowScrubFloor_restore hrestore, hsum, hmedia]

/-- Settles O4: each command is what its effect leaves; a GOVERNOR_SET compares the target with the voltage needed. -/
theorem governorAndAllowanceCommandsComplete : Obligations.GovernorAndAllowanceCommandsComplete := by
  unfold Obligations.GovernorAndAllowanceCommandsComplete
  refine ⟨?covered, ?raised, ?paceReport, ?paceOffset, ?single, ?restore, ?allowanceReport⟩
  case covered =>
    rintro src c s g ho ha hcoins hstarted rfl hcover
    rw [exec_governorSet ho ha hcoins hstarted, raiseOrComplete_covered]
    · rfl
    · split at hcover
      next hfull => exact le_of_eq_of_le (neededMv_full hfull) hcover
      next hrated => exact le_of_eq_of_le (neededMv_rated hrated) hcover
      next hfull hrated =>
        exact le_of_eq_of_le (neededMv_tracking hfull hrated) ((min_le_left _ _).trans (max_le le_rfl hcover))
  case raised =>
    rintro src c s g ho ha hcoins hstarted rfl hfull hlow
    have hneeded : (withGovernor (governorOf c) (opened .governorSet src c s)).neededMv = pointMv (prmByte c 17) :=
      neededMv_full hfull
    rw [exec_governorSet ho ha hcoins hstarted, raiseOrComplete_short (hneeded ▸ hlow), hneeded, governorOf, hfull]
    rfl
  case paceReport => exact fun src c s ho ha => exec_accepted (eff := writeReport _ paceReport) rfl ho ha rfl
  case paceOffset => exact fun src c s ho ha => exec_accepted (eff := writePaceOffset _) rfl ho ha rfl
  case single =>
    intro src c s new ho ha hsingle hnew hvault htill hsum hmedia
    rw [← allowanceSetChecks_single hsingle] at ha
    exact exec_allowanceSet_single ho ha hsingle hnew hvault htill hsum hmedia
  case restore =>
    intro src c s ho ha hrestore hmedia
    rw [accepts, ← badOffset_allowanceSetChecks_restore hrestore] at ha
    exact exec_allowanceSet_restore ho ha hrestore hmedia
  case allowanceReport =>
    exact fun src c s ho ha => exec_accepted (eff := writeReport _ allowanceReport) rfl ho ha rfl

end Sys2Proof.Machine

/-! The period boundary (03 R71 to R73) and the balances of the controller (03 R77). -/
namespace Sys2Proof.Machine

/-! What the end of a period only counts and reports. -/

theorem unreported_foldl {α : Type} {f : State → α → State} (h : ∀ s a, unreported (f s a) = unreported s) (l : List α)
    (s : State) : unreported (l.foldl f s) = unreported s := by
  induction l generalizing s with
  | nil => rfl
  | cons a rest ih => exact (ih _).trans (h s a)

@[simp] theorem unreported_countPortErrors (p : Nat) (x : PortErrors) (s : State) :
    unreported (countPortErrors p x s) = unreported s := by
  unfold countPortErrors
  dsimp only
  (repeat' split) <;> simp

@[simp] theorem unreported_countLaneErrors (i : Nat) (x : Nat × Nat) (s : State) :
    unreported (countLaneErrors i x s) = unreported s := by
  unfold countLaneErrors
  split <;> simp

@[simp] theorem unreported_countFindings (x : PeriodFindings) (s : State) :
    unreported (countFindings x s) = unreported s := by
  unfold countFindings
  dsimp only
  rw [unreported_foldl fun s _ => unreported_countLaneErrors _ _ s,
    unreported_foldl fun s _ => unreported_countPortErrors _ _ s, unreported_countBy, unreported_countBy]

@[simp] theorem unreported_raiseShort (code cls res limit : Nat) (s : State) :
    unreported (raiseShort code cls res limit s) = unreported s := by
  unfold raiseShort
  dsimp only
  split <;> simp

@[simp] theorem unreported_endEntry (s : State) (i : Nat) : unreported (endEntry s i) = unreported s := by
  unfold endEntry
  dsimp only
  (repeat' split) <;> simp

theorem nextBoundary_unreported (s : State) : (unreported s).nextBoundary = s.nextBoundary := rfl

/-- The findings of a period do not move its boundary: they write nothing that State.nextBoundary reads. -/
@[simp] theorem nextBoundary_countFindings (x : PeriodFindings) (s : State) :
    (countFindings x s).nextBoundary = s.nextBoundary := by
  rw [← nextBoundary_unreported, unreported_countFindings, nextBoundary_unreported]

@[simp] theorem now_countFindings (x : PeriodFindings) (s : State) : (countFindings x s).now = s.now :=
  congrArg (·.now) (unreported_countFindings x s)

@[simp] theorem now_foldl_endEntry (l : List Nat) (s : State) : (l.foldl endEntry s).now = s.now :=
  congrArg (·.now) (unreported_foldl unreported_endEntry l s)

/-! What a boundary writes of the held part: the period and its instant, at a frame boundary the frame too, and the mode
register where a forced MODE_SET goes on (05 R152). -/

theorem held_settleForce (s : State) : ∃ m, held (settleForce s) = { held s with mode := m } := by
  unfold settleForce
  (repeat' split)
  · exact ⟨s.mode, rfl⟩
  · exact ⟨s.mode, rfl⟩
  · exact ⟨s.mode, held_closeAll s⟩
  · exact ⟨_, rfl⟩
  · exact ⟨s.mode, held_finish _ _ _ s⟩

/-- A frame boundary counts one frame (03 R73). -/
theorem held_frameBoundary (s : State) :
    ∃ m, held (frameBoundary s) = { held s with mode := m, frame := s.alw.frame + 1 } := by
  obtain ⟨m, hm⟩ := held_settleForce (closeDue (moveBoundary (frameStart s)))
  refine ⟨m, ?_⟩
  rw [frameBoundary, held_frameWork, held_discardOld, hm, held_closeDue, held_moveBoundary, held_frameStart]

/-- The old period ends and the new one begins at the instant due (03 R71). -/
theorem held_beginPeriod_ended (due : Nat) (s : State) :
    held (beginPeriod ((List.range 32).foldl endEntry (advance due s)))
      = { held s with period := s.alw.period + 1, boundary := max s.now due } := by
  have hended : held ((List.range 32).foldl endEntry (advance due s)) = held s :=
    (held_foldl_aux _ _ held_endEntry _).trans (held_advance due s)
  have hnow : ((List.range 32).foldl endEntry (advance due s)).now = max s.now due :=
    now_foldl_endEntry _ (advance due s)
  generalize (List.range 32).foldl endEntry (advance due s) = ended at hended hnow ⊢
  have hperiod : ended.alw.period = s.alw.period := congrArg Held.period hended
  rw [held_beginPeriod, hended, hperiod, hnow]

/-- A boundary counts one period, at a frame boundary one frame, and falls at the instant of State.nextBoundary (03 R71,
R73). -/
theorem held_periodBoundary (gate : List (BitVec 16)) (s : State) :
    ∃ m, held (periodBoundary gate s) = { held s with
      mode := m, period := s.alw.period + 1, frame := s.alw.frame + bit s.nextBoundary.2,
      boundary := max s.now s.nextBoundary.1 } := by
  unfold periodBoundary
  dsimp only
  rw [held_grantAll, held_beginIterations, held_serveHost]
  have hbegun := held_beginPeriod_ended s.nextBoundary.1 s
  generalize beginPeriod _ = begun at hbegun ⊢
  have hsettled : held (governorPeriod (settleAllowances (refillAll (calPeriod (storeGates gate begun))))) = held begun := by
    simp
  generalize governorPeriod _ = settled at hsettled ⊢
  have hstart := hsettled.trans hbegun
  have hframe : settled.alw.frame = s.alw.frame := congrArg Held.frame hstart
  cases s.nextBoundary.2 with
  | true =>
    obtain ⟨m, hm⟩ := held_frameBoundary settled
    refine ⟨m, ?_⟩
    rw [if_pos rfl, hm, hstart, hframe, bit, if_pos rfl]
  | false =>
    refine ⟨s.mode, ?_⟩
    rw [if_neg Bool.false_ne_true, held_foldl_aux _ _ held_refillLegs, hstart]
    rfl

/-- PERIOD_BOUNDARY once the controller runs: what the period has found is counted before the boundary. -/
theorem exec_periodBoundary_running {s : State} (found : PeriodFindings) (hrun : s.alw.running = true) :
    exec (.periodBoundary found) s = .next (periodBoundary found.gate (countFindings found s)) := by
  change execPeriodBoundary found s = _
  simp [execPeriodBoundary, hrun]

/-- Settles O28: the findings leave the boundary where it was, and the boundary writes what `held_periodBoundary` says. -/
theorem periodBoundaryComplete : Obligations.PeriodBoundaryComplete := by
  unfold Obligations.PeriodBoundaryComplete
  intro s found due frame hrun hnext
  refine ⟨_, exec_periodBoundary_running found hrun, ?_⟩
  obtain ⟨m, hheld⟩ := held_periodBoundary found.gate (countFindings found s)
  have hfound : held (countFindings found s) = held s := held_countFindings found s
  have hperiod : (countFindings found s).alw.period = s.alw.period := congrArg Held.period hfound
  have hframe : (countFindings found s).alw.frame = s.alw.frame := congrArg Held.frame hfound
  rw [hfound, hperiod, hframe, nextBoundary_countFindings, now_countFindings, hnext] at hheld
  exact ⟨congrArg Held.period hheld, congrArg Held.frame hheld, congrArg Held.boundary hheld,
    congrArg Held.bkp hheld, congrArg Held.cause hheld⟩

/-! The balances: how one is read, what a refill and a grant make of it (03 R77). -/

theorem balance_of_getElem? {s : State} {cls res : Nat} {b : Balance}
    (h : s.alw.balances[4 * cls + res]? = some b) : s.balance cls res = b := by
  simp [State.balance, balIndex, h]

/-- A balance stands at its class's row of four (03 Table 3-6). -/
theorem class_of_balIndex {cls res : Nat} (hres : res < 4) : (4 * cls + res) / 4 = cls := by
  omega

/-- The allowances that come into force at a boundary (03 R80, R86). -/
def State.nextForce (s : State) : List AllowanceCfg :=
  if s.running then s.cfg.allowances else defaultAllowances

/-- The refill of a balance is its own, with its own allowance. -/
theorem balance_refillAll {s : State} {cls res : Nat} {b : Balance} (h : s.alw.balances[4 * cls + res]? = some b) :
    (refillAll s).balance cls res
      = refillBalance (4 * cls + res) (s.nextForce.getD (4 * cls + res) { allow := 0, floor := 0 }) b := by
  refine balance_of_getElem? ?_
  simp [refillAll, State.nextForce, h]

@[simp] theorem bump_alw (c : Ctr) (n : Nat) (s : State) : (bump c n s).alw = s.alw := by
  unfold bump
  split <;> rfl

/-- What a grant of `n` units takes of its class's balance. -/
def charged (cls n : Nat) (b : Balance) : Balance :=
  { b with b := b.b - 256 * n, s := b.s + 256 * n, c := if background cls then b.c - 256 * n else b.c }

/-- A grant charges the one balance of its class and resource. -/
theorem balances_chargeGrant (cls res n : Nat) (s : State) :
    (chargeGrant cls res n s).alw.balances = s.alw.balances.modify (4 * cls + res) (charged cls n) := by
  simp only [chargeGrant, bump_alw]
  rfl

theorem balance_chargeGrant {s : State} {cls res : Nat} {b : Balance} (n : Nat)
    (h : s.alw.balances[4 * cls + res]? = some b) : (chargeGrant cls res n s).balance cls res = charged cls n b := by
  refine balance_of_getElem? ?_
  simp [balances_chargeGrant, h]

/-- Settles O59: the refill and the charge of one balance; a grant modifies no other place of the list. -/
theorem refillAndCharge : Obligations.RefillAndCharge := by
  unfold Obligations.RefillAndCharge
  refine ⟨?refill, ?charge⟩
  case refill =>
    intro s cls res b _ hres hb
    refine ⟨_, rfl, ?_⟩
    rw [balance_refillAll hb, refillBalance, class_of_balIndex hres]
    exact ⟨rfl, rfl, rfl⟩
  case charge =>
    intro s cls res n b _ _ hb
    rw [balance_chargeGrant n hb]
    refine ⟨rfl, rfl, rfl, fun i hi => ?_⟩
    rw [balances_chargeGrant, List.getElem?_modify_ne _ _ hi.symm]

end Sys2Proof.Machine

/-! What every command keeps of the registers that outlive a reset: BKP, RESET_CAUSE and the straps (04 R108, R115, R121,
R122). -/
namespace Sys2Proof.Machine

/-- A host command writes none of them: a reset that it asks for leaves them alone (04 Table 4-3). -/
theorem steady_exec_hostRow {i : Instr} {op : Op} {src : Source} {c : Cmd} {s t : State}
    (hrow : hostRow i = some (op, src, c)) (h : exec i s = .next t) : Steady (held s) (held t) := by
  rw [exec_hostRow hrow] at h
  cases h
  exact steady_takeCommand _ _ _ _ _ (steady_beginOf op) s

/-- The commands that write BKP, RESET_CAUSE or the straps (04 R108, R114, R121, R122; 06 R162). -/
def writesKept : Instr → Bool
  | .registerWrite _ _ => true
  | .resetCauseWrite _ => true
  | .optionLoadingDone _ _ => true
  | .wdogRunClear => true
  | _ => false

/-- Every other command keeps them. -/
theorem steady_exec {c : Instr} {s t : State} (hc : writesKept c = false) (h : exec c s = .next t) :
    Steady (held s) (held t) := by
  cases hrow : hostRow c with
  | some row => exact steady_exec_hostRow hrow h
  | none =>
    cases c with
    | commandBegin => exact steady_execCommandBegin s t h
    | cqEntryTake => exact steady_execCqEntryTake s t h
    | dmbTake => exact steady_execDmbTake s t h
    | mgmtMbTake => exact steady_execMgmtMbTake s t h
    | retryEntryLapse id => exact steady_execRetryEntryLapse id s t h
    | resetCtrlCold w => exact steady_execResetCtrlCold w s t h
    | resetCtrlWarm w => exact steady_execResetCtrlWarm w s t h
    | resetCtrlBlock w => exact steady_execResetCtrlBlock w s t h
    | ledgerUserWrite word value => exact steady_execLedgerUserWrite word value s t h
    | ledgerWriteComplete verified => exact steady_execLedgerWriteComplete verified s t h
    | rmemWrite offset data => exact steady_execRmemWrite offset data s t h
    | diagWindowRead offset length uncorrectable => exact steady_execDiagWindowRead offset length uncorrectable s t h
    | queueEnable q cfg => exact steady_execQueueEnable q cfg s t h
    | queueDisable q cfg => exact steady_execQueueDisable q cfg s t h
    | cqTailDoorbell q w => exact steady_execCqTailDoorbell q w s t h
    | ccHeadDoorbell q w => exact steady_execCcHeadDoorbell q w s t h
    | eqHeadDoorbell w => exact steady_execEqHeadDoorbell w s t h
    | cmdCancel w => exact steady_execCmdCancel w s t h
    | intStatusClear w => exact steady_execIntStatusClear w s t h
    | intTest w => exact steady_execIntTest w s t h
    | dmbCmdWrite offset data => exact steady_execDmbCmdWrite offset data s t h
    | dmbGo => exact steady_execDmbGo s t h
    | dmbDoneClear => exact steady_execDmbDoneClear s t h
    | coalesceTimeout vector => exact steady_execCoalesceTimeout vector s t h
    | hostDmaReadFail target kind => exact steady_execHostDmaReadFail target kind s t h
    | functionLevelReset => exact steady_execFunctionLevelReset s t h
    | pciePmStateChange d3hot => exact steady_execPciePmStateChange d3hot s t h
    | pcieLinkDown => exact steady_execPcieLinkDown s t h
    | pcieLinkUp => exact steady_execPcieLinkUp s t h
    | mbCmdWrite tr => exact steady_execMbCmdWrite tr s t h
    | mbCtrlGo tr => exact steady_execMbCtrlGo tr s t h
    | mbCmplRead bytes => exact steady_execMbCmplRead bytes s t h
    | mgmtBusTimeout => exact steady_execMgmtBusTimeout s t h
    | entdaa address => exact steady_execEntdaa address s t h
    | setdasa address => exact steady_execSetdasa address s t h
    | rstdaa => exact steady_execRstdaa s t h
    | getpid => exact steady_execGetpid s t h
    | getbcr => exact steady_execGetbcr s t h
    | getdcr => exact steady_execGetdcr s t h
    | getstatus => exact steady_execGetstatus s t h
    | por rail => exact steady_execPor rail s t h
    | resetNAssert lowNs => exact steady_execResetNAssert lowNs s t h
    | perstNAssert => exact steady_execPerstNAssert s t h
    | watchdogExpiry => exact steady_execWatchdogExpiry s t h
    | resetStretchEnd rails => exact steady_execResetStretchEnd rails s t h
    | islandPllLock island => exact steady_execIslandPllLock island s t h
    | resetWaveComplete => exact steady_execResetWaveComplete s t h
    | resetOutRelease => exact steady_execResetOutRelease s t h
    | bootComplete => exact steady_execBootComplete s t h
    | tylaneBootTimeout => exact steady_execTylaneBootTimeout s t h
    | stewardLockstepMismatch => exact steady_execStewardLockstepMismatch s t h
    | stewardSramUe => exact steady_execStewardSramUe s t h
    | rhoperFatalAssertion => exact steady_execRhoperFatalAssertion s t h
    | powerWarnAssert lowNs => exact steady_execPowerWarnAssert lowNs s t h
    | powerWarnRelease => exact steady_execPowerWarnRelease s t h
    | remoteResetRequest node cold => exact steady_execRemoteResetRequest node cold s t h
    | blockIdle block => exact steady_execBlockIdle block s t h
    | blockResetTimeout block discarded => exact steady_execBlockResetTimeout block discarded s t h
    | blockResetRelease block => exact steady_execBlockResetRelease block s t h
    | periodBoundary found => exact steady_execPeriodBoundary found s t h
    | governorStepDown => exact steady_execGovernorStepDown s t h
    | avsCheck acknowledged railMv => exact steady_execAvsCheck acknowledged railMv s t h
    | vddCoreLow railMv => exact steady_execVddCoreLow railMv s t h
    | allowanceRequest cls res size => exact steady_execAllowanceRequest cls res size s t h
    | allowanceGrant res corrected => exact steady_execAllowanceGrant res corrected s t h
    | flashOperationComplete verified => exact steady_execFlashOperationComplete verified s t h
    | scrubOverdue vault => exact steady_execScrubOverdue vault s t h
    | calForcedTake => exact steady_execCalForcedTake s t h
    | calSliceEnd engine result => exact steady_execCalSliceEnd engine result s t h
    | taskEnd engine report => exact steady_execTaskEnd engine report s t h
    | taskPreempt engine => exact steady_execTaskPreempt engine s t h
    | handshakeStall engine => exact steady_execHandshakeStall engine s t h
    | workingMemoryUe engine => exact steady_execWorkingMemoryUe engine s t h
    | suspendedPlacementRetry => exact steady_execSuspendedPlacementRetry s t h
    | tillUncorrectableError row address => exact steady_execTillUncorrectableError row address s t h
    | vaultUncorrectableError row address repairLeft => exact steady_execVaultUncorrectableError row address repairLeft s t h
    | faultLogFlush => exact steady_execFaultLogFlush s t h
    | portFrameReceived port frame => exact steady_execPortFrameReceived port frame s t h
    | stationSightingReport key => exact steady_execStationSightingReport key s t h
    | stationAgeOut key => exact steady_execStationAgeOut key s t h
    | tellerWriteRequest req => exact steady_execTellerWriteRequest req s t h
    | tellerCommit => exact steady_execTellerCommit s t h
    | stationEntryApply update => exact steady_execStationEntryApply update s t h
    | latchSilenceTimeout handle => exact steady_execLatchSilenceTimeout handle s t h
    | jbTargetUpdate channel leg => exact steady_execJbTargetUpdate channel leg s t h
    | rtcpReportTimer channel leg => exact steady_execRtcpReportTimer channel leg s t h
    | blockLockLoss port midFrame => exact steady_execBlockLockLoss port midFrame s t h
    | portLinkUpHold port => exact steady_execPortLinkUpHold port s t h
    | portLinkDownHold port => exact steady_execPortLinkDownHold port s t h
    | launchGrant port => exact steady_execLaunchGrant port s t h
    | ppsOutEdge pin => exact steady_execPpsOutEdge pin s t h
    | ppsInEdge pin falling widthNs => exact steady_execPpsInEdge pin falling widthNs s t h
    | ppsTimeout tb => exact steady_execPpsTimeout tb s t h
    | ptpSourceTimeout tb => exact steady_execPtpSourceTimeout tb s t h
    | ptpFwdTimeout port => exact steady_execPtpFwdTimeout port s t h
    | tbrefStartupTimeout => exact steady_execTbrefStartupTimeout s t h
    | tbrefLoss => exact steady_execTbrefLoss s t h
    | tbrefRestore => exact steady_execTbrefRestore s t h
    | laneSignalDetect lane => exact steady_execLaneSignalDetect lane s t h
    | mLaneBlockLock port => exact steady_execMLaneBlockLock port s t h
    | mLanePolarityCheck port inverted => exact steady_execMLanePolarityCheck port inverted s t h
    | tLaneCommaAlign lane inverted laneId => exact steady_execTLaneCommaAlign lane inverted laneId s t h
    | tLaneAlignLoss lane codeErrors disparityErrors => exact steady_execTLaneAlignLoss lane codeErrors disparityErrors s t h
    | laneCdrLoss lane => exact steady_execLaneCdrLoss lane s t h
    | laneFaultRetry link => exact steady_execLaneFaultRetry link s t h
    | laneErrorWindow lane => exact steady_execLaneErrorWindow lane s t h
    | eyeScanPointDone lane errors => exact steady_execEyeScanPointDone lane errors s t h
    | prbsLockLoss lane bits errors => exact steady_execPrbsLockLoss lane bits errors s t h
    | tylaneLinkBringup link nodeLink => exact steady_execTylaneLinkBringup link nodeLink s t h
    | linkHalfTimeout link nodeLink => exact steady_execLinkHalfTimeout link nodeLink s t h
    | wiringRetry link => exact steady_execWiringRetry link s t h
    | tylaneMediaFrame link hdr m => exact steady_execTylaneMediaFrame link hdr m s t h
    | tylaneStewardMessage link hdr m => exact steady_execTylaneStewardMessage link hdr m s t h
    | tylanePtpCopy link hdr copy => exact steady_execTylanePtpCopy link hdr copy s t h
    | tylaneAck link hdr => exact steady_execTylaneAck link hdr s t h
    | tylaneDelayProbe link t1 t2 t3 t4 => exact steady_execTylaneDelayProbe link t1 t2 t3 t4 s t h
    | tylaneBootImage link hdr offset data => exact steady_execTylaneBootImage link hdr offset data s t h
    | tylaneReplayTimeout link => exact steady_execTylaneReplayTimeout link s t h
    | heartbeatSend => exact steady_execHeartbeatSend s t h
    | nodeUnheard node => exact steady_execNodeUnheard node s t h
    | viewPublish => exact steady_execViewPublish s t h
    | migrationCopyAck channel => exact steady_execMigrationCopyAck channel s t h
    | drainMoveStart => exact steady_execDrainMoveStart s t h
    | autoStandbyEntry => exact steady_execAutoStandbyEntry s t h
    | trialWatchdogExpiry => exact steady_execTrialWatchdogExpiry s t h
    | thermalSample sample => exact steady_execThermalSample sample s t h
    | thermalWarnClear => exact steady_execThermalWarnClear s t h
    | uartRxByte b => exact steady_execUartRxByte b s t h
    | extest => exact steady_execExtest s t h
    | idcode => exact steady_execIdcode s t h
    | samplePreload => exact steady_execSamplePreload s t h
    | clamp => exact steady_execClamp s t h
    | highz => exact steady_execHighz s t h
    | extestPulse => exact steady_execExtestPulse s t h
    | extestTrain => exact steady_execExtestTrain s t h
    | bypass => exact steady_execBypass s t h
    | trstNAssert => exact steady_execTrstNAssert s t h
    | perstNDeassert => exact steady_execPerstNDeassert s t h
    | rhoperStart => exact steady_execRhoperStart s t h
    | modeTransitionComplete => exact steady_execModeTransitionComplete s t h
    | hostDmaReadComplete target data => exact steady_execHostDmaReadComplete target data s t h
    | localFault port on => exact steady_execLocalFault port on s t h
    | remoteFault port on => exact steady_execRemoteFault port on s t h
    | hiBer port on => exact steady_execHiBer port on s t h
    | prbsCheckerLock lane => exact steady_execPrbsCheckerLock lane s t h
    | errorInjectInterval lane => exact steady_execErrorInjectInterval lane s t h
    | tbAdjustTimeout tb => exact steady_execTbAdjustTimeout tb s t h
    | clusterLeaveResetWait => exact steady_execClusterLeaveResetWait s t h
    | ptpMessageSend tb event => exact steady_execPtpMessageSend tb event s t h
    | vaultRowRepairComplete row => exact steady_execVaultRowRepairComplete row s t h
    | registerWrite offset data => cases hc
    | resetCauseWrite w => cases hc
    | optionLoadingDone straps fuseError => cases hc
    | wdogRunClear => cases hc
    | _ => cases hrow

theorem writesKept_cases {c : Instr} (hc : writesKept c = true) :
    (∃ offset data, c = .registerWrite offset data) ∨ (∃ w, c = .resetCauseWrite w) ∨
      (∃ straps fuseError, c = .optionLoadingDone straps fuseError) ∨ c = .wdogRunClear := by
  cases c with
  | registerWrite offset data => exact .inl ⟨offset, data, rfl⟩
  | resetCauseWrite w => exact .inr (.inl ⟨w, rfl⟩)
  | optionLoadingDone straps fuseError => exact .inr (.inr (.inl ⟨straps, fuseError, rfl⟩))
  | wdogRunClear => exact .inr (.inr (.inr rfl))
  | _ => cases hc

/-- Beside a register write and the end of option loading no command writes BKP or the straps: a write of RESET_CAUSE and
WDOG_RUN's clearing write RESET_CAUSE alone. -/
theorem bkp_straps_exec {c : Instr} {s t : State} (hw : ∀ o d, c ≠ .registerWrite o d)
    (hl : ∀ p f, c ≠ .optionLoadingDone p f) (h : exec c s = .next t) :
    t.bkp = s.bkp ∧ t.boot.straps = s.boot.straps := by
  cases hc : writesKept c with
  | false =>
    have hs := steady_exec hc h
    exact ⟨hs.bkp, hs.straps⟩
  | true =>
    obtain ⟨o, d, rfl⟩ | ⟨w, rfl⟩ | ⟨p, f, rfl⟩ | rfl := writesKept_cases hc
    · exact absurd rfl (hw o d)
    · cases h
      exact ⟨rfl, rfl⟩
    · exact absurd rfl (hl p f)
    · obtain ⟨_, _, hbkp, hboot⟩ := kept_execWdogRunClear s t h
      exact ⟨hbkp, congrArg BootStatus.straps hboot⟩

/-- Settles O45: the commands that write RESET_CAUSE or the straps are the four of `writesKept`. -/
theorem strapsAndCauseKept : Obligations.StrapsAndCauseKept := by
  unfold Obligations.StrapsAndCauseKept
  refine ⟨fun c s t h hl hw => (bkp_straps_exec hw hl h).2, fun c s t h hl hw hr hd => ?_⟩
  cases hc : writesKept c with
  | false => exact (steady_exec hc h).cause
  | true =>
    obtain ⟨o, d, rfl⟩ | ⟨w, rfl⟩ | ⟨p, f, rfl⟩ | rfl := writesKept_cases hc
    · exact absurd rfl (hw o d)
    · exact absurd rfl (hr w)
    · exact absurd rfl (hl p f)
    · exact absurd rfl hd

end Sys2Proof.Machine

/-! RMEM under the host's writes (04 R123, R124). -/
namespace Sys2Proof.Machine

/-- A 64-bit word of RMEM is written whole by `n` bytes stored from `o` on. -/
def coversWord (o n w : Nat) : Prop :=
  o ≤ 8 * w ∧ 8 * w + 8 ≤ o + n

/-- What `n` bytes written by the host from `o` on leave alone. -/
structure RmemFrame (o n : Nat) (s t : State) : Prop where
  outside : ∀ a, a < o ∨ o + n ≤ a → sget 0 t.rmem a = sget 0 s.rmem a
  crash : ∀ a, 0xF000 ≤ a → sget 0 t.rmem a = sget 0 s.rmem a
  bad : ∀ a, a / 8 ∈ s.rmemBad → ¬ coversWord o n (a / 8) → sget 0 t.rmem a = sget 0 s.rmem a
  still : ∀ w ∈ s.rmemBad, ¬ coversWord o n w → w ∈ t.rmemBad
  form : swf 0 s.rmem = true → swf 0 t.rmem = true
  rest : t = { s with rmem := t.rmem, rmemBad := t.rmemBad }

theorem RmemFrame.refl (o n : Nat) (s : State) : RmemFrame o n s s :=
  ⟨fun _ _ => rfl, fun _ _ => rfl, fun _ _ _ => rfl, fun _ hw _ => hw, id, rfl⟩

/-- The bytes of one word, and those behind it. -/
theorem RmemFrame.trans {o k n : Nat} {s t u : State} (hk : k ≤ n) (h : RmemFrame o k s t)
    (g : RmemFrame (o + k) (n - k) t u) : RmemFrame o n s u where
  outside a ha := (g.outside a (by omega)).trans (h.outside a (by omega))
  crash a ha := (g.crash a ha).trans (h.crash a ha)
  bad a ha hc := by
    have hk' : ¬ coversWord o k (a / 8) := fun c => hc (by unfold coversWord at *; omega)
    have hn' : ¬ coversWord (o + k) (n - k) (a / 8) := fun c => hc (by unfold coversWord at *; omega)
    exact (g.bad a (h.still _ ha hk') hn').trans (h.bad a ha hk')
  still w hw hc := by
    have hk' : ¬ coversWord o k w := fun c => hc (by unfold coversWord at *; omega)
    have hn' : ¬ coversWord (o + k) (n - k) w := fun c => hc (by unfold coversWord at *; omega)
    exact g.still w (h.still w hw hk') hn'
  form hs := g.form (h.form hs)
  rest := by
    have hg := g.rest
    rw [h.rest] at hg
    exact hg

/-- A write within one word below the crash record. -/
theorem rmemFrame_word {o : Nat} {data : List Byte} (s : State) (hfit : o % 8 + data.length ≤ 8) (ho : o < 0xF000) :
    RmemFrame o data.length s (rmemWordWrite o data s) := by
  have out : ∀ a, a < o ∨ o + data.length ≤ a → sget 0 (swrite s.rmem o data) a = sget 0 s.rmem a :=
    fun a ha => sget_swrite_outside ha
  have high : ∀ a, 0xF000 ≤ a → sget 0 (swrite s.rmem o data) a = sget 0 s.rmem a :=
    fun a ha => out a (by omega)
  unfold rmemWordWrite
  dsimp only
  split
  next hbad =>
    split
    next hwhole =>
      have covered : coversWord o data.length (o / 8) := by unfold coversWord; omega
      refine ⟨out, high, fun a _ hc => out a ?_, fun w hw hc => ?_, swf_swrite, rfl⟩
      · have : a / 8 ≠ o / 8 := fun e => hc (e ▸ covered)
        omega
      · have : w ≠ o / 8 := fun e => hc (e ▸ covered)
        simpa [hw] using this
    next => exact RmemFrame.refl _ _ s
  next hgood =>
    refine ⟨out, high, fun a ha _ => out a ?_, fun _ hw _ => hw, swf_swrite, rfl⟩
    have : a / 8 ≠ o / 8 := fun e => hgood (e ▸ ha)
    omega

/-- Nothing is left to write. -/
theorem rmemWrite_nil (n o : Nat) (s : State) : rmemWrite n o [] s = s := by
  cases n <;> rfl

/-- A write word by word, each of them within its word. -/
theorem rmemFrame_rmemWrite (n o : Nat) (data : List Byte) (s : State) :
    RmemFrame o data.length s (rmemWrite n o data s) := by
  induction n generalizing o data s with
  | zero => exact RmemFrame.refl _ _ s
  | succ n ih =>
    have hpart : (data.take (8 - o % 8)).length = min (8 - o % 8) data.length := List.length_take
    have hword : RmemFrame o (data.take (8 - o % 8)).length s
        (if o < 0xF000 then rmemWordWrite o (data.take (8 - o % 8)) s else s) := by
      split
      next ho => exact rmemFrame_word s (by omega) ho
      next => exact RmemFrame.refl _ _ s
    unfold rmemWrite
    dsimp only
    split
    · exact RmemFrame.refl _ _ s
    obtain hlast | hmore := le_or_gt data.length (8 - o % 8)
    · rw [List.drop_of_length_le hlast, rmemWrite_nil]
      rwa [List.take_of_length_le hlast] at hword ⊢
    · have hlen : (data.take (8 - o % 8)).length = 8 - o % 8 := by omega
      have hrest := ih (o + (8 - o % 8)) (data.drop (8 - o % 8))
        (if o < 0xF000 then rmemWordWrite o (data.take (8 - o % 8)) s else s)
      rw [List.length_drop] at hrest
      rw [hlen] at hword
      exact hword.trans (by omega) hrest

/-- Settles O52: the frame of the word-by-word write; while a reset is asserted nothing is written. -/
theorem rmemWriteFrame : Obligations.RmemWriteFrame := by
  unfold Obligations.RmemWriteFrame
  intro s o data t h
  obtain rfl : (if s.power.asserted || s.power.optionLoading then s else rmemWrite (data.length + 1) o data s) = t :=
    Host.Outcome.next.inj h
  have frame : RmemFrame o data.length s
      (if s.power.asserted || s.power.optionLoading then s else rmemWrite (data.length + 1) o data s) := by
    split
    next => exact RmemFrame.refl _ _ s
    next => exact rmemFrame_rmemWrite _ o data s
  refine ⟨frame.outside, frame.crash, fun a hbad hpart => frame.bad a hbad ?_, fun hreset => ?_, frame.form, frame.rest⟩
  · unfold coversWord
    omega
  · exact if_pos (by simpa using hreset)

/-- A write within one sound word below the crash record (04 R124). -/
theorem exec_rmemWrite_word {s : State} {o : Nat} {data : List Byte} (ha : s.power.asserted = false)
    (hl : s.power.optionLoading = false) (hfit : o + data.length ≤ o / 8 * 8 + 8) (ho : o < 0xF000) (hne : data ≠ [])
    (hgood : o / 8 ∉ s.rmemBad) :
    exec (.rmemWrite o data) s = .next { s with rmem := swrite s.rmem o data } := by
  have htake : data.take (8 - o % 8) = data := List.take_of_length_le (by omega)
  have hdrop : data.drop (8 - o % 8) = [] := List.drop_of_length_le (by omega)
  change Host.Outcome.next (if s.power.asserted || s.power.optionLoading then s
    else rmemWrite (data.length + 1) o data s) = _
  simp [ha, hl, rmemWrite, hne, htake, hdrop, ho, rmemWrite_nil, rmemWordWrite, hgood]

end Sys2Proof.Machine

/-! The clock, the reset controller and BOOT_STATUS: what an operation outside of 04 leaves of them. One lemma for each
shared operation, unit by unit; the operations that only count and report are those of `unreported`. -/
namespace Sys2Proof.Machine

/-- The clock, the reset controller with the supply watch, and BOOT_STATUS (04). -/
def resetPart (s : State) : Nat × Power × BootStatus := (s.now, s.power, s.boot)

@[simp] theorem resetPart_fold (s : State) : (s.now, s.power, s.boot) = resetPart s := rfl

@[simp] theorem resetPart_upd (a0 a1 a2 a3 a4 a5 a6 a7 a8 a9 a10 a11 a12 a13 a14 a15 a16 a17 a18 a19 a20 a21 a22 a23 a24 a25
    a26 a27 a28 a29 a30 a31 a32 a33 a34) :
    resetPart (State.mk a0 a1 a2 a3 a4 a5 a6 a7 a8 a9 a10 a11 a12 a13 a14 a15 a16 a17 a18 a19 a20 a21 a22 a23 a24 a25 a26
      a27 a28 a29 a30 a31 a32 a33 a34) = (a1, a3, a5) := rfl

@[simp] theorem resetPart_ite (p : Prop) [Decidable p] (a b : State) :
    resetPart (if p then a else b) = if p then resetPart a else resetPart b :=
  apply_ite resetPart p a b

theorem resetPart_foldl {α : Type} {f : State → α → State} (h : ∀ s a, resetPart (f s a) = resetPart s) (l : List α)
    (s : State) : resetPart (l.foldl f s) = resetPart s := by
  induction l generalizing s with
  | nil => rfl
  | cons a rest ih => exact (ih _).trans (h s a)

theorem now_of_resetPart {s t : State} (h : resetPart t = resetPart s) : t.now = s.now :=
  (congrArg (·.1) h :)

theorem power_of_resetPart {s t : State} (h : resetPart t = resetPart s) : t.power = s.power :=
  (congrArg (·.2.1) h :)

theorem boot_of_resetPart {s t : State} (h : resetPart t = resetPart s) : t.boot = s.boot :=
  (congrArg (·.2.2) h :)

theorem resetPart_of_unreported {s t : State} (h : unreported t = unreported s) : resetPart t = resetPart s :=
  (congrArg resetPart h :)

theorem resetPart_of_offLanes {s t : State} (h : offLanes t = offLanes s) : resetPart t = resetPart s :=
  (congrArg resetPart h :)

/-! Counting and reporting, the lanes and the links. -/

@[simp] theorem resetPart_count (c : Ctr) (s : State) : resetPart (count c s) = resetPart s :=
  resetPart_of_unreported (unreported_count c s)

@[simp] theorem resetPart_countBy (c : Ctr) (n : Nat) (s : State) : resetPart (countBy c n s) = resetPart s :=
  resetPart_of_unreported (unreported_countBy c n s)

@[simp] theorem resetPart_chargeGrant (cls res n : Nat) (s : State) :
    resetPart (chargeGrant cls res n s) = resetPart s :=
  resetPart_of_unreported (unreported_chargeGrant cls res n s)

@[simp] theorem resetPart_raise (code : Nat) (fields : List Fld) (s : State) :
    resetPart (raise code fields s) = resetPart s :=
  resetPart_of_unreported (unreported_raise code fields s)

@[simp] theorem resetPart_laneTo (l : Nat) (new : LaneStateCode) (cause : Nat) (s : State) :
    resetPart (laneTo l new cause s) = resetPart s :=
  resetPart_of_offLanes (offLanes_laneTo l new cause s)

@[simp] theorem resetPart_laneOff (l cause : Nat) (s : State) : resetPart (laneOff l cause s) = resetPart s :=
  resetPart_laneTo l .off cause _

@[simp] theorem resetPart_laneBringup (l cause : Nat) (s : State) : resetPart (laneBringup l cause s) = resetPart s :=
  resetPart_of_offLanes (offLanes_laneBringup l cause s)

@[simp] theorem resetPart_linkStart (k cause : Nat) (s : State) : resetPart (linkStart k cause s) = resetPart s :=
  resetPart_of_offLanes (offLanes_linkStart k cause s)

@[simp] theorem resetPart_linkStop (k cause : Nat) (s : State) : resetPart (linkStop k cause s) = resetPart s :=
  resetPart_foldl (fun s _ => resetPart_laneOff _ cause s) _ _

@[simp] theorem resetPart_linksApply (cause : Nat) (s : State) : resetPart (linksApply cause s) = resetPart s := by
  refine resetPart_foldl (fun s k => ?_) _ s
  simp

@[simp] theorem resetPart_tyRoute (f : ReplayFrame) (s : State) : resetPart (tyRoute f s) = resetPart s := by
  unfold tyRoute linkSend
  split <;> simp [setLink]

@[simp] theorem resetPart_tell (dest : Nat) (m : StewardMessage) (s : State) :
    resetPart (tell dest m s) = resetPart s :=
  resetPart_tyRoute _ s

/-! Ports. -/

@[simp] theorem resetPart_setPort (p : Nat) (f : Port → Port) (s : State) : resetPart (setPort p f s) = resetPart s := rfl

@[simp] theorem resetPart_setQueue (port queue : Nat) (f : LaunchQueue → LaunchQueue) (s : State) :
    resetPart (setQueue port queue f s) = resetPart s := rfl

@[simp] theorem resetPart_dropPortQueues (port : Nat) (s : State) : resetPart (dropPortQueues port s) = resetPart s :=
  resetPart_foldl (fun s q => by simp) _ s

@[simp] theorem resetPart_portTo (p : Nat) (new : PortStateCode) (cause : Nat) (s : State) :
    resetPart (portTo p new cause s) = resetPart s := by
  simp [portTo, raisePort]

@[simp] theorem resetPart_startPort (p cause laneCause : Nat) (s : State) :
    resetPart (startPort p cause laneCause s) = resetPart s := by
  simp [startPort]

/-! The engines' board. -/

@[simp] theorem resetPart_setEngine (e : Nat) (f : Engine → Engine) (s : State) :
    resetPart (setEngine e f s) = resetPart s := rfl

@[simp] theorem resetPart_freeDescriptor (s : State) : resetPart (freeDescriptor s) = resetPart s := rfl

@[simp] theorem resetPart_startSlice (e : Nat) (s : State) : resetPart (startSlice e s) = resetPart s := by
  simp [startSlice, takeDescriptor]

@[simp] theorem resetPart_resumeParked (s : State) (e : Nat) : resetPart (resumeParked e s) = resetPart s := by
  unfold resumeParked
  dsimp only
  split <;> simp

@[simp] theorem resetPart_grantTask (e : Nat) (s : State) : resetPart (grantTask e s) = resetPart s := by
  unfold grantTask
  split <;> simp

@[simp] theorem resetPart_collectAskers (s : State) : resetPart (collectAskers s) = resetPart s := rfl

@[simp] theorem resetPart_setBalance (cls res : Nat) (f : Balance → Balance) (s : State) :
    resetPart (setBalance cls res f s) = resetPart s := rfl

@[simp] theorem resetPart_dispatchGrant (cls : Nat) (s : State) : resetPart (dispatchGrant cls s) = resetPart s := by
  unfold dispatchGrant
  dsimp only
  (repeat' split) <;> simp

@[simp] theorem resetPart_grantSome (n : Nat) (s : State) : resetPart (grantSome n s) = resetPart s := by
  induction n generalizing s with
  | zero => rfl
  | succ n ih =>
    unfold grantSome
    dsimp only
    (repeat' split) <;> simp [ih]

@[simp] theorem resetPart_grantAll (s : State) : resetPart (grantAll s) = resetPart s := by
  unfold grantAll
  dsimp only
  split
  · rfl
  · exact (resetPart_grantSome _ _).trans (resetPart_foldl resetPart_resumeParked _ s)

/-! Channels, their sessions and their programs. -/

@[simp] theorem resetPart_setChannel (id : Nat) (f : Channel → Channel) (s : State) :
    resetPart (setChannel id f s) = resetPart s := rfl

@[simp] theorem resetPart_setLeg (id : Nat) (l : Leg) (f : LegState → LegState) (s : State) :
    resetPart (setLeg id l f s) = resetPart s := rfl

@[simp] theorem resetPart_setSession (i : Nat) (f : Session → Session) (s : State) :
    resetPart (setSession i f s) = resetPart s := rfl

@[simp] theorem resetPart_putStation (x : Station) (s : State) : resetPart (putStation x s) = resetPart s := rfl

@[simp] theorem resetPart_staleRequest (s : State) : resetPart (staleRequest s) = resetPart s :=
  resetPart_count _ s

@[simp] theorem resetPart_sendMembers (k : StationKey) (s : State) : resetPart (sendMembers k s) = resetPart s :=
  resetPart_foldl (fun s n => resetPart_tell n _ s) _ s

@[simp] theorem resetPart_commitSighting (k : StationKey) (node port seenAt : Nat) (s : State) :
    resetPart (commitSighting k node port seenAt s) = resetPart s := by
  unfold commitSighting
  dsimp only
  (repeat' split) <;> simp

@[simp] theorem resetPart_freeSession (h : Nat) (x : Session) (s : State) :
    resetPart (freeSession h x s) = resetPart s := by
  unfold freeSession cacheDrop
  dsimp only
  (repeat' split) <;> simp

@[simp] theorem resetPart_commitRequest (r : TellerRequest) (s : State) :
    resetPart (commitRequest commitSighting r s) = resetPart s := by
  cases r with
  | latch h epoch owner ip port => simp only [commitRequest, commitLatch]; (repeat' split) <;> simp [raiseLatched]
  | unlatch h epoch => simp only [commitRequest, commitUnlatch]; (repeat' split) <;> simp
  | bind h channel l node => simp only [commitRequest, commitBind]; (repeat' split) <;> simp
  | release h channel => simp only [commitRequest, commitRelease]; (repeat' split) <;> simp
  | accepted h period => simp only [commitRequest, commitAccepted]; split <;> simp
  | deleteSession h => simp only [commitRequest]; (repeat' split) <;> simp
  | sighting k node port seenAt => exact resetPart_commitSighting k _ _ _ s

@[simp] theorem resetPart_tellerStep (s : State) : resetPart (tellerStep s) = resetPart s := by
  unfold tellerStep
  split <;> simp

@[simp] theorem resetPart_tellerDrain (s : State) : resetPart (tellerDrain s) = resetPart s :=
  resetPart_foldl (fun s _ => resetPart_tellerStep s) _ s

@[simp] theorem resetPart_commitAt (s : State) (r : Nat × TellerRequest) : resetPart (commitAt s r) = resetPart s := by
  simp [commitAt]

@[simp] theorem resetPart_commitAll (reqs : List (Nat × TellerRequest)) (s : State) :
    resetPart (commitAll reqs s) = resetPart s :=
  resetPart_foldl resetPart_commitAt reqs s

@[simp] theorem resetPart_meterEnd (id : Nat) (l : Leg) (s : State) : resetPart (meterEnd id l s) = resetPart s := by
  unfold meterEnd raiseLevel
  dsimp only
  (repeat' split) <;> simp

@[simp] theorem resetPart_endTones (id : Nat) (l : Leg) (s : State) : resetPart (endTones id l s) = resetPart s := by
  unfold endTones endDigits raiseVoice
  dsimp only
  (repeat' split) <;> simp

@[simp] theorem resetPart_rebindB (ch : Channel) (c : SessionCopy) (p : BitVec 160) (s : State) :
    resetPart (rebindB ch c p s) = resetPart s := by
  simp [rebindB, drawn]

@[simp] theorem resetPart_programBoundary (id : Nat) (s : State) : resetPart (programBoundary id s) = resetPart s := by
  unfold programBoundary
  dsimp only
  (repeat' split) <;> simp

@[simp] theorem resetPart_concealLeg (ch : Channel) (l : Leg) (frame : Nat) (s : State) :
    resetPart (concealLeg ch l frame s) = resetPart s := by
  simp [concealLeg]

@[simp] theorem resetPart_settleMove (id : Nat) (s : State) : resetPart (settleMove id s) = resetPart s := by
  unfold settleMove raiseMoved
  dsimp only
  (repeat' split) <;> simp

@[simp] theorem resetPart_loseFrame (id frame engine : Nat) (s : State) :
    resetPart (loseFrame id frame engine s) = resetPart s := by
  unfold loseFrame
  dsimp only
  split <;> simp

@[simp] theorem resetPart_afterOverrun (t : Task) (engine : Nat) (s : State) :
    resetPart (afterOverrun t engine s) = resetPart s := by
  unfold afterOverrun readyFrame pushTask
  dsimp only
  (repeat' split) <;> simp

/-! A block's return to service (04 R118). -/

@[simp] theorem resetPart_dropParked (b : Nat) (s : State) : resetPart (dropParked b s).1 = resetPart s := by
  unfold dropParked
  dsimp only
  split <;> simp

@[simp] theorem resetPart_blockReturn (b : Nat) (s : State) : resetPart (blockReturn b s).1 = resetPart s := by
  unfold blockReturn
  (repeat' split) <;> simp

/-! The time bases, the governor and the Ledger (05 Table 5-1; 17 R516). -/

@[simp] theorem resetPart_setTb (i : Nat) (f : TimeBase → TimeBase) (s : State) :
    resetPart (setTb i f s) = resetPart s := rfl

@[simp] theorem resetPart_tbTo (i : Nat) (new : TbState) (cause : Nat) (s : State) :
    resetPart (tbTo i new cause s) = resetPart s := by
  simp [tbTo, raiseTb]

@[simp] theorem resetPart_tbConfigure (i : Nat) (c : TimeBaseCfg) (s : State) :
    resetPart (tbConfigure i c s) = resetPart s := by
  simp [tbConfigure, realign, tbSync]

@[simp] theorem resetPart_startUnits (s : State) : resetPart (startUnits s) = resetPart s := by
  unfold startUnits
  dsimp only
  rw [resetPart_linksApply, resetPart_foldl fun s n => resetPart_putStation _ s,
    resetPart_foldl fun s p => ?_, resetPart_foldl fun s i => resetPart_tbConfigure i _ s]
  simp

@[simp] theorem resetPart_governorStart (s : State) : resetPart (governorStart s) = resetPart s := rfl

@[simp] theorem resetPart_countWorn (w : LedgerWrite) (s : State) : resetPart (countWorn w s) = resetPart s := by
  unfold countWorn
  split <;> simp

@[simp] theorem resetPart_ledgerStart (s : State) : resetPart (ledgerStart s).1 = resetPart s := by
  unfold ledgerStart
  dsimp only
  split
  · rfl
  · exact resetPart_foldl (fun s w => resetPart_countWorn w s) _ _

@[simp] theorem resetPart_ledgerPut (w : LedgerWrite) (s : State) : resetPart (ledgerPut w s).1 = resetPart s :=
  resetPart_ledgerStart _

/-! The registers that the host writes beside those of the reset controller (06). -/

@[simp] theorem resetPart_sendVector (v : Nat) (s : State) : resetPart (sendVector v s) = resetPart s :=
  resetPart_of_unreported (unreported_sendVector v s)

@[simp] theorem resetPart_flushLost (s : State) : resetPart (flushLost s) = resetPart s :=
  resetPart_of_unreported (unreported_flushLost s)

@[simp] theorem resetPart_hostConfigures (s : State) : resetPart (hostConfigures s) = resetPart s := by
  simp [hostConfigures, drawn]

@[simp] theorem resetPart_setCq (q : Nat) (f : CommandQueue → CommandQueue) (s : State) :
    resetPart (setCq q f s) = resetPart s := rfl

@[simp] theorem resetPart_setCc (q : Nat) (f : CompletionQueue → CompletionQueue) (s : State) :
    resetPart (setCc q f s) = resetPart s := rfl

@[simp] theorem resetPart_queueWrite (q part w : Nat) (s : State) : resetPart (queueWrite q part w s) = resetPart s := by
  unfold queueWrite
  split <;> simp [queueBaseWrite, queueCfgWrite, cqCfgWrite, ccCfgWrite, eqCfgWrite]

@[simp] theorem resetPart_refuseDoorbell (s : State) : resetPart (refuseDoorbell s) = resetPart s := by
  simp [refuseDoorbell, resetPart_of_unreported (unreported_irqMessage _ _ _)]

@[simp] theorem resetPart_cqTailWrite (q w : Nat) (s : State) : resetPart (cqTailWrite q w s) = resetPart s := by
  simp [cqTailWrite]

@[simp] theorem resetPart_ccHeadWrite (q w : Nat) (s : State) : resetPart (ccHeadWrite q w s) = resetPart s := by
  simp [ccHeadWrite, releaseHold]

@[simp] theorem resetPart_eqHeadWrite (w : Nat) (s : State) : resetPart (eqHeadWrite w s) = resetPart s := by
  simp [eqHeadWrite]

@[simp] theorem resetPart_cancelWrite (w : Nat) (s : State) : resetPart (cancelWrite w s) = resetPart s := by
  simp [cancelWrite]

@[simp] theorem resetPart_doorbellWrite (offset w : Nat) (s : State) :
    resetPart (doorbellWrite offset w s) = resetPart s := by
  unfold doorbellWrite
  (repeat' split) <;> simp

@[simp] theorem resetPart_interruptWrite (offset w : Nat) (s : State) :
    resetPart (interruptWrite offset w s) = resetPart s := by
  unfold interruptWrite
  (repeat' split) <;> simp [intStatusWrite, intMaskWrite, intPinWrite, intTestWrite]

@[simp] theorem resetPart_msixWrite (v part w : Nat) (s : State) : resetPart (msixWrite v part w s) = resetPart s := by
  simp [msixWrite]

@[simp] theorem resetPart_dmbWrite (offset w : Nat) (s : State) : resetPart (dmbWrite offset w s) = resetPart s := by
  simp [dmbWrite, dmbGoWrite, dmbDoneWrite]

@[simp] theorem resetPart_dmbCmdWrite (at_ : Nat) (data : List Byte) (s : State) :
    resetPart (dmbCmdWrite at_ data s) = resetPart s := by
  simp [dmbCmdWrite]

end Sys2Proof.Machine

/-! BKP, the reset controller's registers, the Ledger and the diagnostic window under the host's accesses (04 R120 to R122;
06 R162; 07 R221; 17 R516). -/
namespace Sys2Proof.Machine

theorem natBytes_succ (n x : Nat) : natBytes (n + 1) x = BitVec.ofNat 8 x :: natBytes n (x / 256) := by
  have hshift : ∀ k, x >>> (8 * (k + 1)) = (x / 256) >>> (8 * k) := fun k => by
    rw [Nat.mul_succ, Nat.add_comm, Nat.shiftRight_add, Nat.shiftRight_eq_div_pow x 8]
  simp [natBytes, List.range_succ_eq_map, Function.comp_def, hshift]

/-- Bytes and the number that they spell (00 R6). -/
theorem bytesNat_natBytes (n x : Nat) : bytesNat (natBytes n x) = x % 256 ^ n := by
  induction n generalizing x with
  | zero => simp [natBytes, bytesNat, Nat.mod_one]
  | succ n ih => rw [natBytes_succ, bytesNat, ih, BitVec.toNat_ofNat, pow_succ' 256 n, Nat.mod_mul]

@[simp] theorem natBytes_length (n x : Nat) : (natBytes n x).length = n := by
  simp [natBytes]

theorem barWrite_nil (n at_ : Nat) (s : State) : barWrite n at_ [] s = s := by
  cases n <;> rfl

/-- A whole aligned word outside of DMB_CMD is one write (06 R162). -/
theorem exec_registerWrite_word {o w : Nat} {s : State} (ha : o % 4 = 0) (hd : ¬ (0x100 ≤ o ∧ o < 0x140)) :
    exec (.registerWrite o (natBytes 4 w)) s = .next (bar0Write o (w % 256 ^ 4) s) := by
  have hlen := natBytes_length 4 w
  have hne : (natBytes 4 w).isEmpty = false := by
    rw [natBytes_succ]
    rfl
  change Host.Outcome.next (barWrite ((natBytes 4 w).length + 1) o (natBytes 4 w) s) = _
  have htake : (natBytes 4 w).take (4 - o % 4) = natBytes 4 w := List.take_of_length_le (by omega)
  have hdrop : (natBytes 4 w).drop (natBytes 4 w).length = [] := List.drop_length
  rw [barWrite, hne, if_neg Bool.false_ne_true]
  dsimp only
  rw [htake, if_neg hd, if_pos hlen, hdrop, barWrite_nil, bytesNat_natBytes]

theorem bar0Write_bkp {n : Nat} (hn : n < 16) (w : Nat) (s : State) : bar0Write (0x20 + 4 * n) w s = bkpWrite n w s := by
  have hindex : (0x20 + 4 * n - 0x20) / 4 = n := by omega
  rw [bar0Write, if_neg (by omega), if_neg (by omega), if_pos (by omega), hindex]

/-- The host's write of a BKP register (04 R122; 06 R162). -/
theorem exec_registerWrite_bkp {s : State} {n w : Nat} (hn : n < 16) (ha : s.power.asserted = false)
    (ho : s.power.optionLoading = false) :
    exec (.registerWrite (0x20 + 4 * n) (natBytes 4 w)) s = .next { s with bkp := s.bkp.set n (BitVec.ofNat 32 w) } := by
  have hword : BitVec.ofNat 32 (w % 256 ^ 4) = BitVec.ofNat 32 w := BitVec.eq_of_toNat_eq (by simp)
  rw [exec_registerWrite_word (by omega) (by omega), bar0Write_bkp hn, bkpWrite, ha, ho, hword]
  rfl

/-- A device-level reset is asserted, or its options are being loaded: what the host writes of BKP is lost (04 R122). -/
def State.bkpShut (s : State) : Bool :=
  s.power.asserted || s.power.optionLoading

/-- While BKP is shut, the state after leaves it shut and BKP as it was. -/
def KeepsShut (s t : State) : Prop :=
  s.bkpShut = true → t.bkpShut = true ∧ t.bkp = s.bkp

theorem KeepsShut.refl (s : State) : KeepsShut s s := fun h => ⟨h, rfl⟩

theorem KeepsShut.trans {s t u : State} (h : KeepsShut s t) (g : KeepsShut t u) : KeepsShut s u := by
  intro hs
  obtain ⟨ht, hbkp⟩ := h hs
  obtain ⟨hu, hbkp'⟩ := g ht
  exact ⟨hu, hbkp'.trans hbkp⟩

theorem KeepsShut.of_parts {s t : State} (hp : resetPart t = resetPart s) (hh : held t = held s) : KeepsShut s t :=
  fun hs => ⟨by rwa [State.bkpShut, power_of_resetPart hp], congrArg Held.bkp hh⟩

@[simp] theorem resetPart_blockRequest (b : Nat) (s : State) : resetPart (blockRequest b s) = resetPart s := by
  simp [blockRequest]

/-- A request of a block reset asserts no device-level reset and ends none. -/
theorem bkpShut_requestBlock (b : Nat) (origin : BlockOrigin) (timeoutNs : Nat) (entry : Option Nat) (s : State) :
    (requestBlock b origin timeoutNs entry s).bkpShut = s.bkpShut := by
  unfold requestBlock
  split
  · rfl
  · rw [State.bkpShut, power_of_resetPart (resetPart_blockRequest b _)]
    rfl

theorem keepsShut_resetCtrlWrite (w : Nat) (s : State) : KeepsShut s (resetCtrlWrite w s) := by
  refine fun hs => ⟨?_, (steady_resetCtrlWrite w s).bkp⟩
  unfold resetCtrlWrite
  (repeat' split)
  · exact hs
  · rfl
  · rfl
  · rwa [bkpShut_requestBlock]
  · exact hs
  · exact hs

theorem keepsShut_userWordWrite (word w : Nat) (s : State) : KeepsShut s (userWordWrite word w s) := by
  unfold userWordWrite
  (repeat' split)
  · exact KeepsShut.refl s
  · exact KeepsShut.trans (t := { s with power := { s.power with warnRefused := s.power.warnRefused + 1 } })
      (fun hs => ⟨hs, rfl⟩) (.of_parts (resetPart_count _ _) (held_count _ _))
  · exact .of_parts (resetPart_ledgerPut _ s) (held_ledgerPut _ s)

theorem keepsShut_bar0Write (offset w : Nat) (s : State) : KeepsShut s (bar0Write offset w s) := by
  unfold bar0Write
  (repeat' split)
  · exact keepsShut_resetCtrlWrite w s
  · exact fun hs => ⟨hs, rfl⟩
  · intro hs
    rw [bkpWrite, if_pos (show (s.power.asserted || s.power.optionLoading) = true from hs)]
    exact ⟨hs, rfl⟩
  · exact .of_parts (resetPart_dmbWrite _ _ s) (held_dmbWrite _ _ s)
  · exact .of_parts (resetPart_queueWrite _ _ _ s) (held_queueWrite _ _ _ s)
  · exact .of_parts (resetPart_doorbellWrite _ _ s) (held_doorbellWrite _ _ s)
  · exact .of_parts (resetPart_interruptWrite _ _ s) (held_interruptWrite _ _ s)
  · exact .of_parts (resetPart_msixWrite _ _ _ s) (held_msixWrite _ _ _ s)
  · exact keepsShut_userWordWrite _ _ s
  · exact KeepsShut.refl s

/-- No word of a write reaches BKP during a reset, nor does a word of it end the reset (04 R122). -/
theorem keepsShut_barWrite (n at_ : Nat) (data : List Byte) (s : State) : KeepsShut s (barWrite n at_ data s) := by
  induction n generalizing at_ data s with
  | zero => exact KeepsShut.refl s
  | succ n ih =>
    unfold barWrite
    split
    · exact KeepsShut.refl s
    refine KeepsShut.trans ?_ (ih _ _ _)
    (repeat' split)
    · exact .of_parts (resetPart_dmbCmdWrite _ _ s) (held_dmbCmdWrite _ _ s)
    · exact keepsShut_bar0Write _ _ s
    · exact KeepsShut.refl s

/-! Option loading (04 R114, R115, R119, R121). -/

/-- The end of option loading zeroes BKP under a cold scope and keeps it under a warm one (04 R114). -/
theorem bkp_loadMemory (s : State) : (loadMemory s).bkp = if s.power.cold then List.replicate 16 0 else s.bkp := by
  unfold loadMemory
  split <;> rfl

/-- The Ledger shadow, BKP and RMEM, and RESET_CAUSE at the end of option loading (04 R114, R121). -/
def shadowLoaded (straps : Straps) (s : State) : State :=
  adoptAddress straps (loadMemory (loadShadow { s with cause := causeAfter s.power s.cause }))

/-- The state in which the reset wave begins where no fuse word fails its check (04 R114, R115, R119). -/
def optionsLoaded (straps : Straps) (fuseError : Bool) (s : State) : State :=
  let s1 := shadowLoaded straps s
  { s1 with
    boot := { s1.boot with stage := 1, fuseErr := fuseError, warm := !s1.power.cold,
                           strapAnomaly := decide (straps.clkMode = 0), straps := straps },
    power := { s1.power with optionLoading := false },
    time := { s1.time with onTbref := decide (straps.clkMode = 1) || decide (straps.clkMode = 2) } }

/-- OPTION_LOADING_DONE: a fuse error ends in HALT (04 R114; 05 R141). -/
theorem exec_optionLoadingDone (straps : Straps) (fuseError : Bool) {s : State} (h : s.power.optionLoading = true) :
    exec (.optionLoadingDone straps fuseError) s
      = .next (if fuseError then enterHalt 1 (optionsLoaded straps fuseError s) else optionsLoaded straps fuseError s) := by
  change execOptionLoadingDone straps fuseError s = _
  rw [execOptionLoadingDone, h]
  rfl

@[simp] theorem bkp_shadowLoaded (straps : Straps) (s : State) :
    (shadowLoaded straps s).bkp = if s.power.cold then List.replicate 16 0 else s.bkp :=
  (congrArg Held.bkp (held_adoptAddress straps _)).trans (bkp_loadMemory _)

@[simp] theorem bkp_enterHalt (c : Nat) (s : State) : (enterHalt c s).bkp = s.bkp :=
  (steady_enterHalt c s).bkp

/-- Settles O44: a host's write of a register, option loading, and every other command, which keeps BKP by `steady_exec`. -/
theorem backupRegisters : Obligations.BackupRegisters := by
  unfold Obligations.BackupRegisters
  refine ⟨rfl, fun c s t h hw hl => (bkp_straps_exec hw hl h).1, ?loading,
    fun s n w hn ha ho => exec_registerWrite_bkp hn ha ho, ?shut⟩
  case loading =>
    intro s straps fuseError t hload h
    rw [exec_optionLoadingDone straps fuseError hload] at h
    cases h
    rw [apply_ite State.bkp, bkp_enterHalt, ite_self]
    exact bkp_shadowLoaded straps s
  case shut =>
    intro s offset data t hshut h
    cases h
    exact (keepsShut_barWrite _ offset data s (by simpa [State.bkpShut] using hshut)).2

/-! The reset controller's own registers, the Ledger and BAR2. -/

/-- A RESET_CTRL word with its key and 16 bits of operation and block (04 R120). -/
theorem toNat_resetCtrl {k : Nat} (hk : k < 65536) :
    (0xA5C30000 + BitVec.ofNat 32 k : Word32).toNat = 0xA5C30000 + k := by
  rw [BitVec.toNat_add, BitVec.toNat_ofNat]
  simp
  omega

theorem resetCtrlWrite_cold {w : Nat} {s : State} (hkey : w / 65536 = 0xA5C3) (hop : w % 4 = 1) :
    resetCtrlWrite w s = assertReset .resetCtrl true 0 s := by
  simp [resetCtrlWrite, hkey, hop]

theorem resetCtrlWrite_warm {w : Nat} {s : State} (hkey : w / 65536 = 0xA5C3) (hop : w % 4 = 2) :
    resetCtrlWrite w s = assertReset .resetCtrl false 0 s := by
  simp [resetCtrlWrite, hkey, hop]

theorem resetCtrlWrite_block {w b : Nat} {s : State} (hkey : w / 65536 = 0xA5C3) (hop : w % 4 = 3)
    (hblock : w / 4 % 256 = b) (hb : b < 84) (hrun : s.running = true) :
    resetCtrlWrite w s = requestBlock b .resetCtrl defaultBlockNs none s := by
  have hbits : bitsOf w 2 8 = b := by rw [bitsOf, Nat.shiftRight_eq_div_pow]; exact hblock
  simp [resetCtrlWrite, hkey, hop, hbits, hb, hrun]

/-- HISTORY's bits that the write holds as ones are cleared (04 R121, Table 4-10). -/
theorem bitsOf_history (w : Word32) : BitVec.ofNat 9 (bitsOf w.toNat 8 9) = w.extractLsb' 8 9 :=
  BitVec.eq_of_toNat_eq (by simp [bitsOf, BitVec.extractLsb'_toNat])

theorem exec_ledgerUserWrite {s : State} (word : Fin 1024) (v : Word32) (hrun : s.running = true)
    (hwarn : s.power.warnActive = false) :
    exec (.ledgerUserWrite word v) s = .next (ledgerPut { word := word.val, value := v, writer := .host } s).1 := by
  change Host.Outcome.next (userWordWrite word.val v.toNat s) = _
  simp [userWordWrite, hrun, hwarn]

theorem Ledger.eta_empty {l : Ledger} (hq : l.queue = []) (hs : l.started = false) :
    { l with queue := [], started := false } = l := by
  cases l
  cases hq
  cases hs
  rfl

/-- An empty queue starts nothing (17 R516). -/
theorem ledgerNext_empty {s : State} (hq : s.ledger.queue = []) (hs : s.ledger.started = false) :
    (ledgerNext s).ledger = s.ledger := by
  unfold ledgerNext ledgerStart
  split
  · rfl
  · rw [hq]
    exact Ledger.eta_empty hq hs

@[simp] theorem ledger_count (c : Ctr) (s : State) : (count c s).ledger = s.ledger :=
  congrArg (·.ledger) (unreported_count c s)

/-- The host's write that was verified is in the array and counted, and nothing waits behind it (17 R516, R519). -/
theorem exec_ledgerWriteComplete_host {s : State} {w : LedgerWrite} (hs : s.ledger.started = true)
    (hq : s.ledger.queue = [w]) (hw : w.writer = .host) :
    ∃ t, exec (.ledgerWriteComplete true) s = .next t ∧ t.ledger = { s.ledger with
      words := sset 0 s.ledger.words w.word w.value,
      counts := sset 0 s.ledger.counts w.word (min (s.writeCount w.word + 1) 0xFFFFFF), queue := [], started := false } := by
  refine ⟨ledgerNext (ledgerPerform w true { s with ledger := { s.ledger with queue := [], started := false } }).1,
    ?_, ?_⟩
  · change execLedgerWriteComplete true s = _
    simp [execLedgerWriteComplete, hs, hq, writeOver, hw]
  · rw [ledgerNext_empty] <;> simp [ledgerPerform, State.writeCount]

/-- DIAG_WINDOW_READ of the Till once its accesses are granted (07 R221). -/
theorem exec_diagWindowRead_till {s s1 : State} {o n base : Nat} (hwin : s.window = some (false, base))
    (hmode : s.mode.current = .diagnostic) (hlow : 0x10000 ≤ o) (hhigh : o + n ≤ 0x100000) (hn : 0 < n)
    (hpay : payRead ((o + n - 1) / 64 - o / 64 + 1) 0 s = (s1, true)) :
    exec (.diagWindowRead o n false) s = .next (drawn { s1 with
      link := { s1.link with windowData := s.liveBytes false (base + (o - 0x10000)) n } }) := by
  change execDiagWindowRead o n false s = _
  rw [execDiagWindowRead, hwin]
  dsimp only
  rw [if_pos ⟨hmode, hlow, hhigh, hn⟩, if_neg Bool.false_ne_true, hpay]
  rfl

/-- Settles O18: one lemma for each register and memory. -/
theorem registerAndMemoryWritesComplete : Obligations.RegisterAndMemoryWritesComplete := by
  unfold Obligations.RegisterAndMemoryWritesComplete
  refine ⟨?cold, ?warm, ?block, ?cause, ?bkp, ?user, ?complete, ?rmem, ?window⟩
  case cold =>
    intro s w
    have hword := toNat_resetCtrl (k := 4 * (w % 256) + 1) (by omega)
    exact congrArg Host.Outcome.next (resetCtrlWrite_cold (by omega) (by omega))
  case warm =>
    intro s w
    have hword := toNat_resetCtrl (k := 4 * (w % 256) + 2) (by omega)
    exact congrArg Host.Outcome.next (resetCtrlWrite_warm (by omega) (by omega))
  case block =>
    intro s b hrun hb
    have hword := toNat_resetCtrl (k := 4 * b + 3) (by omega)
    exact congrArg Host.Outcome.next (resetCtrlWrite_block (by omega) (by omega) (by omega) hb hrun)
  case cause =>
    intro s w
    change Host.Outcome.next (resetCauseWrite w.toNat s) = _
    rw [resetCauseWrite, bitsOf_history]
  case bkp => exact fun s n w => exec_registerWrite_bkp
  case user => exact fun s word v => exec_ledgerUserWrite word v
  case complete =>
    intro s w hs hq hw
    obtain ⟨t, ht, hledger⟩ := exec_ledgerWriteComplete_host hs hq hw
    exact ⟨t, ht, by simp [hledger]⟩
  case rmem => exact fun s o data => exec_rmemWrite_word
  case window => exact fun s s1 o n base => exec_diagWindowRead_till

end Sys2Proof.Machine

/-! The reset sources, the stretch, and block resets (04 R100 to R113, R118, Table 4-2). -/
namespace Sys2Proof.Machine

/-- The source of a reset is among those of the stretch (04 R129). -/
theorem mem_sources_assertReset (src : ResetSource) (cold : Bool) (lowNs : Nat) (s : State) :
    src ∈ (assertReset src cold lowNs s).power.sources := by
  simp only [assertReset]
  split
  · split
    · assumption
    · exact List.mem_append_right _ (List.mem_singleton_self src)
  · exact List.mem_singleton_self src

/-- RESET_N low for 1 µs always resets (04 R110). -/
theorem exec_resetNAssert_long {s : State} {n : Nat} (hn : 1000 ≤ n) :
    exec (.resetNAssert n) s = .next (assertReset .resetN true n (drawn s)) := by
  change execResetNAssert n s = _
  rw [execResetNAssert, if_neg (by omega), if_neg (by omega)]

theorem exec_perstNAssert_warm {s : State} (h : s.perstBlock = false) :
    exec .perstNAssert s = .next (assertReset .perstN false 0 { s with power := { s.power with perstLow := true } }) := by
  change execPerstNAssert s = _
  simp [execPerstNAssert, h]

/-- With PERST_BLOCK, and no device-level reset, PERST_N resets block 83 alone (04 R105). -/
theorem exec_perstNAssert_block {s : State} (h : s.perstBlock = true) (ha : s.power.asserted = false)
    (hl : s.power.optionLoading = false) :
    exec .perstNAssert s = .next (requestBlock 83 .perstN defaultBlockNs none { s with
      power := { s.power with perstLow := true }, link := { s.link with up := false } }) := by
  change execPerstNAssert s = _
  simp [execPerstNAssert, h, ha, hl]

theorem exec_watchdogExpiry_armed {s : State} (h : s.power.wdogArmed = true) :
    exec .watchdogExpiry s = .next (assertReset .watchdog false 0 s) := by
  change execWatchdogExpiry s = _
  simp [execWatchdogExpiry, h]

theorem exec_remoteResetRequest_enabled {s : State} (node : Fin 16) (cold : Bool) (h : s.remoteEn = true) :
    exec (.remoteResetRequest node cold) s = .next { assertReset .remote cold 0 s with
      power := { (assertReset .remote cold 0 s).power with remoteNode := node.val } } := by
  change execRemoteResetRequest node cold s = _
  simp [execRemoteResetRequest, h]

/-- Settles O57: the request takes the branch that only counts. -/
theorem remoteResetRefused : Obligations.RemoteResetRefused := by
  unfold Obligations.RemoteResetRefused
  intro s node cold h
  change execRemoteResetRequest node cold s = _
  simp [execRemoteResetRequest, h]

/-- Nothing holds the stretch: option loading begins (04 R110, R111). -/
theorem exec_resetStretchEnd_free {s : State} {rails : StretchRails} (ha : s.power.asserted = true)
    (hheld : s.stretchHeld rails.vddCoreMv rails.low = false) :
    exec (.resetStretchEnd rails) s = .next { advance s.power.releaseDue s with power := { s.power with
      asserted := false, optionLoading := true, releasedAt := max s.now s.power.releaseDue, railsLow := [] } } := by
  change execResetStretchEnd rails s = _
  simp [execResetStretchEnd, ha, hheld]

theorem exec_resetStretchEnd_held {s : State} {rails : StretchRails} (ha : s.power.asserted = true)
    (hheld : s.stretchHeld rails.vddCoreMv rails.low = true) :
    exec (.resetStretchEnd rails) s = .next { s with power := { s.power with railsLow := rails.low } } := by
  change execResetStretchEnd rails s = _
  simp [execResetStretchEnd, ha, hheld]

theorem exec_resetOutRelease {s : State} (ha : s.power.asserted = false) (hlow : s.power.resetOutLow = true) :
    exec .resetOutRelease s = .next { advance (s.power.releasedAt + 2000000) s with
      power := { s.power with resetOutLow := false } } := by
  change execResetOutRelease s = _
  simp [execResetOutRelease, ha, hlow]

/-- 600 s of counted modes clear WDOG_RUN (04 R108). -/
theorem exec_wdogRunClear {s : State} (hr : s.rhoper = true) (hc : countedMode s.mode.current = true)
    (hrun : s.power.runNs < 600000000000) :
    ∃ t, exec .wdogRunClear s = .next t ∧ t.cause = { s.cause with wdogRun := 0 } ∧ t.mode = s.mode ∧
      t.now = max s.now (s.power.runSince + (600000000000 - s.power.runNs)) := by
  refine ⟨_, rfl, ?_⟩
  simp only [hr, hc, hrun, decide_true, Bool.and_self, if_true]
  exact ⟨rfl, rfl, rfl⟩

/-- Settles O22: one lemma for each source and for each end of the stretch. -/
theorem resetSourcesComplete : Obligations.ResetSourcesComplete := by
  unfold Obligations.ResetSourcesComplete
  refine ⟨fun _ _ => rfl, fun s n => exec_resetNAssert_long, fun s => exec_perstNAssert_warm,
    fun s => exec_perstNAssert_block, fun _ => rfl, fun s => exec_watchdogExpiry_armed, ?remote,
    fun s mv low => exec_resetStretchEnd_free (rails := ⟨mv, low⟩),
    fun s mv low => exec_resetStretchEnd_held (rails := ⟨mv, low⟩), fun s => exec_resetOutRelease,
    fun s => exec_wdogRunClear⟩
  case remote =>
    exact fun s node cold h => ⟨_, exec_remoteResetRequest_enabled node cold h, rfl, rfl,
      mem_sources_assertReset .remote cold 0 s, rfl⟩

/-! Block resets. -/

/-- A block that is idle has its reset applied (04 R118 step 3). -/
theorem exec_blockIdle {s : State} {b : Fin 84} {x : BlockReset} (hx : s.waitingBlock b.val = some x)
    (hidle : s.blockBusy b.val = false) :
    exec (.blockIdle b) s = .next (countBy (devCtr 17) (blockApply x false s).2
      (setBlock b.val (fun y => { y with applied := true, appliedAt := s.now, discarded := (blockApply x false s).2 })
        (blockApply x false s).1)) := by
  change execBlockIdle b s = _
  simp [execBlockIdle, hx, hidle]

/-- At the timeout the reset of a block whose work the model does not hold is applied with the unit's own count (04 R118). -/
theorem exec_blockResetTimeout_unit {s : State} {b : Fin 84} {x : BlockReset} (n : Nat)
    (hx : s.waitingBlock b.val = some x) (hlow : 64 ≤ b.val) (h79 : b.val ≠ 79) (h82 : b.val ≠ 82) :
    exec (.blockResetTimeout b n) s = .next (countBy (devCtr 17) n (setBlock b.val
      (fun y => { y with
        applied := true, timedOut := true, appliedAt := max s.now (x.startedAt + x.timeoutNs), discarded := n })
      (blockApply x true (advance (x.startedAt + x.timeoutNs) s)).1)) := by
  have hunit : ¬ (b.val < 64 ∨ b.val = 79) := by omega
  change execBlockResetTimeout b n s = _
  simp only [execBlockResetTimeout, hx, if_neg hunit, if_neg h82, advance_now]

/-- The state in which a block comes out of its reset, at least 20 µs after that was applied (04 R118). -/
def blockOut (b : Nat) (x : BlockReset) (s : State) : State :=
  { advance (x.appliedAt + 20000) s with
    power := { s.power with blocks := s.power.blocks.filter fun y => y.block != b } }

/-- The block has returned, its release is reported, and an engine asks for work again (04 R118). -/
def blockReleased (b : Nat) (x : BlockReset) (s : State) : State :=
  let r := blockReturn b (blockOut b x s)
  let s1 := raiseBlockDone { x with discarded := x.discarded + r.2 } r.1
  if b < 64 then grantAll s1 else s1

/-- The return and its report leave the clock and the reset controller as the block came out. -/
theorem resetPart_blockReleased (b : Nat) (x : BlockReset) (s : State) :
    resetPart (blockReleased b x s) = resetPart (blockOut b x s) := by
  simp [blockReleased, raiseBlockDone]

/-- A release for which no command waits (04 R118). -/
theorem exec_blockResetRelease_quiet {s : State} {b : Fin 84} {x : BlockReset}
    (hx : (s.power.blocks.find? fun y => y.block == b.val && y.applied) = some x)
    (hperst : b.val = 83 → s.power.perstLow = false) (hnone : x.entries = []) :
    exec (.blockResetRelease b) s = .next (blockReleased b.val x s) := by
  have hfree : ¬ (b.val = 83 ∧ s.power.perstLow = true) := fun h => by simp [hperst h.1] at h
  change execBlockResetRelease b s = _
  simp only [execBlockResetRelease, hx, if_neg hfree, hnone, List.foldl_nil]
  rfl

/-- Settles O25: what a release runs through leaves the clock and the reset controller as `blockOut` put them. -/
theorem blockResetsComplete : Obligations.BlockResetsComplete := by
  unfold Obligations.BlockResetsComplete
  refine ⟨?idle, ?timeout, ?release⟩
  case idle =>
    rintro s b x r hx hidle rfl
    exact exec_blockIdle hx hidle
  case timeout =>
    rintro s b x n s1 r hx hlow h79 h82 rfl rfl
    exact exec_blockResetTimeout_unit n hx hlow h79 h82
  case release =>
    intro s b x hx hperst hnone
    refine ⟨_, exec_blockResetRelease_quiet hx hperst hnone, ?_⟩
    rw [now_of_resetPart (resetPart_blockReleased b.val x s), power_of_resetPart (resetPart_blockReleased b.val x s)]
    exact ⟨rfl, rfl⟩

end Sys2Proof.Machine

/-! From option loading to STANDBY, and HALT (04 R111, R114, R121; 05 Table 5-5, R141 to R143; 15 R475). -/
namespace Sys2Proof.Machine

/-- Settles O43: the state that the model starts in, field by field. -/
theorem resetState : Obligations.ResetState := by
  unfold Obligations.ResetState
  exact ⟨modeOk_reset, rfl, rfl, rfl, by decide, fun _ => rfl, rfl, rfl, rfl, fun _ => rfl, rfl⟩

/-! What option loading leaves (04 R114, R121). -/

theorem adoptAddress_eq (straps : Straps) (s : State) :
    adoptAddress straps s = { s with mgmt := (adoptAddress straps s).mgmt } := by
  unfold adoptAddress
  split <;> rfl

theorem cold_loadMemory (s : State) : (loadMemory s).power.cold = s.power.cold := by
  unfold loadMemory
  split <;> rfl

theorem cause_loadMemory (s : State) : (loadMemory s).cause = s.cause := by
  unfold loadMemory
  split <;> rfl

theorem rmem_loadMemory_cold {s : State} (h : s.power.cold = true) : (loadMemory s).rmem = [] := by
  rw [loadMemory, if_pos h]

@[simp] theorem cold_shadowLoaded (straps : Straps) (s : State) : (shadowLoaded straps s).power.cold = s.power.cold := by
  rw [shadowLoaded, adoptAddress_eq]
  exact cold_loadMemory _

@[simp] theorem cause_shadowLoaded (straps : Straps) (s : State) :
    (shadowLoaded straps s).cause = causeAfter s.power s.cause := by
  rw [shadowLoaded, adoptAddress_eq]
  exact cause_loadMemory _

theorem rmem_shadowLoaded_cold (straps : Straps) {s : State} (h : s.power.cold = true) :
    (shadowLoaded straps s).rmem = [] := by
  rw [shadowLoaded, adoptAddress_eq]
  exact rmem_loadMemory_cold h

/-! Changes of mode outside of DIAGNOSTIC (05 R145, R146). -/

theorem bankTime_eq (new : Mode) (s : State) : bankTime new s = { s with power := (bankTime new s).power } := by
  unfold bankTime
  split <;> rfl

/-- A change of mode writes the mode register, the banked time and, on the way to STANDBY, the trial's start. -/
theorem switchMode_eq {new : Mode} {s : State} (h : s.mode.current ≠ .diagnostic) :
    switchMode new s = { s with
      power := (bankTime new s).power, mode := s.mode.switched new, fw := (switchMode new s).fw } := by
  have hnot : ¬ (s.mode.current = .diagnostic ∧ new = .standby) := fun hd => h hd.1
  unfold switchMode
  rw [bankTime_eq]
  dsimp only
  rw [if_neg hnot]
  split <;> rfl

/-- STRAP and LOADER are no counted modes, so that no running time is banked between them (04 R108). -/
theorem switchMode_loader {s : State} (h : s.mode.current = .strap) :
    switchMode .loader s = { s with mode := s.mode.switched .loader } := by
  simp [switchMode, bankTime, countedMode, h, ModeReg.switched]

/-! The ROM and Rhoper start (04 R111, R112; 05 Table 5-5). -/

/-- The state in which the ROM chooses what to boot (04 R111, R112). -/
def romStarted (s : State) : State :=
  resumeDownload (startController { s with
    mode := { s.mode.switched .loader with steward := .rom }, boot := { s.boot with stage := 2 },
    power := { s.power with romSince := s.now } })

theorem resumeDownload_eq (s : State) : resumeDownload s = { s with fw := (resumeDownload s).fw } := by
  unfold resumeDownload
  dsimp only
  split <;> rfl

theorem romStarted_power (s : State) : (romStarted s).power = { s.power with romSince := s.now } := by
  rw [romStarted, resumeDownload_eq]
  rfl

theorem romStarted_boot (s : State) : (romStarted s).boot = { s.boot with stage := 2 } := by
  rw [romStarted, resumeDownload_eq]
  rfl

/-- What the ROM goes on with: RECOVERY where no boot may follow, else its boot source (04 R108; 05 Tables 5-2, 5-5). -/
def romNext (s : State) : State :=
  if s.power.wdogFull && !s.power.cold && decide (ResetSource.watchdog ∈ s.power.sources) then enterRecovery s
  else match s.boot.straps.bootSrc.toNat with
    | 0 => enterRecovery s
    | 1 => linksApply 0 s
    | 2 => s
    | _ => romChoose s

/-- Boot source 2 is the host, which the ROM waits for. -/
theorem romNext_host {s : State} (hw : s.power.wdogFull = false) (hb : s.boot.straps.bootSrc = 2) : romNext s = s := by
  simp [romNext, hw, hb]

theorem exec_resetWaveComplete {s : State} (hm : s.mode.current = .strap) (hs : s.boot.stage = 1)
    (hl : s.power.refclkLocked = true) : exec .resetWaveComplete s = .next (romNext (romStarted s)) := by
  change execResetWaveComplete s = _
  rw [execResetWaveComplete, if_neg (by simp [hm, hs, hl]), switchMode_loader hm]
  rfl

@[simp] theorem resetPart_recoverLog (warm : Bool) (s : State) : resetPart (recoverLog warm s) = resetPart s := by
  simp [recoverLog, appendLog]

theorem mode_recoverLog (warm : Bool) (s : State) : (recoverLog warm s).mode = s.mode :=
  held_fields (held_recoverLog warm s)

/-- The state in which Rhoper has the Steward (04 R108; 16 R504). -/
def rhoperStarted (s : State) : State :=
  { s with
    mode := { s.mode with steward := .rhoper },
    boot := { s.boot with stage := 4, slot := s.boot.slot && s.fw.image.isNone, trial := s.boot.trial && s.fw.image.isNone },
    power := { s.power with wdogArmed := true, runNs := 0, pinsConfigured := true },
    fw := { s.fw with headerStaged := [], staging := [], started := false } }

theorem exec_rhoperStart {s : State} (hm : s.mode.current = .loader) (hr : s.inRom = true) (hf : s.fw.started = true) :
    exec .rhoperStart s = .next (recoverLog (!s.power.cold) (rhoperStarted s)) := by
  change execRhoperStart s = _
  rw [execRhoperStart, if_neg (by simp [hm, hr, hf])]
  rfl

/-- The settings are loaded and the Vault is up: what the change to STANDBY starts from (04 R111; 07 R212). -/
def bootLoaded (s : State) : State :=
  let s1 := bootSettings (completeBurn { s with boot := { s.boot with stage := 5 } })
  { s1 with boot := { s1.boot with stage := 6 }, power := { s1.power with vaultUp := true } }

theorem held_bootLoaded (s : State) : held (bootLoaded s) = held s := by
  simp [bootLoaded]

/-- Rhoper in STANDBY, with its units started (05 Table 5-1). -/
def standbyEntered (s : State) : State :=
  raiseMode 2 (startUnits (governorStart (switchMode .standby (bootLoaded s))))

theorem exec_bootComplete {s : State} (hm : s.mode.current = .loader) (hr : s.rhoper = true) :
    exec .bootComplete s = .next (standbyEntered s) := by
  change execBootComplete s = _
  rw [execBootComplete, if_neg (by simp [hm, hr])]
  rfl

theorem mode_bootLoaded (s : State) : (bootLoaded s).mode = s.mode :=
  held_fields (held_bootLoaded s)

theorem mode_standbyEntered (s : State) : (standbyEntered s).mode = s.mode.switched .standby := by
  have hheld : held (standbyEntered s) = held (switchMode .standby (bootLoaded s)) := by simp [standbyEntered]
  rw [← held_mode, hheld, held_switchMode, mode_bootLoaded]

theorem stage_standbyEntered {s : State} (hm : s.mode.current = .loader) : (standbyEntered s).boot.stage = 6 := by
  have hpart : resetPart (standbyEntered s) = resetPart (switchMode .standby (bootLoaded s)) := by
    simp [standbyEntered, raiseMode]
  rw [boot_of_resetPart hpart, switchMode_eq (by simp [mode_bootLoaded, hm])]
  rfl

/-! RECOVERY and HALT (05 Tables 5-1 and 5-5, R141 to R143). -/

theorem mode_enterRecovery (s : State) : (enterRecovery s).mode = s.mode.switched .recovery := by
  rw [← held_mode, held_enterRecovery]

/-- RECOVERY is entered at its boot stage, and the clock stands (05 Table 5-5). -/
theorem enterRecovery_stage {s : State} (h : s.mode.current ≠ .diagnostic) :
    (enterRecovery s).boot.stage = 0xF ∧ (enterRecovery s).now = s.now := by
  unfold enterRecovery
  dsimp only
  rw [boot_of_resetPart (resetPart_linksApply 7 _), now_of_resetPart (resetPart_linksApply 7 _), switchMode_eq h]
  exact ⟨rfl, rfl⟩

theorem exec_tylaneBootTimeout {s : State} (hm : s.mode.current = .loader) (hr : s.inRom = true)
    (hb : s.boot.straps.bootSrc = 1) (hf : s.fw.started = false) :
    exec .tylaneBootTimeout s = .next (enterRecovery (advance (s.power.romSince + 60000000000) s)) := by
  change execTylaneBootTimeout s = _
  simp [execTylaneBootTimeout, hm, hr, hb, hf]

theorem irq_sendCause (s : State) : (sendCause s).irq = s.irq := by
  unfold sendCause land
  dsimp only
  (repeat' split) <;> rfl

/-- HALT sets FATAL (06 R183). -/
theorem fatal_enterHalt (c : Nat) (s : State) : (enterHalt c s).irq.fatal = true := by
  unfold enterHalt
  dsimp only
  split
  · rfl
  · rw [irq_sendCause]
    rfl

/-- Settles O23: each stage of the boot, and HALT, by what it leaves of the mode register, BOOT_STATUS and the clock. -/
theorem bootAndHaltComplete : Obligations.BootAndHaltComplete := by
  unfold Obligations.BootAndHaltComplete
  refine ⟨?options, ?refclk, ?pcie, ?timeBase, ?wave, ?rhoper, ?complete, ?timeout, ?lockstep, ?sram, ?assertion, ?halt⟩
  case options =>
    intro s straps h
    refine ⟨_, exec_optionLoadingDone straps false h, rfl, rfl, ?_, rfl, cause_shadowLoaded straps s, fun hc => ?_,
      fun hc => ?_⟩
    · exact congrArg (!·) (cold_shadowLoaded straps s)
    · exact ⟨(bkp_shadowLoaded straps s).trans (if_pos hc), rmem_shadowLoaded_cold straps hc⟩
    · exact (bkp_shadowLoaded straps s).trans (if_neg (by simp [hc]))
  case refclk =>
    intro s ha hl
    change execIslandPllLock .refclk s = _
    simp [execIslandPllLock, ha, hl]
  case pcie =>
    intro s ha hl
    change execIslandPllLock .pcie s = _
    simp [execIslandPllLock, ha, hl]
  case timeBase =>
    intro s ha hl
    change execIslandPllLock .timeBase s = _
    simp [execIslandPllLock, ha, hl]
  case wave =>
    intro s hm hs hl hb hw
    refine ⟨_, exec_resetWaveComplete hm hs hl, ?_⟩
    rw [romNext_host (by rw [romStarted_power]; exact hw) (by rw [romStarted_boot]; exact hb), romStarted,
      resumeDownload_eq]
    exact ⟨rfl, rfl, hm, rfl, rfl, rfl, rfl⟩
  case rhoper =>
    intro s hm hr hf
    refine ⟨_, exec_rhoperStart hm hr hf, ?_⟩
    rw [mode_recoverLog, boot_of_resetPart (resetPart_recoverLog _ _), power_of_resetPart (resetPart_recoverLog _ _)]
    exact ⟨rfl, hm, rfl, rfl⟩
  case complete =>
    intro s hm hr
    refine ⟨_, exec_bootComplete hm hr, ?_⟩
    rw [mode_standbyEntered, stage_standbyEntered hm]
    exact ⟨rfl, hm, rfl, rfl⟩
  case timeout =>
    intro s hm hr hb hf
    have hstage := enterRecovery_stage (s := advance (s.power.romSince + 60000000000) s) (by simp [hm])
    refine ⟨_, exec_tylaneBootTimeout hm hr hb hf, ?_⟩
    rw [mode_enterRecovery]
    exact ⟨rfl, hm, hstage⟩
  case lockstep => exact fun s h => congrArg Host.Outcome.next (if_pos h)
  case sram => exact fun s h => congrArg Host.Outcome.next (if_pos h)
  case assertion => exact fun s h hr => congrArg Host.Outcome.next (if_pos (by simp [State.rhoper, h, hr]))
  case halt =>
    intro s c
    have hmode := congrArg Held.mode (held_enterHalt c s)
    exact ⟨congrArg ModeReg.current hmode, congrArg ModeReg.haltCause hmode, congrArg ModeReg.steward hmode,
      fatal_enterHalt c s⟩

end Sys2Proof.Machine

/-! The mode register through a step (05 R145, R150, R151). -/
namespace Sys2Proof.Machine

/-- Every command keeps the queue behind it, and the mode register legal. -/
theorem kept_exec {c : Instr} {s t : State} (h : exec c s = .next t) : Kept s t := by
  cases hc : writesKept c with
  | false => exact (steady_exec hc h).kept
  | true =>
    obtain ⟨offset, data, rfl⟩ | ⟨w, rfl⟩ | ⟨straps, fuseError, rfl⟩ | rfl := writesKept_cases hc
    · cases h
      exact kept_barWrite _ offset data s
    · cases h
      exact ⟨rfl, id⟩
    · exact kept_execOptionLoadingDone straps fuseError s t h
    · obtain ⟨hpending, hmode, _, _⟩ := kept_execWdogRunClear s t h
      exact ⟨hpending, fun hlegal => hmode ▸ hlegal⟩

/-- Settles O42: an idle step leaves the mode register alone, and any other step carries out a command. -/
theorem modeRegisterStaysLegal : Obligations.ModeRegisterStaysLegal := by
  unfold Obligations.ModeRegisterStaysLegal
  intro s t hlegal h
  unfold step at h
  split at h
  next => cases h; exact hlegal
  next c rest _ => exact (kept_exec h).mode hlegal

end Sys2Proof.Machine

/-! What completes a command or ends a Ledger write leaves the clock and the supply watch alone (04 R102, R104; 17 R516,
R526). -/
namespace Sys2Proof.Machine

@[simp] theorem resetPart_hostWrite (address : Nat) (bytes : List Byte) (s : State) :
    resetPart (hostWrite address bytes s) = resetPart s :=
  resetPart_of_unreported (unreported_hostWrite address bytes s)

@[simp] theorem resetPart_writeCompletion (cc : Nat) (fields : List Fld) (s : State) :
    resetPart (writeCompletion cc fields s) = resetPart s := by
  simp [writeCompletion]

@[simp] theorem resetPart_dmbComplete (fields : List Fld) (s : State) : resetPart (dmbComplete fields s) = resetPart s :=
  resetPart_of_unreported (unreported_issue _ s)

@[simp] theorem resetPart_mgmtComplete (fields : List Fld) (s : State) :
    resetPart (mgmtComplete fields s) = resetPart s := rfl

@[simp] theorem resetPart_postTo (src : Source) (cc : Nat) (discard : Bool) (op : Nat) (tag : BitVec 16) (status : Byte)
    (extra result : Nat) (data : List Byte) (s : State) :
    resetPart (postTo src cc discard op tag status extra result data s) = resetPart s := by
  cases src <;> simp [postTo]

@[simp] theorem resetPart_finish (e : Entry) (status : Byte) (result : List Fld) (s : State) :
    resetPart (finish e status result s) = resetPart s := by
  unfold finish
  split
  · rfl
  · exact (resetPart_foldl (fun s j => resetPart_postTo ..) _ _).trans (resetPart_postTo ..)

/-- The clock, and whether POWER_WARN_N is in effect (04 R102). -/
def warnPart (s : State) : Nat × Bool := (s.now, s.power.warnActive)

theorem warnPart_of_resetPart {s t : State} (h : resetPart t = resetPart s) : warnPart t = warnPart s :=
  (congrArg (fun x => (x.1, x.2.1.warnActive)) h :)

theorem warnPart_assertReset (src : ResetSource) (cold : Bool) (lowNs : Nat) (s : State) :
    warnPart (assertReset src cold lowNs s) = warnPart s := rfl

theorem warnPart_enterRecovery {s : State} (h : s.mode.current = .loader) :
    warnPart (enterRecovery s) = warnPart s := by
  have hbank : (bankTime .recovery s).power = s.power := by simp [bankTime, countedMode, h]
  unfold enterRecovery
  dsimp only
  rw [warnPart_of_resetPart (resetPart_linksApply 7 _), switchMode_eq (by simp [h]), hbank]
  rfl

theorem warnPart_bootFrom (slot : Nat) (trial other : Bool) {s : State} (h : s.mode.current = .loader) :
    warnPart (bootFrom slot trial other s) = warnPart s := by
  unfold bootFrom
  dsimp only
  (repeat' split)
  · rfl
  · rfl
  · exact warnPart_enterRecovery h

theorem warnPart_wornOut (s : State) (w : LedgerWrite) : warnPart (wornOut s w) = warnPart s := by
  unfold wornOut
  split
  case h_1 => rfl
  case h_2 =>
    unfold romResumes
    split
    next hrom => exact warnPart_bootFrom _ _ _ (of_decide_eq_true (Bool.and_eq_true_iff.mp hrom).1)
    next => rfl
  case h_3 =>
    split
    · exact warnPart_of_resetPart (resetPart_finish ..)
    · rfl
  case h_4 =>
    split
    · exact warnPart_assertReset ..
    · rfl

/-- The next write of the Ledger moves no clock and ends no warning (17 R516). -/
theorem warnPart_ledgerNext (s : State) : warnPart (ledgerNext s) = warnPart s := by
  have hworn : ∀ (l : List LedgerWrite) (u : State), warnPart (l.foldl wornOut u) = warnPart u := by
    intro l
    induction l with
    | nil => exact fun _ => rfl
    | cons w rest ih => exact fun u => (ih _).trans (warnPart_wornOut u w)
  exact (hworn _ _).trans (warnPart_of_resetPart (resetPart_ledgerStart s))

end Sys2Proof.Machine

/-! Mode transitions, the trial watchdog, power warnings and rail events (02 R36, R43, R45; 04 R102, R104; 05 R145, R151,
R156; 17 R530). -/
namespace Sys2Proof.Machine

@[simp] theorem mode_raiseMode (cause : Nat) (s : State) : (raiseMode cause s).mode = s.mode :=
  held_fields (held_raiseMode cause s)

@[simp] theorem mode_finish (e : Entry) (status : Byte) (result : List Fld) (s : State) :
    (finish e status result s).mode = s.mode :=
  held_fields (held_finish e status result s)

@[simp] theorem mode_switchMode (new : Mode) (s : State) : (switchMode new s).mode = s.mode.switched new :=
  congrArg Held.mode (held_switchMode new s)

/-- A transition ends in its target, and its command's AUTO decides AUTO_STANDBY (05 R145, R146, R151). -/
theorem exec_modeTransitionComplete {s : State} {tr : Transition} (h : s.mode.transition = some tr) :
    ∃ t, exec .modeTransitionComplete s = .next t ∧
      ∃ auto, t.mode = { s.mode.switched tr.target with autoStandby := auto } := by
  refine ⟨_, rfl, ?_⟩
  simp only [h]
  rw [mode_raiseMode]
  split
  · rw [mode_finish, mode_switchMode]
    exact ⟨_, rfl⟩
  · rw [mode_switchMode]
    exact ⟨_, rfl⟩

/-- Without a forced MODE_SET that waits there is nothing to settle (05 R152). -/
theorem settleForce_none {s : State}
    (h : (s.cmds.entries.any fun e => e.op == .modeSet && e.phase == .executing && e.aux == [7]) = false) :
    settleForce s = s := by
  have hfind : (s.cmds.entries.find? fun e => e.op == .modeSet && e.phase == .executing && e.aux == [7]) = none :=
    List.find?_eq_none.mpr fun e he => by simpa using List.any_eq_false.mp h e he
  rw [settleForce, hfind]

/-- DRAIN without a channel goes to STANDBY where AUTO_STANDBY is set (05 R151, R156). -/
theorem exec_autoStandbyEntry {s : State} (hm : s.mode.current = .drain) (hauto : s.mode.autoStandby = true)
    (hempty : s.voice.channels = []) (hstill : s.mode.transition = none)
    (hforce : (s.cmds.entries.any fun e => e.op == .modeSet && e.phase == .executing && e.aux == [7]) = false) :
    exec .autoStandbyEntry s = .next (raiseMode 1 (switchMode .standby s)) := by
  change execAutoStandbyEntry s = _
  simp [execAutoStandbyEntry, settleForce_none hforce, hm, hauto, hempty, hstill]

/-- A write to a word that is not worn starts at once on an idle Ledger (17 R516, R517). -/
theorem ledgerPut_idle {s : State} {w : LedgerWrite} (hworn : s.worn w.word = false) (hq : s.ledger.queue = [])
    (hwarn : s.power.warnActive = false) (hs : s.ledger.started = false) :
    ledgerPut w s = ({ s with ledger := { s.ledger with queue := [w], started := true } }, false) := by
  have hqueue : ledgerPut w s = (fun r => (r.1, !r.2.isEmpty))
      (ledgerStart { s with ledger := { s.ledger with queue := [w] } }) := by rw [ledgerPut, hq]; rfl
  have hword : ({ s with ledger := { s.ledger with queue := [w] } } : State).worn w.word = false := hworn
  have hfree : ¬ (s.ledger.started || s.power.warnActive) = true := by simp [hs, hwarn]
  rw [hqueue, ledgerStart, if_neg hfree]
  dsimp only
  rw [List.takeWhile_cons_of_neg (by simp [hword]), List.dropWhile_cons_of_neg (by simp [hword])]
  rfl

/-- The write that ends a trial: REVERT_NEXT, with cause 1 (17 R530, Table 17-5). -/
def State.revertWrite (s : State) : LedgerWrite :=
  ⟨wBootCtrl, BitVec.ofNat 32 (withBits (withBits s.bootCtrl 5 1 1) 19 2 1), .rhoper none⟩

/-- The trial has run out, and a reset follows the write that ends it (17 R530). -/
def trialOver (since : Nat) (s : State) : State :=
  { advance (since + 10000000000 * bitsOf s.bootCtrl 8 8) s with
    fw := { s.fw with trialSince := none, revertReset := true } }

theorem exec_trialWatchdogExpiry {s : State} {since : Nat} (hsince : s.fw.trialSince = some since)
    (hr : s.rhoper = true) (hopen : s.trialOpen = true)
    (hnone : (s.cmds.entries.any fun e => e.op == .imageConfirm && e.phase == .executing) = false)
    (hworn : s.worn wBootCtrl = false) (hq : s.ledger.queue = []) (hwarn : s.power.warnActive = false)
    (hs : s.ledger.started = false) :
    exec .trialWatchdogExpiry s = .next { trialOver since s with
      ledger := { s.ledger with queue := [s.revertWrite], started := true } } := by
  have hput : ledgerPut s.revertWrite (trialOver since s) = ({ trialOver since s with
      ledger := { s.ledger with queue := [s.revertWrite], started := true } }, false) :=
    ledgerPut_idle hworn hq hwarn hs
  have hexpired : execTrialWatchdogExpiry s = .next ((fun r : State × Bool =>
      if r.2 then assertReset .resetCtrl false 0 r.1 else r.1) (ledgerPut s.revertWrite (trialOver since s))) := by
    rw [execTrialWatchdogExpiry, hsince]
    simp only [hr, hopen, hnone, Bool.not_true, Bool.or_self, Bool.false_eq_true, if_false]
    rfl
  change execTrialWatchdogExpiry s = _
  rw [hexpired, hput]
  rfl

/-- A low level of more than 200 ns takes effect, until 100 µs after its end (04 R102, R104). -/
theorem exec_powerWarnAssert {s : State} {n : Nat} (hn : 200 < n) (hwarn : s.power.warnActive = false) :
    ∃ t, exec (.powerWarnAssert n) s = .next t ∧ ∃ refused, t.power = { s.power with
      warnActive := true, warnSince := s.now, warnDue := s.now + n + 100000, warnRefused := refused } := by
  have htaken : warnTaken n s = true := by
    rw [warnTaken, if_neg (by omega), if_neg (by omega)]
  refine ⟨_, rfl, ?_⟩
  simp only [htaken, hwarn, Bool.not_true, Bool.false_eq_true, if_false]
  rw [power_of_resetPart (resetPart_raise ..), power_of_resetPart (resetPart_countBy ..)]
  exact ⟨_, rfl⟩

/-- At its end the warning is no longer in effect, and the clock has reached that instant (04 R104). -/
theorem exec_powerWarnRelease {s : State} (hwarn : s.power.warnActive = true) :
    ∃ t, exec .powerWarnRelease s = .next t ∧ warnPart t = (max s.now s.power.warnDue, false) := by
  refine ⟨_, rfl, ?_⟩
  simp only [hwarn, Bool.not_true, Bool.false_eq_true, if_false]
  rw [warnPart_ledgerNext, warnPart_of_resetPart (resetPart_raise ..)]
  rfl

/-- A step down is counted, dated and checked (02 R43, R45, R46). -/
theorem stepTarget_down {mv : Nat} {s : State} (h : mv < s.gov.targetMv) :
    stepTarget mv s = count (devCtr 3) { writeTarget mv s with
      gov := { (writeTarget mv s).gov with lastStepDown := s.now } } := by
  have hup : ¬ s.gov.targetMv < mv := by omega
  simp [stepTarget, Nat.ne_of_lt h, hup, writeTarget]

@[simp] theorem gov_count (c : Ctr) (s : State) : (count c s).gov = s.gov :=
  congrArg (·.gov) (unreported_count c s)

@[simp] theorem now_count (c : Ctr) (s : State) : (count c s).now = s.now :=
  congrArg (·.now) (unreported_count c s)

/-- TRACKING steps down once the spare has lasted 1 s and the last step lies 100 ms back (02 R43). -/
theorem exec_governorStepDown {s : State} {since : Nat} (hsince : s.gov.spareSince = some since)
    (hr : s.rhoper = true) (hstart : s.gov.started = true) (hfault : s.gov.fault = false)
    (hmode : s.cfg.governor.mode = 2) (hload : s.gov.loadChangedIn = 0) (hraise : s.raiseUnderWay = false) :
    exec .governorStepDown s = .next (stepTarget (max (s.gov.targetMv - 5) s.cfg.governor.floorMv)
      (advance (max (since + 1000000000) (s.gov.lastStepDown + 100000000)) s)) := by
  change execGovernorStepDown s = _
  simp [execGovernorStepDown, hsince, hr, hstart, hfault, hmode, hload, hraise]

/-- No GOVERNOR_SET waits for its raise (02 R58). -/
theorem raiseOn_none {s : State} (h : s.gov.setEntry = none) : raiseOn s = s := by
  simp [raiseOn, h]

/-- No command and no arriving channel waits for the raise (02 R64). -/
theorem raiseWaiting_none {s : State} (hw : s.gov.raiseWaiters = []) (ha : s.cluster.arrivals = []) :
    raiseWaiting s = s := by
  simp [raiseWaiting, hw, ha]

/-- The check of the only write finds the rail at its target (02 R45). -/
theorem exec_avsCheck_met {s : State} {due : Nat} (hchecks : s.gov.checks = [(due, s.gov.targetMv)])
    (hr : s.rhoper = true) (hset : s.gov.setEntry = none) (hwaiters : s.gov.raiseWaiters = [])
    (harrivals : s.cluster.arrivals = []) (hrail : s.effectiveRail 0 s.gov.targetMv = s.gov.targetMv) :
    exec (.avsCheck true s.gov.targetMv) s = .next { advance due s with
      gov := { s.gov with checks := [], ackedMv := s.gov.targetMv, failures := 0 },
      tele := { s.tele with rails := s.tele.rails.set 0 s.gov.targetMv } } := by
  have hcheck : avsCheck true s.gov.targetMv s = { advance due s with
      gov := { s.gov with checks := [], ackedMv := s.gov.targetMv, failures := 0 },
      tele := { s.tele with rails := s.tele.rails.set 0 s.gov.targetMv } } := by
    simp only [avsCheck, hchecks, hrail]
    rw [if_neg (by simp), if_neg (by simp [railOff]), raiseOn_none (by simpa using hset)]
    rfl
  change execAvsCheck true _ s = _
  rw [execAvsCheck, hcheck, raiseWaiting_none (by simpa using hwaiters) (by simpa using harrivals)]
  simp [hchecks, hr]

/-- The rails as last read, and the governor's target (02 R36, R59). -/
def railPart (s : State) : List Nat × Nat := (s.tele.rails, s.gov.targetMv)

theorem railPart_of_unreported {s t : State} (h : unreported t = unreported s) : railPart t = railPart s :=
  (congrArg railPart h :)

/-- A fall of VDD_CORE is recorded, reported or only counted, and the target stays (02 R36). -/
theorem railPart_railLow (mv : Nat) (s : State) : railPart (railLow mv s) = (s.tele.rails.set 0 mv, s.gov.targetMv) := by
  unfold railLow
  dsimp only
  rw [apply_ite railPart]
  refine (ite_congr rfl (fun _ => ?counted) (fun _ => ?reported)).trans (ite_self _)
  case counted => exact railPart_of_unreported (unreported_count ..)
  case reported =>
    exact (railPart_of_unreported (unreported_raise ..)).trans (railPart_of_unreported (unreported_count ..))

theorem exec_vddCoreLow_fall {s : State} {mv : Nat} (hdefined : 600 ≤ mv) (hlow : s.effectiveRail 0 mv < 640) :
    exec (.vddCoreLow mv) s = .next (railLow (s.effectiveRail 0 mv) s) := by
  rw [exec_vddCoreLow_defined s hdefined, if_pos hlow]

/-- Settles O24: one lemma for each event, by what it leaves of the mode register, the supply watch or the governor. -/
theorem modeAndPowerEventsComplete : Obligations.ModeAndPowerEventsComplete := by
  unfold Obligations.ModeAndPowerEventsComplete
  refine ⟨?transition, ?autoStandby, ?trial, ?warn, ?release, ?stepDown, ?avs, ?low⟩
  case transition =>
    intro s tr h
    obtain ⟨t, ht, auto, hmode⟩ := exec_modeTransitionComplete h
    exact ⟨t, ht, by rw [hmode]; exact ⟨rfl, rfl, rfl, rfl⟩⟩
  case autoStandby =>
    intro s hm hauto hempty hstill hforce
    refine ⟨_, exec_autoStandbyEntry hm hauto hempty hstill hforce, ?_⟩
    rw [mode_raiseMode, mode_switchMode]
    exact ⟨rfl, hm, rfl, Bool.and_false _⟩
  case trial =>
    intro s since hsince hr hopen hnone hworn hq hwarn hs
    exact ⟨_, exec_trialWatchdogExpiry hsince hr hopen hnone hworn hq hwarn hs, rfl, rfl, rfl, rfl, rfl⟩
  case warn =>
    intro s n hn hwarn
    obtain ⟨t, ht, refused, hpower⟩ := exec_powerWarnAssert hn hwarn
    exact ⟨t, ht, by rw [hpower]; exact ⟨rfl, rfl, rfl⟩⟩
  case release =>
    intro s hwarn
    obtain ⟨t, ht, hpart⟩ := exec_powerWarnRelease hwarn
    exact ⟨t, ht, congrArg (·.2) hpart, congrArg (·.1) hpart⟩
  case stepDown =>
    intro s since hsince hr hstart hfault hmode hload hraise hfloor
    refine ⟨_, exec_governorStepDown hsince hr hstart hfault hmode hload hraise, ?_⟩
    rw [stepTarget_down (by rw [advance_gov]; omega), gov_count, now_count]
    exact ⟨rfl, rfl, rfl⟩
  case avs =>
    intro s due hchecks hr hset hwaiters harrivals hrail
    exact ⟨_, exec_avsCheck_met hchecks hr hset hwaiters harrivals hrail, rfl, rfl, rfl, rfl, rfl⟩
  case low =>
    rintro s mv low hdefined rfl hlow
    have hpart := railPart_railLow (s.effectiveRail 0 mv) s
    exact ⟨_, exec_vddCoreLow_fall hdefined hlow, congrArg (·.1) hpart, congrArg (·.2) hpart⟩

end Sys2Proof.Machine

/-! MODE_SET, BOOT_SLOT, DEVICE_RESET and RESET_POLICY_SET (04 R127, R128; 05 R150 to R153). -/
namespace Sys2Proof.Machine

/-- Where no offset is bad every check passes (07 R201 step 6). -/
theorem need_of_badOffset {cs : List Check} {o : Nat} {ok : Bool} (h : badOffset cs = none) (hmem : need o ok ∈ cs) :
    ok = true := by
  have hpass : need o ok = none := List.findSome?_eq_none_iff.mp h _ hmem
  by_contra hbad
  rw [need, if_neg hbad] at hpass
  cases hpass

/-- A MODE_SET that does not only read names one of Rhoper's modes (05 Table 5-6). -/
theorem modeSet_target_bounds {c : Cmd} (h : badOffset (modeSetChecks c) = none) (hread : prmByte c 16 ≠ 255) :
    3 ≤ prmByte c 16 ∧ prmByte c 16 ≤ 6 := by
  have htarget := need_of_badOffset h List.mem_cons_self
  simpa [hread] using htarget

theorem modePair_ne {a b : Mode} (h : modePair a b = true) : a ≠ b := by
  rintro rfl
  cases a <;> cases h

/-- Without a channel a change between two modes of Table 5-2 begins at once (05 R145, R151). -/
theorem modeSetBegin_begins {e : Entry} {s : State} (hm : s.mode.current ∈ runModes)
    (hc : badOffset (modeSetChecks e.cmd) = none) (hread : prmByte e.cmd 16 ≠ 255)
    (hpair : modePair s.mode.current (modeOf (prmByte e.cmd 16)) = true) (hempty : s.voice.channels = []) :
    modeSetBegin e s = beginTransition (modeOf (prmByte e.cmd 16)) e s := by
  have hmodes : modeSetModes e (prmByte e.cmd 16) = runModes := if_pos (modeSet_target_bounds hc hread)
  unfold modeSetBegin
  dsimp only
  rw [hmodes, checked_pass hm hc]
  simp [hread, (modePair_ne hpair).symm, hpair, hempty]

/-- TARGET 0xFF reads the mode, also in the ROM's modes (05 R150, R151). -/
theorem modeSetBegin_reads {e : Entry} {s : State} (hsrc : e.source ≠ .mgmt)
    (hm : s.mode.current ∈ Mode.loader :: .recovery :: runModes) (hc : badOffset (modeSetChecks e.cmd) = none)
    (hread : prmByte e.cmd 16 = 255) : modeSetBegin e s = finish e stDone (modeResult s) s := by
  have hmodes : modeSetModes e 255 = .loader :: .recovery :: runModes := by simp [modeSetModes, hsrc]
  unfold modeSetBegin
  dsimp only
  rw [hread, hmodes, checked_pass hm hc, if_pos rfl]

/-- The slot that BOOT_SLOT names verifies: the command is done, and the ROM boots it (05 R153). -/
def slotBooted (e : Entry) (s : State) : State :=
  let s1 := switchMode .loader (finish e stDone [] s)
  { s1 with boot := { s1.boot with stage := 3, slot := decide (prmByte e.cmd 16 = 1), trial := false },
            fw := { s1.fw with started := true, image := none } }

theorem mode_slotBooted (e : Entry) (s : State) : (slotBooted e s).mode = s.mode.switched .loader :=
  (mode_switchMode .loader _).trans (congrArg (ModeReg.switched .loader) (mode_finish e stDone [] s))

/-- The effect of BOOT_SLOT (05 R153). -/
def bootSlotEffect (e : Entry) (s : State) : State :=
  if s.slotVerifies (prmByte e.cmd 16) then slotBooted e s else finish e stImageInvalid [] s

theorem exec_bootSlot_verified {src : Source} {c : Cmd} {s : State} (ho : opens .bootSlot src c s = true)
    (ha : accepts [.recovery] [within c 16 1 0 1, reservedBytes c 17 64] s = true)
    (hv : s.slotVerifies (prmByte c 16) = true) :
    exec (.bootSlot src c) s = .next (slotBooted (entryOf .bootSlot src c s) (opened .bootSlot src c s)) := by
  rw [exec_accepted (eff := bootSlotEffect _) rfl ho ha rfl]
  exact congrArg Host.Outcome.next (if_pos hv)

/-- A COLD or WARM request that the Steward takes asserts the reset at once, with no completion (04 R127). -/
theorem deviceResetBegin_asserts {e : Entry} {s : State} (hsrc : e.source ≠ .mgmt) (hscope : prmByte e.cmd 16 ≠ 3)
    (hm : s.mode.current ∈ Mode.recovery :: runModes) (hc : badOffset (deviceResetChecks e.cmd) = none) :
    deviceResetBegin e s = assertReset .deviceReset (decide (prmByte e.cmd 16 = 1)) 0 s := by
  have hmodes : resetModes e (prmByte e.cmd 16) = .recovery :: runModes := by simp [resetModes, hsrc, hscope]
  unfold deviceResetBegin
  dsimp only
  rw [hmodes, checked_pass hm hc, if_neg hscope, if_neg hsrc]

/-- Settles O2: each command opens and passes its checks, and what its beginning leaves is the change of its rule. -/
theorem modeAndResetCommandsComplete : Obligations.ModeAndResetCommandsComplete := by
  unfold Obligations.ModeAndResetCommandsComplete
  refine ⟨?change, ?read, ?bootSlot, ?deviceReset, ?policy⟩
  case change =>
    intro src c s ho ha hread hpair hempty
    obtain ⟨hm, hc⟩ := accepts_iff.mp ha
    exact take_begin ho (modeSetBegin_begins hm hc hread hpair hempty)
  case read =>
    intro src c s ho hread hsrc ha
    obtain ⟨hm, hc⟩ := accepts_iff.mp ha
    exact take_begin ho (modeSetBegin_reads hsrc hm hc hread)
  case bootSlot =>
    intro src c s ho ha hv
    have hm : s.mode.current = .recovery := by simpa using (accepts_iff.mp ha).1
    refine ⟨_, exec_bootSlot_verified ho ha hv, ?_⟩
    rw [mode_slotBooted]
    exact ⟨rfl, hm, rfl, rfl, rfl, rfl⟩
  case deviceReset =>
    intro src c s ho hsrc hscope ha
    obtain ⟨hm, hc⟩ := accepts_iff.mp ha
    exact take_begin ho (deviceResetBegin_asserts hsrc hscope hm hc)
  case policy => exact fun src c s ho ha => exec_accepted (eff := writeWords _ _) rfl ho ha rfl

end Sys2Proof.Machine

/-! The tag of a command from a queue (06 R177, R189). -/
namespace Sys2Proof.Machine

/-- An open CQ command that still posts its completion holds its tag (06 R177). -/
theorem tagInFlight_of_mem {s : State} {e : Entry} {q : Fin 4} {j : Fin 4096} (hmem : e ∈ s.cmds.entries)
    (hsrc : e.source = .cq q j) (hdiscard : e.discard = false) : s.tagInFlight e.cmd.tag = true := by
  refine List.any_eq_true.mpr ⟨e, hmem, ?_⟩
  simp [hsrc, hdiscard]

theorem entryOf_mem_opened (op : Op) (src : Source) (c : Cmd) (s : State) :
    entryOf op src c s ∈ (opened op src c s).cmds.entries :=
  List.mem_append_right _ List.mem_cons_self

/-- The tag check of a CQ command whose tag is in flight (06 R177). -/
theorem tagFault_dup {code : Nat} {q : Fin 4} {j : Fin 4096} {c : Cmd} {s : State} (hrange : c.tag.toNat ≤ 4095)
    (hdup : s.tagInFlight c.tag = true) :
    tagFault code (.cq q j) c s = some (answer (.cq q j) (s.sourceCc (.cq q j)) code c.tag stDupTag 0 0 s) := by
  rw [tagFault, if_neg (Nat.not_lt.mpr hrange), if_pos hdup]

/-- A failed tag check is the whole answer of a source that takes commands (07 R201 step 1). -/
theorem takeCommand_of_tagFault {op : Op} {src : Source} {c : Cmd} {objs : List Obj} {beg : Entry → State → State}
    {s t : State} (htakes : s.takes src = true) (hfault : tagFault (opcodeOf op) src c s = some t) :
    takeCommand op src c objs beg s = t := by
  simp [takeCommand, htakes, hfault]

/-- Settles O47: the open command holds its tag, and the tag check answers the second one. -/
theorem duplicateTag : Obligations.DuplicateTag := by
  unfold Obligations.DuplicateTag
  refine ⟨fun op q j c s _ => ?holds, fun i op q j c s hrow hrun hrange hdup => ?answered⟩
  case holds => exact tagInFlight_of_mem (entryOf_mem_opened op (.cq q j) c s) rfl rfl
  case answered =>
    have htakes : s.takes (.cq q j) = true := hrun
    rw [exec_hostRow hrow, takeCommand_of_tagFault htakes (tagFault_dup hrange hdup)]

end Sys2Proof.Machine

/-! What the host's writes of its queues, doorbells, mailboxes and interrupt registers leave alone (06 R166, R170, R172,
R178, Tables 6-9 and 6-10). -/
namespace Sys2Proof.Machine

/-- A state without what counting and reporting write and without the number of free values drawn. -/
def offTransport (s : State) : State :=
  { unreported s with freeCount := 0 }

theorem offTransport_of_unreported {s t : State} (h : unreported t = unreported s) :
    offTransport t = offTransport s :=
  congrArg (fun u : State => { u with freeCount := 0 }) h

/-- Two states that agree beside the transport differ in its parts alone. -/
theorem eq_of_offTransport {s t : State} (h : offTransport t = offTransport s) :
    t = { s with
      ep := t.ep, link := t.link, eq := t.eq, irq := t.irq, tally := t.tally,
      alw := { s.alw with balances := t.alw.balances }, freeCount := t.freeCount } := by
  have hback : t = { offTransport t with
      ep := t.ep, link := t.link, eq := t.eq, irq := t.irq, tally := t.tally,
      alw := { (offTransport t).alw with balances := t.alw.balances }, freeCount := t.freeCount } := rfl
  rw [h] at hback
  exact hback

theorem offTransport_flushLost (s : State) : offTransport (flushLost s) = offTransport s :=
  offTransport_of_unreported (unreported_flushLost s)

theorem offTransport_hostConfigures (s : State) : offTransport (hostConfigures s) = offTransport s := by
  unfold hostConfigures
  split <;> rfl

theorem offTransport_refuseDoorbell (s : State) : offTransport (refuseDoorbell s) = offTransport s :=
  offTransport_of_unreported ((unreported_irqMessage _ _ _).trans (unreported_count _ _))

theorem offTransport_releaseHold (cc : Nat) (s : State) : offTransport (releaseHold cc s) = offTransport s := by
  unfold releaseHold
  split <;> rfl

theorem offTransport_cqTailWrite (q w : Nat) (s : State) : offTransport (cqTailWrite q w s) = offTransport s := by
  unfold cqTailWrite
  dsimp only
  (repeat' split)
  · rfl
  · exact offTransport_refuseDoorbell s
  · rfl

theorem offTransport_ccHeadWrite (q w : Nat) (s : State) : offTransport (ccHeadWrite q w s) = offTransport s := by
  unfold ccHeadWrite
  dsimp only
  (repeat' split)
  · rfl
  · exact offTransport_refuseDoorbell s
  · exact offTransport_releaseHold q _

theorem offTransport_eqHeadWrite (w : Nat) (s : State) : offTransport (eqHeadWrite w s) = offTransport s := by
  unfold eqHeadWrite
  (repeat' split)
  · rfl
  · exact offTransport_refuseDoorbell s
  · exact offTransport_flushLost _

theorem offTransport_cancelWrite (w : Nat) (s : State) : offTransport (cancelWrite w s) = offTransport s := by
  unfold cancelWrite
  dsimp only
  (repeat' split) <;> rfl

theorem offTransport_intStatusWrite (w : Nat) (s : State) : offTransport (intStatusWrite w s) = offTransport s := by
  unfold intStatusWrite
  split <;> rfl

theorem offTransport_intTestWrite (w : Nat) (s : State) : offTransport (intTestWrite w s) = offTransport s := by
  unfold intTestWrite
  split
  · rfl
  · exact offTransport_of_unreported (unreported_sendVector _ s)

theorem offTransport_dmbCmdWrite (at_ : Nat) (data : List Byte) (s : State) :
    offTransport (dmbCmdWrite at_ data s) = offTransport s := by
  unfold dmbCmdWrite
  split <;> rfl

theorem offTransport_dmbGoWrite (s : State) : offTransport (dmbGoWrite s) = offTransport s := by
  unfold dmbGoWrite
  split
  · rfl
  · exact offTransport_hostConfigures s

theorem offTransport_dmbDoneWrite (s : State) : offTransport (dmbDoneWrite s) = offTransport s := by
  unfold dmbDoneWrite
  split <;> rfl

theorem offTransport_cqCfgWrite (q w : Nat) (s : State) : offTransport (cqCfgWrite q w s) = offTransport s := by
  unfold cqCfgWrite
  dsimp only
  (repeat' split) <;> rfl

theorem offTransport_ccCfgWrite (q w : Nat) (s : State) : offTransport (ccCfgWrite q w s) = offTransport s := by
  unfold ccCfgWrite
  dsimp only
  (repeat' split) <;> rfl

theorem offTransport_eqCfgWrite (w : Nat) (s : State) : offTransport (eqCfgWrite w s) = offTransport s := by
  unfold eqCfgWrite
  dsimp only
  (repeat' split)
  · rfl
  · rfl
  · rfl
  · rfl
  · rfl
  · exact offTransport_flushLost _

theorem offTransport_queueCfgWrite (q w : Nat) (s : State) : offTransport (queueCfgWrite q w s) = offTransport s := by
  have hconfig := offTransport_hostConfigures s
  unfold queueCfgWrite
  dsimp only
  (repeat' split)
  · rfl
  · exact (offTransport_cqCfgWrite ..).trans hconfig
  · exact (offTransport_ccCfgWrite ..).trans hconfig
  · exact (offTransport_eqCfgWrite ..).trans hconfig

theorem offTransport_releaseHeld (s : State) : offTransport (releaseHeld s) = offTransport s := by
  unfold releaseHeld
  split
  · rfl
  · exact offTransport_flushLost _

theorem offTransport_exec_pcieLinkUp {s t : State} (h : exec .pcieLinkUp s = .next t) :
    offTransport t = offTransport s := by
  cases h
  split
  · exact offTransport_releaseHeld _
  · rfl

theorem offTransport_exec_pciePmStateChange {b : Bool} {s t : State} (h : exec (.pciePmStateChange b) s = .next t) :
    offTransport t = offTransport s := by
  cases h
  split
  · exact offTransport_releaseHeld _
  · rfl

/-- Settles O54: each write leaves alone what lies beside the transport, the open commands too. -/
theorem transportWritesChangeTheTransport : Obligations.TransportWritesChangeTheTransport := by
  unfold Obligations.TransportWritesChangeTheTransport
  intro i s t hi h
  have hoff : offTransport t = offTransport s := by
    obtain ⟨q, w, rfl⟩ | ⟨q, w, rfl⟩ | ⟨w, rfl⟩ | ⟨w, rfl⟩ | ⟨w, rfl⟩ | ⟨o, d, rfl⟩ | rfl | rfl | ⟨q, w, rfl⟩ | ⟨b, rfl⟩ |
      rfl | rfl | ⟨w, rfl⟩ := hi
    · cases h
      exact offTransport_cqTailWrite q.val w.toNat s
    · cases h
      exact offTransport_ccHeadWrite q.val w.toNat s
    · cases h
      exact offTransport_eqHeadWrite w.toNat s
    · cases h
      exact offTransport_intStatusWrite w.toNat s
    · cases h
      exact offTransport_intTestWrite w.toNat s
    · cases h
      exact offTransport_dmbCmdWrite o.val d s
    · cases h
      exact offTransport_dmbGoWrite s
    · cases h
      exact offTransport_dmbDoneWrite s
    · cases h
      exact offTransport_queueCfgWrite q.val _ s
    · exact offTransport_exec_pciePmStateChange h
    · exact offTransport_exec_pcieLinkUp h
    · cases h
      rfl
    · cases h
      exact offTransport_cancelWrite w.toNat s
  have hcmds : t.cmds = s.cmds := (congrArg State.cmds hoff :)
  rw [hcmds]
  exact eq_of_offTransport hoff

end Sys2Proof.Machine

/-! Doorbells and the queues that they write (06 R170 to R172, R188). -/
namespace Sys2Proof.Machine

/-- A queue that runs is one of the four. -/
theorem lt_cq_of_enable {s : State} {q : Nat} (h : (s.ep.cq.getD q {}).enable = true) : q < s.ep.cq.length := by
  by_contra hq
  rw [List.getD_eq_default _ _ (Nat.le_of_not_lt hq)] at h
  cases h

theorem cq_setCq_same {s : State} {q : Nat} (f : CommandQueue → CommandQueue) (hq : q < s.ep.cq.length) :
    (setCq q f s).ep.cq.getD q {} = f (s.ep.cq.getD q {}) := by
  simp [upd, hq]

theorem setCq_setCq (q : Nat) (f g : CommandQueue → CommandQueue) (s : State) :
    setCq q g (setCq q f s) = setCq q (g ∘ f) s := by
  simp [setCq, upd, List.modify_modify_eq]

/-- A doorbell within the ring of a queue that runs sets TAIL (06 R172). -/
theorem exec_cqTailDoorbell_accepted {s : State} {q : Fin 4} {w : Word32} (hon : s.endpointOn = true)
    (hen : (s.ep.cq.getD q.val {}).enable = true) (hw : w.toNat < 2 ^ (s.ep.cq.getD q.val {}).log2) :
    exec (.cqTailDoorbell q w) s = .next (setCq q.val (fun c => { c with tail := w.toNat }) s) := by
  change Host.Outcome.next (cqTailWrite q.val w.toNat s) = _
  simp only [cqTailWrite, hon, hen, Bool.not_true, Bool.false_or, Bool.false_eq_true, if_false, decide_eq_true_eq,
    if_neg (Nat.not_le.mpr hw)]

/-- Settles O55: the second doorbell meets the same queue, and its TAIL overwrites the first one's. -/
theorem laterDoorbellSetsTail : Obligations.LaterDoorbellSetsTail := by
  unfold Obligations.LaterDoorbellSetsTail
  intro s t q v w hon hen hv hw hfirst
  have hlt := lt_cq_of_enable hen
  rw [exec_cqTailDoorbell_accepted hon hen hv] at hfirst
  cases hfirst
  have hqueue := cq_setCq_same (fun c => { c with tail := v.toNat }) hlt
  have hsecond := exec_cqTailDoorbell_accepted (s := setCq q.val (fun c => { c with tail := v.toNat }) s) (w := w) hon
    (by rw [hqueue]; exact hen) (by rw [hqueue]; exact hw)
  rw [setCq_setCq] at hsecond
  refine ⟨hsecond.trans (exec_cqTailDoorbell_accepted hon hen hw).symm, _, hsecond, ?_⟩
  rw [cq_setCq_same _ hlt]
  rfl

end Sys2Proof.Machine

/-! HALT signals FATAL (05 R141; 06 R175, R181, R183). -/
namespace Sys2Proof.Machine

/-- The message of a cause of INT_STATUS would go out at once: the endpoint runs, the link holds nothing, and vector 5 is
enabled and unmasked (06 R175, R181, R185). -/
def State.causeGoesOut (s : State) : Bool :=
  s.endpointOn && !s.linkHolds && s.ep.config.msixEnable && !s.ep.config.functionMask && !(s.ep.msix.getD 5 {}).masked

/-- What HALT's signal depends on: whether a message would go out, and FATAL (06 R183). -/
def signalPart (s : State) : Bool × Bool :=
  (s.causeGoesOut, s.irq.fatal)

@[simp] theorem signalPart_setBalance (cls res : Nat) (f : Balance → Balance) (s : State) :
    signalPart (setBalance cls res f s) = signalPart s := rfl

@[simp] theorem signalPart_bump (c : Ctr) (n : Nat) (s : State) : signalPart (bump c n s) = signalPart s := by
  unfold bump
  split <;> rfl

@[simp] theorem signalPart_chargeGrant (cls res size : Nat) (s : State) :
    signalPart (chargeGrant cls res size s) = signalPart s := by
  simp [chargeGrant]

@[simp] theorem signalPart_payRound (cls res n : Nat) (s : State) :
    signalPart (payRound cls res n s).1 = signalPart s := by
  unfold payRound
  split <;> simp

@[simp] theorem signalPart_pay (cls res n : Nat) (s : State) : signalPart (pay cls res n s).1 = signalPart s := by
  unfold pay payNow
  split <;> simp

@[simp] theorem signalPart_land (t : Tlp) (s : State) : signalPart (land t s) = signalPart s := by
  unfold land
  split
  · rfl
  · cases t with
    | mailbox d => rfl
    | write a d => dsimp only; split <;> rfl
    | message v => dsimp only; split <;> rfl

@[simp] theorem signalPart_issue (t : Tlp) (s : State) : signalPart (issue t s) = signalPart s := by
  have hpay := signalPart_pay 2 1 t.accesses s
  unfold issue
  dsimp only
  (repeat' split)
  · rfl
  · rw [signalPart_land, hpay]
  · exact hpay
  · exact hpay

@[simp] theorem signalPart_sendVector (v : Nat) (s : State) : signalPart (sendVector v s) = signalPart s := by
  unfold sendVector
  (repeat' split)
  · rfl
  · rfl
  · exact signalPart_issue _ s

@[simp] theorem signalPart_sendCause (s : State) : signalPart (sendCause s) = signalPart s := by
  unfold sendCause
  (repeat' split)
  · rfl
  · rfl
  · exact signalPart_land _ s

@[simp] theorem signalPart_writeEvent (code data : Nat) (s : State) :
    signalPart (writeEvent code data s) = signalPart s := by
  unfold writeEvent hostWrite
  dsimp only
  split
  · exact (signalPart_sendVector _ _).trans (signalPart_issue _ s)
  · exact signalPart_issue _ s

@[simp] theorem signalPart_dropEvent (s : State) : signalPart (dropEvent s) = signalPart s := by
  unfold dropEvent irqMessage
  dsimp only
  split
  · exact (signalPart_sendCause _).trans (signalPart_bump _ _ _)
  · exact signalPart_bump _ _ _

@[simp] theorem signalPart_flushLost (s : State) : signalPart (flushLost s) = signalPart s := by
  unfold flushLost
  split
  · exact signalPart_writeEvent _ _ s
  · rfl

@[simp] theorem signalPart_raiseCore (code : Nat) (fields : List Fld) (s : State) :
    signalPart (raiseCore code fields s) = signalPart s := by
  unfold raiseCore
  dsimp only
  split <;> simp

@[simp] theorem signalPart_raise (code : Nat) (fields : List Fld) (s : State) :
    signalPart (raise code fields s) = signalPart s := by
  unfold raise
  dsimp only
  (repeat' split) <;> simp

@[simp] theorem signalPart_count (c : Ctr) (s : State) : signalPart (count c s) = signalPart s := by
  unfold count countBy
  dsimp only
  split <;> simp

/-! The way to HALT (05 R140 to R143; 16 R502, R503). -/

@[simp] theorem signalPart_rmemPut (offset : Nat) (bytes : List Byte) (s : State) :
    signalPart (rmemPut offset bytes s) = signalPart s := rfl

@[simp] theorem signalPart_crashHeader (haltCause : Nat) (s : State) :
    signalPart (crashHeader haltCause s) = signalPart s := by
  simp [crashHeader]

@[simp] theorem signalPart_logFault (kind unitType unitIndex cause cnt channel address : Nat) (s : State) :
    signalPart (logFault kind unitType unitIndex cause cnt channel address s) = signalPart s := by
  have hfaults : ∀ f, signalPart { s with faults := f } = signalPart s := fun _ => rfl
  simp [logFault, crashAppend, apply_ite signalPart, hfaults]

/-- The change to HALT banks running time and writes the mode register (05 R145). -/
theorem signalPart_switchMode_halt (s : State) : signalPart (switchMode .halt s) = signalPart s := by
  unfold switchMode
  dsimp only
  rw [if_neg (by simp), if_neg (by simp), bankTime_eq]
  unfold bankTime
  split <;> rfl

theorem signalPart_haltMailbox (s : State) : signalPart (haltMailbox s) = signalPart s := by
  unfold haltMailbox
  split <;> rfl

theorem signalPart_foldl_clearTests (lanes : List Nat) (s : State) :
    signalPart (lanes.foldl (fun st l => clearTests l st) s) = signalPart s := by
  induction lanes generalizing s with
  | nil => rfl
  | cons l rest ih => exact ih (clearTests l s)

theorem signalPart_removeTests (s : State) : signalPart (removeTests s) = signalPart s :=
  signalPart_foldl_clearTests _ _

theorem signalPart_dropHostRequests (s : State) : signalPart (dropHostRequests s) = signalPart s := rfl

theorem signalPart_stopEngines (s : State) : signalPart (stopEngines s) = signalPart s := rfl

theorem signalPart_stopUnits (s : State) : signalPart (stopUnits s) = signalPart s := rfl

/-- The device stopped, before its mode register and FATAL say so (05 R140 to R143). -/
def stopped (s : State) : State :=
  stopEngines (removeTests (dropHostRequests (haltMailbox (switchMode .halt s))))

theorem signalPart_stopped (s : State) : signalPart (stopped s) = signalPart s := by
  rw [stopped, signalPart_stopEngines, signalPart_removeTests, signalPart_dropHostRequests, signalPart_haltMailbox,
    signalPart_switchMode_halt]

/-- The halted device, before the message of FATAL (05 R140 to R143). -/
def halted (haltCause : Nat) (s : State) : State :=
  stopUnits { stopped s with
    mode := { (stopped s).mode with haltCause := BitVec.ofNat 4 haltCause, steward := .stopped, transition := none },
    power := { (stopped s).power with wdogArmed := false }, alw := { (stopped s).alw with running := false },
    cmds := { (stopped s).cmds with entries := [] }, irq := { (stopped s).irq with fatal := true } }

/-- The first FATAL is signalled at the end of the change to HALT (06 R183). -/
theorem enterHalt_signals {haltCause : Nat} {s : State} (h : s.irq.fatal = false) :
    enterHalt haltCause s = sendCause (halted haltCause s) := by
  rw [enterHalt, h]
  rfl

theorem causeGoesOut_halted (haltCause : Nat) (s : State) : (halted haltCause s).causeGoesOut = s.causeGoesOut := by
  have hstopped : (stopped s).causeGoesOut = s.causeGoesOut := congrArg Prod.fst (signalPart_stopped s)
  rw [← hstopped, halted]
  generalize stopped s = u
  rfl

theorem messages_sendCause {s : State} (h : s.causeGoesOut = true) :
    (sendCause s).link.messages = s.link.messages ++ [5] := by
  simp only [State.causeGoesOut, Bool.and_eq_true, Bool.not_eq_true'] at h
  obtain ⟨⟨⟨⟨hon, hlink⟩, hmsix⟩, hmask⟩, hvector⟩ := h
  simp only [sendCause, land, deliver, hon, hlink, hmsix, hmask, hvector, Bool.not_true, Bool.or_self, Bool.false_eq_true,
    if_false]

/-- What the host sees last as the device halts (06 R181, R183). -/
theorem lastMessage_enterHalt {haltCause : Nat} {s : State} (hfatal : s.irq.fatal = false)
    (hout : s.causeGoesOut = true) : (enterHalt haltCause s).link.messages.getLast? = some 5 := by
  rw [enterHalt_signals hfatal, messages_sendCause ((causeGoesOut_halted haltCause s).trans hout), List.getLast?_concat]

/-- Each failure of the Steward enters HALT with its cause, from a state that signals as the one before (05 R141; 16 R502,
R503). -/
theorem exec_stewardFailure {i : Instr} {s : State}
    (hi : i ∈ [Instr.stewardLockstepMismatch, .stewardSramUe, .rhoperFatalAssertion]) (hrhoper : s.rhoper = true)
    (hsteward : s.stewardOn = true) :
    ∃ haltCause u, exec i s = .next (enterHalt haltCause u) ∧ signalPart u = signalPart s := by
  simp only [List.mem_cons, List.not_mem_nil, or_false] at hi
  obtain rfl | rfl | rfl := hi
  · exact ⟨2, s, congrArg Host.Outcome.next (if_pos hsteward), rfl⟩
  · exact ⟨3, _, congrArg Host.Outcome.next (if_pos hsteward), signalPart_count _ s⟩
  · exact ⟨4, _, congrArg Host.Outcome.next (if_pos (by simp [hrhoper, hsteward])), by simp⟩

/-- Settles O56: each failure enters HALT, whose last act is the message of FATAL. -/
theorem haltSignalsFatal : Obligations.HaltSignalsFatal := by
  unfold Obligations.HaltSignalsFatal
  intro i s t hi hrhoper hsteward hfatal h
  obtain ⟨haltCause, u, hexec, hpart⟩ := exec_stewardFailure hi hrhoper hsteward
  obtain rfl : enterHalt haltCause u = t := Host.Outcome.next.inj (hexec.symm.trans h)
  obtain ⟨hout, hfatal'⟩ := Prod.mk.inj hpart
  have hmode := congrArg Held.mode (held_enterHalt haltCause u)
  refine ⟨congrArg ModeReg.current hmode, congrArg ModeReg.steward hmode, fatal_enterHalt haltCause u,
    fun hon hlink hmsix hmask hvector => lastMessage_enterHalt (hfatal'.trans hfatal) (hout.trans ?_)⟩
  simp only [State.causeGoesOut, hon, hlink, hmsix, hmask, hvector, Bool.not_false, Bool.and_self]

end Sys2Proof.Machine

/-! The host's writes, one lemma for each accepted form (06 R166, R169 to R173, R178, R180, R182, Table 6-10). -/
namespace Sys2Proof.Machine

/-! Fields of a CFG word (06 Tables 6-6 to 6-8). -/

theorem testBit_bitsOf (x lo len i : Nat) : (bitsOf x lo len).testBit i = (decide (i < len) && x.testBit (lo + i)) := by
  rw [bitsOf, Nat.testBit_mod_two_pow, Nat.testBit_shiftRight]

/-- ENABLE lies below every other field. -/
theorem bitsOf_enable {lo : Nat} (hlo : 0 < lo) (len : Nat) (cfg : Word32) :
    bitsOf (cfg ||| 1).toNat lo len = bitsOf cfg.toNat lo len := by
  refine Nat.eq_of_testBit_eq fun i => ?_
  have hone : Nat.testBit 1 (lo + i) = false := Nat.testBit_lt_two_pow (Nat.one_lt_two_pow (by omega))
  rw [testBit_bitsOf, testBit_bitsOf, BitVec.toNat_or, Nat.testBit_or]
  simp [hone]

theorem enable_mod_two (cfg : Word32) : (cfg ||| 1).toNat % 2 = 1 := by
  rw [BitVec.toNat_or, Nat.or_mod_two_eq_one]
  exact .inr rfl

theorem bitsOf_disable (cfg : Word32) : bitsOf (cfg &&& 0xFFFFFFFE).toNat 16 4 = bitsOf cfg.toNat 16 4 := by
  have hmask : ∀ i < 4, Nat.testBit 0xFFFFFFFE (16 + i) = true := by decide
  refine Nat.eq_of_testBit_eq fun i => ?_
  rw [testBit_bitsOf, testBit_bitsOf, BitVec.toNat_and, Nat.testBit_and]
  by_cases hi : i < 4
  · simp [hmask i hi]
  · simp [hi]

theorem disable_mod_two (cfg : Word32) : (cfg &&& 0xFFFFFFFE).toNat % 2 ≠ 1 := by
  rw [BitVec.toNat_and, ne_eq, Nat.and_mod_two_eq_one]
  exact fun h => absurd h.2 (by decide)

/-! Configuration space restored before a queue is configured (log 18). -/

/-- The host configures configuration space alone, with the free values that it draws. -/
theorem hostConfigures_eq (s : State) : hostConfigures s = { s with
    ep := { s.ep with config := (hostConfigures s).ep.config }, freeCount := (hostConfigures s).freeCount } := by
  unfold hostConfigures
  split <;> rfl

@[simp] theorem cq_hostConfigures (s : State) : (hostConfigures s).ep.cq = s.ep.cq := by rw [hostConfigures_eq]
@[simp] theorem cc_hostConfigures (s : State) : (hostConfigures s).ep.cc = s.ep.cc := by rw [hostConfigures_eq]
@[simp] theorem dmb_hostConfigures (s : State) : (hostConfigures s).ep.dmb = s.ep.dmb := by rw [hostConfigures_eq]
@[simp] theorem eq_hostConfigures (s : State) : (hostConfigures s).eq = s.eq := by rw [hostConfigures_eq]
@[simp] theorem mode_hostConfigures (s : State) : (hostConfigures s).mode = s.mode := by rw [hostConfigures_eq]

@[simp] theorem running_hostConfigures (s : State) : (hostConfigures s).running = s.running := by simp [State.running]

/-! A write of CFG (06 R169, R170). -/

theorem queueCfgWrite_cq {s : State} {q : Nat} (w : Nat) (hon : s.endpointOn = true) (hq : q < 4) :
    queueCfgWrite q w s = cqCfgWrite q w (hostConfigures s) := by
  simp [queueCfgWrite, hon, hq]

theorem queueCfgWrite_cc {s : State} {q : Nat} (w : Nat) (hon : s.endpointOn = true) (h4 : 4 ≤ q) (h8 : q < 8) :
    queueCfgWrite q w s = ccCfgWrite (q - 4) w (hostConfigures s) := by
  simp [queueCfgWrite, hon, h8, Nat.not_lt.mpr h4]

theorem queueCfgWrite_eq {s : State} (w : Nat) (hon : s.endpointOn = true) :
    queueCfgWrite 8 w s = eqCfgWrite w (hostConfigures s) := by
  simp [queueCfgWrite, hon]

theorem flushLost_of_none {s : State} (h : s.eq.lostPending = false) : flushLost s = s := by
  simp [flushLost, h]

/-- A command queue starts empty on a completion queue that runs (06 R170). -/
theorem cqCfgWrite_enable {s : State} {q w : Nat} (hrun : s.running = true) (hoff : (s.ep.cq.getD q {}).enable = false)
    (hlow : 4 ≤ bitsOf w 4 4) (hhigh : bitsOf w 4 4 ≤ 12) (hw : w % 2 = 1)
    (hcc : (s.ep.cc.getD (bitsOf w 8 2) {}).enable = true) :
    cqCfgWrite q w s = setCq q (fun c => { c with
      weight := bitsOf w 16 4, ccSel := bitsOf w 8 2, log2 := bitsOf w 4 4, enable := true, err := false,
      fetchHold := false, head := 0, tail := 0, staging := [], fetchFailed := false, cancelled := [] }) s := by
  have hsize : ¬ (bitsOf w 4 4 < 4 ∨ 12 < bitsOf w 4 4) := by omega
  unfold cqCfgWrite
  dsimp only
  rw [if_neg (ne_true_of_eq_false hoff), if_neg hsize, if_neg (by omega), if_neg (by rw [hrun, hcc]; decide)]

/-- A completion queue starts empty (06 R170). -/
theorem ccCfgWrite_enable {s : State} {q w : Nat} (hrun : s.running = true) (hoff : (s.ep.cc.getD q {}).enable = false)
    (hlow : 4 ≤ bitsOf w 4 4) (hhigh : bitsOf w 4 4 ≤ 12) (hw : w % 2 = 1) :
    ccCfgWrite q w s = setCc q (fun c => { c with
      coalUs := bitsOf w 24 8, coalCount := bitsOf w 16 8, log2 := bitsOf w 4 4, enable := true,
      head := 0, tail := 0, phase := true, unsignalled := 0 }) s := by
  have hsize : ¬ (bitsOf w 4 4 < 4 ∨ 12 < bitsOf w 4 4) := by omega
  unfold ccCfgWrite
  dsimp only
  rw [if_neg (ne_true_of_eq_false hoff), if_neg hsize, if_neg (by omega), if_neg (by simp [hrun])]

/-- The EQ starts empty (06 R170); where no event is lost none is reported. -/
theorem eqCfgWrite_enable {s : State} {w : Nat} (hrun : s.running = true) (hoff : s.eq.enable = false)
    (hlow : 6 ≤ bitsOf w 4 4) (hhigh : bitsOf w 4 4 ≤ 14) (hw : w % 2 = 1) (hlost : s.eq.lostPending = false) :
    eqCfgWrite w s = { s with eq := { s.eq with
      coalUs := bitsOf w 24 8, coalCount := bitsOf w 16 8, log2 := bitsOf w 4 4, enable := true,
      head := 0, tail := 0, phase := true, unsignalled := [] } } := by
  have hsize : ¬ (bitsOf w 4 4 < 6 ∨ 14 < bitsOf w 4 4) := by omega
  unfold eqCfgWrite
  dsimp only
  rw [if_neg (ne_true_of_eq_false hoff), if_neg hsize, if_neg (by omega), if_neg (by simp [hrun])]
  exact flushLost_of_none hlost

/-- A command queue that runs is stopped, and what it has staged goes (06 R170, R191). -/
theorem cqCfgWrite_disable {s : State} {q w : Nat} (hen : (s.ep.cq.getD q {}).enable = true) (hw : w % 2 ≠ 1) :
    cqCfgWrite q w s = setCq q (fun c => { c with
      weight := bitsOf w 16 4, enable := false, staging := [], cancelled := [], fetchHold := false }) s := by
  unfold cqCfgWrite
  dsimp only
  rw [if_pos hen, if_neg hw]

theorem exec_queueEnable_cq {s : State} {q : Fin 9} {cfg : Word32} (hon : s.endpointOn = true) (hrun : s.running = true)
    (hq : q.val < 4) (hoff : (s.ep.cq.getD q.val {}).enable = false) (hlow : 4 ≤ bitsOf cfg.toNat 4 4)
    (hhigh : bitsOf cfg.toNat 4 4 ≤ 12) (hcc : (s.ep.cc.getD (bitsOf cfg.toNat 8 2) {}).enable = true) :
    exec (.queueEnable q cfg) s = .next (setCq q.val (fun c => { c with
      weight := bitsOf cfg.toNat 16 4, ccSel := bitsOf cfg.toNat 8 2, log2 := bitsOf cfg.toNat 4 4, enable := true,
      err := false, fetchHold := false, head := 0, tail := 0, staging := [], fetchFailed := false, cancelled := [] })
      (hostConfigures s)) := by
  have hlog := bitsOf_enable (lo := 4) (by omega) 4 cfg
  have hsel := bitsOf_enable (lo := 8) (by omega) 2 cfg
  have hweight := bitsOf_enable (lo := 16) (by omega) 4 cfg
  change Host.Outcome.next (queueCfgWrite q.val (cfg ||| 1).toNat s) = _
  rw [queueCfgWrite_cq _ hon hq, cqCfgWrite_enable (by rw [running_hostConfigures, hrun]) (by rw [cq_hostConfigures, hoff])
    (by omega) (by omega) (enable_mod_two cfg) (by rw [cc_hostConfigures, hsel, hcc]), hlog, hsel, hweight]

theorem exec_queueEnable_cc {s : State} {q : Fin 9} {cfg : Word32} (hon : s.endpointOn = true) (hrun : s.running = true)
    (h4 : 4 ≤ q.val) (h8 : q.val < 8) (hoff : (s.ep.cc.getD (q.val - 4) {}).enable = false)
    (hlow : 4 ≤ bitsOf cfg.toNat 4 4) (hhigh : bitsOf cfg.toNat 4 4 ≤ 12) :
    exec (.queueEnable q cfg) s = .next (setCc (q.val - 4) (fun c => { c with
      coalUs := bitsOf cfg.toNat 24 8, coalCount := bitsOf cfg.toNat 16 8, log2 := bitsOf cfg.toNat 4 4, enable := true,
      head := 0, tail := 0, phase := true, unsignalled := 0 }) (hostConfigures s)) := by
  have hlog := bitsOf_enable (lo := 4) (by omega) 4 cfg
  have hcount := bitsOf_enable (lo := 16) (by omega) 8 cfg
  have hus := bitsOf_enable (lo := 24) (by omega) 8 cfg
  change Host.Outcome.next (queueCfgWrite q.val (cfg ||| 1).toNat s) = _
  rw [queueCfgWrite_cc _ hon h4 h8, ccCfgWrite_enable (by rw [running_hostConfigures, hrun])
    (by rw [cc_hostConfigures, hoff]) (by omega) (by omega) (enable_mod_two cfg), hlog, hcount, hus]

theorem exec_queueEnable_eq {s : State} {q : Fin 9} {cfg : Word32} (hon : s.endpointOn = true) (hrun : s.running = true)
    (hq : q.val = 8) (hoff : s.eq.enable = false) (hlow : 6 ≤ bitsOf cfg.toNat 4 4) (hhigh : bitsOf cfg.toNat 4 4 ≤ 14)
    (hlost : s.eq.lostPending = false) :
    exec (.queueEnable q cfg) s = .next { hostConfigures s with eq := { s.eq with
      coalUs := bitsOf cfg.toNat 24 8, coalCount := bitsOf cfg.toNat 16 8, log2 := bitsOf cfg.toNat 4 4, enable := true,
      head := 0, tail := 0, phase := true, unsignalled := [] } } := by
  have hlog := bitsOf_enable (lo := 4) (by omega) 4 cfg
  have hcount := bitsOf_enable (lo := 16) (by omega) 8 cfg
  have hus := bitsOf_enable (lo := 24) (by omega) 8 cfg
  change Host.Outcome.next (queueCfgWrite q.val (cfg ||| 1).toNat s) = _
  rw [hq, queueCfgWrite_eq _ hon, eqCfgWrite_enable (by rw [running_hostConfigures, hrun])
    (by rw [eq_hostConfigures, hoff]) (by omega) (by omega) (enable_mod_two cfg) (by rw [eq_hostConfigures, hlost]),
    hlog, hcount, hus, eq_hostConfigures]

theorem exec_queueDisable_cq {s : State} {q : Fin 9} {cfg : Word32} (hon : s.endpointOn = true) (hq : q.val < 4)
    (hen : (s.ep.cq.getD q.val {}).enable = true) :
    exec (.queueDisable q cfg) s = .next (setCq q.val (fun c => { c with
      weight := bitsOf cfg.toNat 16 4, enable := false, staging := [], cancelled := [], fetchHold := false })
      (hostConfigures s)) := by
  change Host.Outcome.next (queueCfgWrite q.val (cfg &&& 0xFFFFFFFE).toNat s) = _
  rw [queueCfgWrite_cq _ hon hq, cqCfgWrite_disable (by rw [cq_hostConfigures, hen]) (disable_mod_two cfg),
    bitsOf_disable]

/-! Doorbells and the cancel race (06 R172, R174, R178). -/

theorem cc_releaseHold (cc : Nat) (s : State) : (releaseHold cc s).ep.cc = s.ep.cc := by
  unfold releaseHold
  split <;> rfl

theorem exec_ccHeadDoorbell_accepted {s : State} {q : Fin 4} {w : Word32} {c : CompletionQueue}
    (hon : s.endpointOn = true) (hc : c = s.ep.cc.getD q.val {}) (hen : c.enable = true)
    (hrange : headInRange (2 ^ c.log2) c.head c.tail w.toNat = true) :
    exec (.ccHeadDoorbell q w) s = .next (releaseHold q.val (setCc q.val (fun c => { c with head := w.toNat }) s)) := by
  subst hc
  change Host.Outcome.next (ccHeadWrite q.val w.toNat s) = _
  simp only [ccHeadWrite, hon, hen, hrange, Bool.not_true, Bool.or_self, Bool.false_eq_true, if_false]

theorem exec_eqHeadDoorbell_accepted {s : State} {w : Word32} (hon : s.endpointOn = true) (hen : s.eq.enable = true)
    (hrange : headInRange (2 ^ s.eq.log2) s.eq.head s.eq.tail w.toNat = true) (hlost : s.eq.lostPending = false) :
    exec (.eqHeadDoorbell w) s = .next { s with eq := { s.eq with head := w.toNat } } := by
  change Host.Outcome.next (eqHeadWrite w.toNat s) = _
  simp only [eqHeadWrite, hon, hen, hrange, Bool.not_true, Bool.or_self, Bool.false_eq_true, if_false]
  exact congrArg Host.Outcome.next (flushLost_of_none hlost)

/-- A pending entry of a running queue is cancelled, and one that has been taken is too late (06 R178). -/
theorem exec_cmdCancel_inRing {s : State} {w : Word32} {c : CommandQueue} (hon : s.endpointOn = true)
    (hc : c = s.ep.cq.getD (bitsOf w.toNat 12 2) {}) (hen : c.enable = true) (hring : bitsOf w.toNat 0 12 < 2 ^ c.log2)
    (hnew : bitsOf w.toNat 0 12 ∉ c.cancelled) :
    ∃ t, exec (.cmdCancel w) s = .next t ∧ t.ep.cancel.seq = s.ep.cancel.seq + 1 ∧
      t.ep.cancel.result = (if c.isPending (bitsOf w.toNat 0 12) then stCancelled else stTooLate) ∧
      t.ep.cq = (if c.isPending (bitsOf w.toNat 0 12) then
        upd s.ep.cq (bitsOf w.toNat 12 2) (fun c => { c with cancelled := c.cancelled ++ [bitsOf w.toNat 0 12] })
        else s.ep.cq) := by
  subst hc
  refine ⟨cancelWrite w.toNat s, rfl, ?_⟩
  have hring' : ¬ 2 ^ (s.ep.cq.getD (bitsOf w.toNat 12 2) {}).log2 ≤ bitsOf w.toNat 0 12 := Nat.not_le.mpr hring
  have hlate : stTooLate ≠ stCancelled := by decide
  simp only [cancelWrite, hon, hen, hring', hnew, Bool.not_true, decide_false, Bool.or_self, Bool.false_eq_true, if_false,
    not_false_eq_true, and_true, true_and]
  cases (s.ep.cq.getD (bitsOf w.toNat 12 2) {}).isPending (bitsOf w.toNat 0 12) with
  | true => exact ⟨rfl, rfl⟩
  | false => simp [hlate]

/-! The interrupt registers, the direct mailbox and coalescing (06 R166, R180, Table 6-10). -/

theorem exec_intStatusClear_on {s : State} (w : Word32) (hon : s.endpointOn = true) :
    exec (.intStatusClear w) s = .next { s with irq := { s.irq with
      dbErr := s.irq.dbErr && !w.getLsbD 1, dmaErr := s.irq.dmaErr && !w.getLsbD 2,
      eqOverflow := s.irq.eqOverflow && !w.getLsbD 3 } } := by
  change Host.Outcome.next (intStatusWrite w.toNat s) = _
  simp only [intStatusWrite, hon, Bool.not_true, Bool.false_eq_true, if_false, BitVec.testBit_toNat]

theorem exec_intTest_on {s : State} (w : Word32) (hon : s.endpointOn = true) :
    exec (.intTest w) s = .next (sendVector (w.toNat % 64) s) := by
  change Host.Outcome.next (intTestWrite w.toNat s) = _
  simp [intTestWrite, hon]

theorem exec_dmbCmdWrite_idle {s : State} (o : Fin 64) (data : List Byte) (hon : s.endpointOn = true)
    (hidle : s.ep.dmb.busy = false) :
    exec (.dmbCmdWrite o data) s = .next { s with
      ep := { s.ep with dmb := { s.ep.dmb with cmd := patch s.ep.dmb.cmd o.val data } } } := by
  change Host.Outcome.next (dmbCmdWrite o.val data s) = _
  simp [dmbCmdWrite, hon, hidle]

theorem exec_dmbGo_idle {s : State} (hon : s.endpointOn = true) (hidle : s.ep.dmb.busy = false) :
    exec .dmbGo s = .next { hostConfigures s with
      ep := { (hostConfigures s).ep with dmb := { s.ep.dmb with busy := true, taken := false } } } := by
  change Host.Outcome.next (dmbGoWrite s) = _
  simp [dmbGoWrite, hon, hidle]

theorem exec_dmbDoneClear_on {s : State} (hon : s.endpointOn = true) :
    exec .dmbDoneClear s = .next { s with ep := { s.ep with dmb := { s.ep.dmb with done := false } } } := by
  change Host.Outcome.next (dmbDoneWrite s) = _
  simp [dmbDoneWrite, hon]

theorem exec_coalesceTimeout_cc {s : State} {v : Fin 64} {c : CompletionQueue} (hv : v.val < 4)
    (hc : c = s.ep.cc.getD v.val {}) (hwaits : c.unsignalled ≠ 0) :
    exec (.coalesceTimeout v) s = .next (sendVector v.val (setCc v.val (fun c => { c with unsignalled := 0 })
      (advance (c.firstUnsignalledAt + 1000 * c.coalUs) s))) := by
  subst hc
  change Host.Outcome.next (coalesce v.val s) = _
  unfold coalesce
  dsimp only
  rw [if_pos hv, if_neg hwaits]

/-! The end of a read of host memory (06 R173, R182; 09 R284). -/

theorem exec_hostDmaReadFail_fetch {s : State} {q : Fin 4} (kind : DmaErrorKind) (h : s.fetching q.val = true) :
    exec (.hostDmaReadFail (.fetch q) kind) s =
      .next (captureDmaError (s.ep.cq.getD q.val {}).fetchAddress q.val kind
        (setCq q.val (fun c => { c with fetchFailed := true, err := true }) s)) :=
  congrArg Host.Outcome.next (if_pos h)

/-- The entries of a prefetch are staged once their accesses are granted (06 R173; 03 R76). -/
theorem exec_hostDmaReadComplete_fetch {s s1 : State} {q : Fin 4} {data : List Byte} {got : List Descriptor}
    (hfetch : s.fetching q.val = true)
    (hgot : got = descriptors (min 16 (s.ep.cq.getD q.val {}).pendingCount - (s.ep.cq.getD q.val {}).staging.length) data)
    (hpay : payRead got.length 0 s = (s1, true)) :
    exec (.hostDmaReadComplete (.fetch q) data) s =
      .next (setCq q.val (fun c => { c with staging := c.staging ++ got }) s1) := by
  subst hgot
  change execHostDmaReadComplete (.fetch q) data s = _
  rw [execHostDmaReadComplete]
  dsimp only
  rw [if_pos hfetch, hpay]
  rfl

/-- The key block of SRTP_KEY_SET goes on once its accesses are granted (09 R284; 06 R182). -/
theorem exec_hostDmaReadComplete_key {s s1 : State} {id : Nat} {e : Entry} {data : List Byte} {words : List CoreWord}
    (he : s.entry id = some e) (hwaits : awaitsData e = true) (hlink : s.linkHolds = false)
    (hlength : data.length = dataLength e) (hop : e.op = .srtpKeySet) (hwords : words = packFrame false false data)
    (hpay : payRead (stagingCharge words) 0 s = (s1, true)) :
    exec (.hostDmaReadComplete (.command id) data) s =
      .next (keyData e (wordBytes words) (setEntry id (fun x => { x with aux := [] }) s1)) := by
  subst hwords
  change execHostDmaReadComplete (.command id) data s = _
  rw [execHostDmaReadComplete]
  simp [he, hwaits, hlink, hlength, hop, hpay]

/-- Settles O19: one lemma for each write, and for each end of a read. -/
theorem hostTransportComplete : Obligations.HostTransportComplete := by
  unfold Obligations.HostTransportComplete
  refine ⟨?enableCq, ?enableCc, ?enableEq, ?disable, ?tail, ?ccHead, ?eqHead, ?cancel, ?intStatus, ?intTest, ?dmbCmd,
    ?dmbGo, ?dmbDone, ?coalesce, ?readFail, ?fetched, ?key⟩
  case enableCq => exact fun s q cfg => exec_queueEnable_cq
  case enableCc => exact fun s q cfg => exec_queueEnable_cc
  case enableEq => exact fun s q cfg => exec_queueEnable_eq
  case disable => exact fun s q cfg => exec_queueDisable_cq
  case tail => exact fun s q w => exec_cqTailDoorbell_accepted
  case ccHead =>
    intro s q w c hon hc hen hrange
    exact ⟨_, exec_ccHeadDoorbell_accepted hon hc hen hrange, cc_releaseHold _ _⟩
  case eqHead => exact fun s w => exec_eqHeadDoorbell_accepted
  case cancel => exact fun s w c => exec_cmdCancel_inRing
  case intStatus => exact fun s w => exec_intStatusClear_on w
  case intTest => exact fun s w => exec_intTest_on w
  case dmbCmd => exact fun s o data => exec_dmbCmdWrite_idle o data
  case dmbGo => exact fun s => exec_dmbGo_idle
  case dmbDone => exact fun s => exec_dmbDoneClear_on
  case coalesce => exact fun s v c => exec_coalesceTimeout_cc
  case readFail => exact fun s q kind => exec_hostDmaReadFail_fetch kind
  case fetched => exact fun s s1 q data got => exec_hostDmaReadComplete_fetch
  case key => exact fun s s1 id e data words => exec_hostDmaReadComplete_key

/-! The function and the link (06 R161, R185; 18 R564). -/

theorem exec_pciePmStateChange_on {s : State} (d3hot : Bool) (hon : s.endpointOn = true) :
    exec (.pciePmStateChange d3hot) s = .next (releaseHeld { s with link := { s.link with d3hot := d3hot } }) :=
  congrArg Host.Outcome.next (if_pos hon)

/-- In D3hot everything stays held (06 R161). -/
theorem releaseHeld_of_holds {s : State} (h : s.linkHolds = true) : releaseHeld s = s :=
  if_pos h

/-- Settles O20: each event where the endpoint runs; the way into D3hot releases nothing. -/
theorem hostLinkComplete : Obligations.HostLinkComplete := by
  unfold Obligations.HostLinkComplete
  refine ⟨?flr, ?sleep, ?wake, ?down, ?up⟩
  case flr => exact fun s hon => congrArg Host.Outcome.next (if_pos hon)
  case sleep =>
    intro s hon
    rw [exec_pciePmStateChange_on true hon, releaseHeld_of_holds (by simp [State.linkHolds])]
  case wake => exact fun s hon => exec_pciePmStateChange_on false hon
  case down => exact fun s => rfl
  case up => exact fun s hon hpins => congrArg Host.Outcome.next (if_pos (by simp [hon, hpins]))

end Sys2Proof.Machine

/-! One step, and what it leaves of the queue (07 R202). -/
namespace Sys2Proof.Machine

/-- Settles O39: a step is its match on the queue; an idle instant lies 1 µs on. -/
theorem stepRunsTheFrontCommand : Obligations.StepRunsTheFrontCommand := by
  unfold Obligations.StepRunsTheFrontCommand
  refine ⟨?front, ?idle⟩
  case front =>
    intro c rest s h
    simp only [step, h]
  case idle =>
    intro s h
    have hmax : max s.now (s.now + idleQuantum) = s.now + 1000 := Nat.max_eq_right (Nat.le_add_right _ _)
    simp only [step, h, idle, advance, hmax]

/-- Settles O41: the first half of what every command keeps. -/
theorem queueIsKept : Obligations.QueueIsKept := by
  unfold Obligations.QueueIsKept
  exact fun c s t h => (kept_exec h).pending

end Sys2Proof.Machine

/-! The order of the refusals, and the checks behind them (07 R201). -/
namespace Sys2Proof.Machine

section
variable {op : Op} {src : Source} {c : Cmd} {objs : List Obj} {beg : Entry → State → State} {s : State}

/-- Step 2: a bad header is answered with its lowest offset (07 R201). -/
theorem takeCommand_of_headerBad {o : Nat} (htakes : s.takes src = true) (htag : tagFault (opcodeOf op) src c s = none)
    (hheader : headerBad c = some o) :
    takeCommand op src c objs beg s
      = answer src (s.sourceCc src) (opcodeOf op) c.tag stBadArg 0 (resultOf [⟨8, 2, o⟩]) s := by
  simp [takeCommand, htakes, htag, hheader]

/-- Step 3: an executor that the transport does not reach (07 R201, R218, R219; 05 R148). -/
theorem takeCommand_of_not_reaches (htakes : s.takes src = true) (htag : tagFault (opcodeOf op) src c s = none)
    (hheader : headerBad c = none) (hisland : src = .mgmt → islandExecutes op c = false)
    (hreach : reaches op src s = false) :
    takeCommand op src c objs beg s = answer src (s.sourceCc src) (opcodeOf op) c.tag stBadMode 0 0 s := by
  have hnot : ¬(src = .mgmt ∧ islandExecutes op c = true) := fun h => by simp [hisland h.1] at h
  simp [takeCommand, htakes, htag, hheader, hnot, hreach]

/-- Step 4: a command from the host or a member that passes the first three steps meets the retry table (07 R201). -/
theorem takeCommand_of_reaches (hsrc : src ≠ .mgmt) (htakes : s.takes src = true)
    (htag : tagFault (opcodeOf op) src c s = none) (hheader : headerBad c = none) (hreach : reaches op src s = true) :
    takeCommand op src c objs beg s = matchRetry op src c objs beg s := by
  simp [takeCommand, htakes, htag, hheader, hsrc, hreach]

end

/-- What the island runs itself the management mailbox carries (07 Table 7-7). -/
theorem islandExecutes_of_not_carried {op : Op} {c : Cmd} (h : mgmtCarries op = false) : islandExecutes op c = false := by
  cases op with
  | identify | modeSet | deviceReset | telemetryRead => cases h
  | _ => rfl

theorem tagFault_range {code : Nat} {q : Fin 4} {j : Fin 4096} {c : Cmd} {s : State} (h : 4095 < c.tag.toNat) :
    tagFault code (.cq q j) c s
      = some (answer (.cq q j) (s.sourceCc (.cq q j)) code c.tag stBadArg 0 (resultOf [⟨8, 2, 2⟩]) s) :=
  if_pos h

/-- A tag in range that no open command holds (06 R177). -/
theorem tagFault_free {code : Nat} {q : Fin 4} {j : Fin 4096} {c : Cmd} {s : State} (hrange : c.tag.toNat ≤ 4095)
    (hfree : s.tagInFlight c.tag = false) : tagFault code (.cq q j) c s = none := by
  simp [tagFault, Nat.not_lt.mpr hrange, hfree]

/-- Step 5: the mode is checked before the parameters (07 R201). -/
theorem checked_of_mode {e : Entry} {modes : List Mode} {cs : List Check} {eff : State → State} {s : State}
    (h : s.mode.current ∉ modes) : checked e modes cs eff s = finish e stBadMode [] s := by
  simp [checked, precheck, h]

/-- Step 6: the first failing parameter is named (07 R201). -/
theorem checked_of_badOffset {e : Entry} {modes : List Mode} {cs : List Check} {eff : State → State} {s : State} {o : Nat}
    (hm : s.mode.current ∈ modes) (hc : badOffset cs = some o) :
    checked e modes cs eff s = finish e stBadArg [⟨8, 2, o⟩] s := by
  simp [checked, precheck, hm, hc, finishBadArg]

theorem badOffset_append_some {pre post : List Check} {o : Nat} (h : ∀ x ∈ pre, x = none) :
    badOffset (pre ++ some o :: post) = some o := by
  have hpre : pre.findSome? id = none := List.findSome?_eq_none_iff.mpr h
  simp [badOffset, List.findSome?_append, hpre]

/-- Settles O46: one lemma for each step of R201. -/
theorem refusalOrder : Obligations.RefusalOrder := by
  unfold Obligations.RefusalOrder
  refine ⟨?tag, ?header, ?rom, ?mgmt, fun e modes checks effect s => checked_of_mode, ?parameter⟩
  case tag =>
    intro i op q j c s hrow hrun htag
    rw [exec_hostRow hrow, takeCommand_of_tagFault (src := .cq q j) hrun (tagFault_range htag)]
  case header =>
    intro i op src c s o hrow htakes htag hheader
    rw [exec_hostRow hrow, takeCommand_of_headerBad htakes (Option.isNone_iff_eq_none.mp htag) hheader]
  case rom =>
    intro i op c s hrow hheader hmode hsubset
    have htakes : s.takes .dmb = true := by rcases hmode with h | h <;> simp [State.takes, h]
    have hreach : reaches op .dmb s = false := by
      rcases hmode with h | h <;> simpa [reaches, h] using hsubset
    rw [exec_hostRow hrow, takeCommand_of_not_reaches htakes rfl hheader (fun h => nomatch h) hreach]
    rfl
  case mgmt =>
    intro i op c s hrow hheader hcarried
    have hreach : reaches op .mgmt s = false := by simp [reaches, hcarried]
    rw [exec_hostRow hrow,
      takeCommand_of_not_reaches rfl rfl hheader (fun _ => islandExecutes_of_not_carried hcarried) hreach]
    rfl
  case parameter =>
    rintro e modes checks effect s pre o post hm rfl hpre
    exact checked_of_badOffset hm (badOffset_append_some hpre)

end Sys2Proof.Machine

/-! What a completion writes (06 R166, R170, R175; 07 R195, R218, R219; 01 R27). -/
namespace Sys2Proof.Machine

/-- A state without what a completion writes: what counting and reporting write, the lanes and links, and the management
mailbox. -/
def offPosts (s : State) : State :=
  { offLanes s with mgmt := {} }

theorem offPosts_of_offLanes {s t : State} (h : offLanes t = offLanes s) : offPosts t = offPosts s :=
  congrArg (fun u : State => { u with mgmt := {} }) h

theorem offPosts_of_unreported {s t : State} (h : unreported t = unreported s) : offPosts t = offPosts s :=
  offPosts_of_offLanes (offLanes_of_unreported h)

theorem offPosts_count (c : Ctr) (s : State) : offPosts (count c s) = offPosts s :=
  offPosts_of_unreported (unreported_count c s)

theorem offLanes_tyRoute (f : ReplayFrame) (s : State) : offLanes (tyRoute f s) = offLanes s := by
  unfold tyRoute
  dsimp only
  (repeat' split) <;> simp

theorem offPosts_tell (dest : Nat) (m : StewardMessage) (s : State) : offPosts (tell dest m s) = offPosts s :=
  offPosts_of_offLanes (offLanes_tyRoute _ s)

/-- A completion queue behind one more completion, signalled now or later (06 R175, R180). -/
def CompletionQueue.posted (now : Nat) (q : CompletionQueue) : CompletionQueue :=
  let tail := (q.tail + 1) % 2 ^ q.log2
  let n := q.unsignalled + 1
  { q with
    tail := tail, phase := if tail = 0 then !q.phase else q.phase,
    unsignalled := if q.coalUs = 0 ∨ q.coalCount ≤ n then 0 else n,
    firstUnsignalledAt := if q.unsignalled = 0 then now else q.firstUnsignalledAt }

/-- The state with one more entry on a completion queue, before its vector (06 R175). -/
def completionPosted (cc : Nat) (fields : List Fld) (s : State) : State :=
  let q := s.ep.cc.getD cc {}
  let s1 := hostWrite (baseAddr q.baseLo q.baseHi + 32 * q.tail)
    (natBytes 32 (layout 0 (fields ++ [⟨31, 1, if q.phase then 0x80 else 0⟩]))) s
  { s1 with ep := { s1.ep with cc := s1.ep.cc.set cc (q.posted s.now) } }

/-- A queue that runs takes the entry; its vector follows at once or is coalesced (06 R175, R180). -/
theorem writeCompletion_enabled {cc : Nat} {s : State} (fields : List Fld)
    (h : (s.ep.cc.getD cc {}).enable = true) :
    writeCompletion cc fields s = completionPosted cc fields s ∨
      writeCompletion cc fields s = sendVector cc (completionPosted cc fields s) := by
  unfold writeCompletion
  dsimp only
  rw [if_neg (by simp only [h, Bool.not_true, Bool.false_eq_true, not_false_eq_true])]
  split
  next hnow => exact .inr (by rw [completionPosted, CompletionQueue.posted, if_pos hnow])
  next hlater => exact .inl (by rw [completionPosted, CompletionQueue.posted, if_neg hlater])

theorem unreported_completionPosted (cc : Nat) (fields : List Fld) (s : State) :
    unreported (completionPosted cc fields s) = unreported s :=
  unreported_hostWrite _ _ s

theorem unreported_writeCompletion (cc : Nat) (fields : List Fld) (s : State) :
    unreported (writeCompletion cc fields s) = unreported s := by
  cases hen : (s.ep.cc.getD cc {}).enable with
  | false =>
    have hcount : writeCompletion cc fields s = count (devCtr 21) s := if_pos (by rw [hen]; rfl)
    rw [hcount, unreported_count]
  | true =>
    obtain h | h := writeCompletion_enabled fields hen
    · rw [h, unreported_completionPosted]
    · rw [h, unreported_sendVector, unreported_completionPosted]

/-- A completion leaves alone what lies beside its transport. -/
theorem offPosts_postTo (src : Source) (cc : Nat) (discard : Bool) (op : Nat) (tag : BitVec 16) (status : Byte)
    (extra result : Nat) (data : List Byte) (s : State) :
    offPosts (postTo src cc discard op tag status extra result data s) = offPosts s := by
  cases src with
  | cq q j => cases discard with
    | true => exact offPosts_count _ s
    | false => exact offPosts_of_unreported (unreported_writeCompletion _ _ s)
  | dmb => cases discard with
    | true => exact offPosts_count _ s
    | false => exact offPosts_of_unreported (unreported_issue _ s)
  | mgmt => rfl
  | peer n ask => exact offPosts_tell _ _ s

theorem offPosts_answer (src : Source) (cc op : Nat) (tag : BitVec 16) (status : Byte) (extra result : Nat) (s : State) :
    offPosts (answer src cc op tag status extra result s) = offPosts s :=
  offPosts_postTo ..

theorem offPosts_postAccepted (op : Op) (src : Source) (cc : Nat) (discard noAccepted : Bool) (tag : BitVec 16)
    (extra : Nat) (s : State) : offPosts (postAccepted op src cc discard noAccepted tag extra s) = offPosts s := by
  unfold postAccepted
  dsimp only
  (repeat' split)
  · exact offPosts_postTo ..
  · rfl
  · exact offPosts_tell _ _ s
  · rfl

theorem offPosts_foldl {α : Type} {f : State → α → State} (h : ∀ s a, offPosts (f s a) = offPosts s) (l : List α)
    (s : State) : offPosts (l.foldl f s) = offPosts s := by
  induction l generalizing s with
  | nil => rfl
  | cons a rest ih => exact (ih _).trans (h s a)

theorem cmds_of_offPosts {s t : State} (h : offPosts t = offPosts s) : t.cmds = s.cmds :=
  (congrArg State.cmds h :)

end Sys2Proof.Machine

/-! The retry table: how a command that matches a record is answered (07 R207, R208). -/
namespace Sys2Proof.Machine

section
variable {op : Op} {src : Source} {c : Cmd} {objs : List Obj} {beg : Entry → State → State} {s : State} {r : RetryRecord}

/-- The record that a command's RETRY_ID meets: the first that has not lapsed (07 R207). -/
def State.retryRecord (s : State) (id : BitVec 64) : Option RetryRecord :=
  s.cmds.retry.find? fun r => r.id == id && !lapsed s.now r

/-- A finished command's record answers the retry (07 R208). -/
theorem matchRetry_finished {st : Byte} {res : BitVec 160} (hid : retryId src c ≠ 0)
    (hrecord : s.retryRecord (retryId src c) = some r) (hop : r.op = op) (hparams : r.params = c.params)
    (hresult : r.result = some (st, res)) :
    matchRetry op src c objs beg s = answer src (s.sourceCc src) (opcodeOf op) c.tag st 2 res.toNat s := by
  rw [State.retryRecord] at hrecord
  simp only [matchRetry, hid, hrecord, hop, hparams, hresult, and_self, if_true, if_false]

/-- The retry joins the original that executes (07 R208). -/
theorem matchRetry_executing (hid : retryId src c ≠ 0) (hrecord : s.retryRecord (retryId src c) = some r)
    (hop : r.op = op) (hparams : r.params = c.params) (hresult : r.result = none) :
    matchRetry op src c objs beg s = joinOriginal r src c s := by
  rw [State.retryRecord] at hrecord
  simp only [matchRetry, hid, hrecord, hop, hparams, hresult, and_self, if_true, if_false]

/-- Another command under a RETRY_ID in use is refused (07 R208). -/
theorem matchRetry_other (hid : retryId src c ≠ 0) (hrecord : s.retryRecord (retryId src c) = some r)
    (hother : r.op ≠ op ∨ r.params ≠ c.params) :
    matchRetry op src c objs beg s = answer src (s.sourceCc src) (opcodeOf op) c.tag stExists 0 0 s := by
  have hdiffer : ¬(r.op = op ∧ r.params = c.params) := fun h => hother.elim (· h.1) (· h.2)
  rw [State.retryRecord] at hrecord
  simp only [matchRetry, hid, hrecord, hdiffer, if_false]

end

/-- Joining adds the retry to its original and writes nothing else of the open commands (07 R208). -/
theorem cmds_joinOriginal (r : RetryRecord) (src : Source) (c : Cmd) (s : State) :
    (joinOriginal r src c s).cmds = { s.cmds with
      entries := s.cmds.entries.map fun e => if e.id = r.entry then { e with
        joined := e.joined ++ [⟨src, c.tag, s.sourceCc src, c.flags.getLsbD 0, false⟩] } else e } := by
  unfold joinOriginal
  dsimp only
  split
  · exact cmds_of_offPosts (offPosts_postAccepted ..)
  · rfl

/-- Settles O48: a CQ command in Rhoper's modes comes to the retry table, which has one lemma for each answer. -/
theorem retryMatch : Obligations.RetryMatch := by
  unfold Obligations.RetryMatch
  intro i op q j c s r hrow hrun hrange hfree hheader hid hrecord
  have hmode : s.mode.current ≠ .loader ∧ s.mode.current ≠ .recovery := by
    constructor <;> rintro h <;> simp [State.running, h, runModes] at hrun
  have hreach : reaches op (.cq q j) s = true := by simp [reaches, hmode]
  rw [exec_hostRow hrow, takeCommand_of_reaches (src := .cq q j) (fun h => nomatch h) hrun (tagFault_free hrange hfree)
    hheader hreach]
  refine ⟨?finished, ?executing, ?other⟩
  case finished =>
    intro st res hop hparams hresult
    rw [matchRetry_finished (src := .cq q j) hid hrecord hop hparams hresult]
  case executing =>
    intro hop hparams hresult
    have hcmds := cmds_joinOriginal r (.cq q j) c s
    rw [matchRetry_executing (src := .cq q j) hid hrecord hop hparams hresult]
    exact ⟨_, rfl, (congrArg Commands.nextId hcmds :), (congrArg Commands.entries hcmds :)⟩
  case other =>
    intro hother
    rw [matchRetry_other (src := .cq q j) hid hrecord hother]

end Sys2Proof.Machine

/-! Commands that share an object (07 R202). -/
namespace Sys2Proof.Machine

/-- A command without a RETRY_ID opens (07 R207). -/
theorem matchRetry_unnamed {op : Op} {src : Source} {c : Cmd} {objs : List Obj} {beg : Entry → State → State} {s : State}
    (h : retryId src c = 0) : matchRetry op src c objs beg s = openEntry op src c objs beg s :=
  if_pos h

/-- An earlier open command with a shared object holds a later one back (07 R202). -/
theorem objectBlocked_of_shares {s : State} {x e : Entry} (hx : x ∈ s.cmds.entries) (hid : x.id < e.id)
    (hshare : shares x.objects e.objects = true) : s.objectBlocked e = true := by
  have hany : (s.cmds.entries.any fun x => x.id < e.id && (shares x.objects e.objects || (isFence e && fromHost x))) = true :=
    List.any_eq_true.mpr ⟨x, hx, by simp [hid, hshare]⟩
  simp [State.objectBlocked, hany]

/-- A command that stands alone is held back by moving channels and by Rhoper's own saves only (07 R202). -/
theorem objectBlocked_alone {s : State} {e : Entry} (h : s.cmds.entries = [e]) :
    s.objectBlocked e = shares s.movingObjects e.objects := by
  simp [State.objectBlocked, h]

/-- A taken command as it joins the open ones. -/
def waitingEntry (op : Op) (src : Source) (c : Cmd) (s : State) : Entry :=
  { entryOf op src c s with phase := .waiting }

/-- The state in which it has joined them. -/
def withWaiting (op : Op) (src : Source) (c : Cmd) (s : State) : State :=
  { s with cmds := { s.cmds with entries := s.cmds.entries ++ [waitingEntry op src c s], nextId := s.cmds.nextId + 1 } }

theorem openEntry_eq (op : Op) (src : Source) (c : Cmd) (beg : Entry → State → State) (s : State) :
    openEntry op src c (objectsOf op c) beg s =
      if s.mode.transition.isSome || (withWaiting op src c s).objectBlocked (waitingEntry op src c s)
          || (s.cmds.entries.any fun x => s.ready x) then withWaiting op src c s
      else begin_ beg (waitingEntry op src c s) (withWaiting op src c s) := by
  cases src <;> rfl

/-- A command that an earlier one holds back waits (07 R202). -/
theorem openEntry_blocked {op : Op} {src : Source} {c : Cmd} {beg : Entry → State → State} {s : State} {x : Entry}
    (hx : x ∈ s.cmds.entries) (hid : x.id < s.cmds.nextId) (hshare : shares x.objects (objectsOf op c) = true) :
    openEntry op src c (objectsOf op c) beg s = withWaiting op src c s := by
  have hblocked : (withWaiting op src c s).objectBlocked (waitingEntry op src c s) = true :=
    objectBlocked_of_shares (List.mem_append_left _ hx) hid hshare
  rw [openEntry_eq, if_pos (by simp [hblocked])]

theorem exec_commandBegin_next {s : State} {e : Entry} (h : s.cmds.entries.find? s.ready = some e) :
    exec .commandBegin s = .next (begin_ (beginOf e.op) e s) := by
  change Host.Outcome.next (beginNext s) = _
  simp only [beginNext, h]

/-- Settles O49: the shared object blocks the later command, and the command that is left alone begins. -/
theorem sharedObjectWaits : Obligations.SharedObjectWaits := by
  unfold Obligations.SharedObjectWaits
  refine ⟨?waits, ?held, ?begins⟩
  case waits =>
    intro i op src c s x hrow htakes hsrc htag hheader hreach hretry hx hid hshare
    rw [exec_hostRow hrow, takeCommand_of_reaches hsrc htakes (Option.isNone_iff_eq_none.mp htag) hheader hreach,
      matchRetry_unnamed hretry, openEntry_blocked hx hid hshare]
    rfl
  case held =>
    intro s e x hentries hid hshare
    have hblocked := objectBlocked_of_shares (s := s) (by simp [hentries]) hid hshare
    simp [State.ready, hblocked]
  case begins =>
    intro s e hentries hphase htransition hmoving
    have hready : s.ready e = true := by
      simp [State.ready, hphase, htransition, objectBlocked_alone hentries, hmoving]
    exact exec_commandBegin_next (by simp [hentries, hready])

end Sys2Proof.Machine

/-! Commands taken from the queues and the mailboxes, and the end of a retry record (06 R167, R173, R174; 07 R202, R207; 18
R557). -/
namespace Sys2Proof.Machine

/-- Where every queue that offers an entry finds a slot, none is held (06 R174). -/
theorem holdQueues_of_slots {s : State} (h : ∀ q ∈ [0, 1, 2, 3], s.offers q = true → s.slotFree q = true) :
    holdQueues s = s := by
  have hkeep : ∀ q ∈ [0, 1, 2, 3], (s.offers q && !s.slotFree q) = false := by
    intro q hq
    cases hoffers : s.offers q with
    | false => rfl
    | true => simp [h q hq hoffers]
  simp only [List.mem_cons, List.not_mem_nil, or_false, forall_eq_or_imp, forall_eq] at hkeep
  obtain ⟨h0, h1, h2, h3⟩ := hkeep
  simp only [holdQueues, List.foldl_cons, List.foldl_nil, h0, h1, h2, h3, Bool.false_eq_true, if_false]

/-- The first queue of the round with an entry and a slot gives it (06 R173, R174). -/
theorem takeNext_of_round {s : State} {q : Nat} (hrun : s.running = true) (hon : s.endpointOn = true)
    (hdmb : s.ep.dmb.busy = false) (hslots : ∀ k ∈ [0, 1, 2, 3], s.offers k = true → s.slotFree k = true)
    (hround : (s.roundOrder.find? fun k => s.offers k && s.slotFree k) = some q) :
    takeNext s = takeEntry (Fin.ofNat 4 q) s := by
  simp [takeNext, hrun, hon, hdmb, holdQueues_of_slots hslots, hround]

/-- The entry at HEAD of a queue leaves it and the round counts it (06 R173). -/
def headTaken (q : Fin 4) (rest : List Descriptor) (s : State) : State :=
  { s with ep := { s.ep with
      cq := upd s.ep.cq q.val (fun c => { c with
        head := (c.head + 1) % 2 ^ c.log2, staging := rest, fetchHold := false,
        cancelled := c.cancelled.filter fun x => x != (s.ep.cq.getD q.val {}).head }),
      roundQueue := q.val,
      roundTaken := if q.val = s.ep.roundQueue ∧ s.ep.roundTaken < max 1 (s.ep.cq.getD q.val {}).weight
        then s.ep.roundTaken + 1 else 1 } }

/-- Two changes of one place are the same where they agree on what stands there. -/
theorem upd_congr {α : Type} {l : List α} {i : Nat} {f g : α → α} {d : α} (h : f (l.getD i d) = g (l.getD i d)) :
    upd l i f = upd l i g := by
  refine List.ext_getElem? fun j => ?_
  simp only [upd, List.getElem?_modify]
  by_cases hij : i = j
  · subst hij
    cases hl : l[i]? with
    | none => rfl
    | some a => simpa [hl] using h
  · simp [hij]

/-- HEAD's queue moves on from the index that it stood at (06 R173). -/
theorem upd_headTaken (q : Nat) (rest : List Descriptor) (s : State) :
    upd s.ep.cq q (fun c => { c with
      head := ((s.ep.cq.getD q {}).head + 1) % 2 ^ c.log2, staging := rest, fetchHold := false,
      cancelled := c.cancelled.filter fun x => x != (s.ep.cq.getD q {}).head }) =
    upd s.ep.cq q (fun c => { c with
      head := (c.head + 1) % 2 ^ c.log2, staging := rest, fetchHold := false,
      cancelled := c.cancelled.filter fun x => x != (s.ep.cq.getD q {}).head }) :=
  upd_congr (d := {}) rfl

/-- An entry that was not cancelled is taken as a command (06 R173, R178). -/
theorem takeEntry_staged {s : State} {q : Fin 4} {d : Descriptor} {rest : List Descriptor}
    (hstaged : (s.ep.cq.getD q.val {}).staging = d :: rest)
    (hlive : (s.ep.cq.getD q.val {}).head ∉ (s.ep.cq.getD q.val {}).cancelled) :
    takeEntry q s = takeCode (descriptorCode d) (.cq q (Fin.ofNat 4096 (s.ep.cq.getD q.val {}).head)) (descriptorCmd d)
      (headTaken q rest s) := by
  unfold takeEntry
  dsimp only
  rw [hstaged]
  dsimp only
  rw [if_neg hlive, headTaken, ← upd_headTaken]
  rfl

/-- Settles O17: one lemma for each take that a guard decides. -/
theorem takesComplete : Obligations.TakesComplete := by
  unfold Obligations.TakesComplete
  refine ⟨fun s e => exec_commandBegin_next, ?cq, ?dmb, ?mgmt, ?lapse⟩
  case cq =>
    intro s q d rest hrun hon hdmb hslots hround hq hstaged hlive
    have hval : (Fin.ofNat 4 q).val = q := Nat.mod_eq_of_lt hq
    have htaken : headTaken (Fin.ofNat 4 q) rest s = headTaken ⟨q, hq⟩ rest s :=
      congrArg (headTaken · rest s) (Fin.ext hval)
    change Host.Outcome.next (takeNext s) = _
    rw [takeNext_of_round hrun hon hdmb hslots hround,
      takeEntry_staged (by rw [hval, hstaged]) (by rw [hval]; exact hlive), htaken, hval]
    rfl
  case dmb =>
    intro s s1 htakes hon hbusy htaken hpay
    change Host.Outcome.next (takeDmb s) = _
    simp [takeDmb, htakes, hon, hbusy, htaken, hpay]
  case mgmt =>
    intro s hon hbusy htaken
    change Host.Outcome.next (takeMgmt s) = _
    simp [takeMgmt, hon, hbusy, htaken]
  case lapse =>
    intro s id r hrecord
    change execRetryEntryLapse id s = _
    simp only [execRetryEntryLapse, hrecord, advance]

end Sys2Proof.Machine

/-! The device commands (07 R205, R216, R217, R221, R222; 06 R184; 12 R376; 18 R559) and the management island's own (07
R219). -/
namespace Sys2Proof.Machine

/-- What is accepted in some modes is accepted in more. -/
theorem accepts_more_modes {modes more : List Mode} {cs : List Check} {s : State} (h : accepts modes cs s = true)
    (hmore : modes ⊆ more) : accepts more cs s = true := by
  rw [accepts_iff] at h ⊢
  exact ⟨hmore h.1, h.2⟩

/-- A command whose effect is its completion with DONE and a RESULT read from the state. -/
def completeWith (e : Entry) (result : State → List Fld) (s : State) : State :=
  finish e stDone (result s) s

theorem versionResult_rhoper {s : State} (h : s.mode.steward = .rhoper) :
    versionResult s = [⟨8, 1, 2⟩, ⟨9, 1, 4⟩, ⟨10, 2, 0⟩, ⟨12, 4, Config.build.toNat⟩, ⟨16, 2, 5⟩,
      ⟨19, 1, bit s.boot.slot + 2 * bit s.boot.trial⟩, ⟨20, 1, 1⟩, ⟨21, 1, 3⟩] := by
  simp [versionResult, h]

theorem versionResult_rom {s : State} (h : s.mode.steward = .rom) :
    versionResult s = [⟨18, 1, 1⟩, ⟨19, 1, bit s.boot.slot + 2 * bit s.boot.trial⟩, ⟨20, 1, 1⟩, ⟨21, 1, 3⟩] := by
  simp [versionResult, h]

/-- VERSION_GET in any mode in which some Steward takes it (07 R217). -/
theorem exec_versionGet {src : Source} {c : Cmd} {s : State} {modes : List Mode} (ho : opens .versionGet src c s = true)
    (ha : accepts modes [reservedBytes c 16 64] s = true) (hmodes : modes ⊆ .loader :: .recovery :: runModes) :
    exec (.versionGet src c) s = .next (completes .versionGet src c stDone (versionResult s) id s) :=
  exec_accepted (eff := completeWith _ versionResult) rfl ho (accepts_more_modes ha hmodes) rfl

/-- A command that opens does not come from the management mailbox when the island runs it itself (07 R219). -/
theorem source_of_opens {op : Op} {src : Source} {c : Cmd} {s : State} (ho : opens op src c s = true)
    (hisland : islandExecutes op c = true) : src ≠ .mgmt := by
  rintro rfl
  simp [opens, hisland] at ho

/-- TELEMETRY_READ through the Steward (18 R559). -/
theorem exec_telemetryRead_steward {src : Source} {c : Cmd} {s : State} (ho : opens .telemetryRead src c s = true)
    (ha : accepts runModes [within c 16 1 0 2, within c 17 1 0 71, reservedBytes c 18 64,
      need 17 (decide (prmByte c 16 = 2) || decide (prmByte c 17 = 0))] s = true) :
    exec (.telemetryRead src c) s = .next (completes .telemetryRead src c stDone
      (telemetryResult (prmByte c 16) (prmByte c 17) s) id s) := by
  have hmodes : (if (entryOf .telemetryRead src c s).source = .mgmt then allModes else runModes) = runModes :=
    if_neg (source_of_opens ho rfl)
  refine exec_accepted (eff := completeWith _ (telemetryResult (prmByte c 16) (prmByte c 17))) rfl ho ha ?_
  change telemetryReadBegin _ _ = _
  unfold telemetryReadBegin
  dsimp only
  rw [hmodes]
  rfl

/-- EQ_STEER_SET's effect: events raised after the completion are steered anew (06 R184). -/
def steerEvents (e : Entry) (s : State) : State :=
  let s1 := finish e stDone [] s
  { s1 with ep := { s1.ep with steer := (List.range 11).map fun f => prmByte e.cmd (16 + f) } }

/-- DIAG_WINDOW_MAP's effect (07 R221). -/
def mapWindow (e : Entry) (s : State) : State :=
  finish e stDone [] { s with
    window := if prmByte e.cmd 16 = 255 then none else some (decide (prmByte e.cmd 16 = 1), prm e.cmd 24 8) }

/-- COUNTER_READ's effect (12 R376, R377). -/
def counterReadEffect (e : Entry) (s : State) : State :=
  if prmByte e.cmd 16 = 3 ∧ (s.voice.channels.all fun ch => ch.id != prm e.cmd 20 4) then finish e stNotFound [] s
  else finish e stDone [] (hostWrite (prm e.cmd 24 8)
    (counterBytes (prmByte e.cmd 16) (prm e.cmd 20 4) (prmByte e.cmd 17) (prm e.cmd 18 2) (prm e.cmd 32 2) s) s)

/-- The counters of a channel that exists, or of another group, go to host memory (12 R376). -/
theorem counterReadEffect_found {e : Entry} {s : State}
    (h : prmByte e.cmd 16 = 3 → ∃ ch ∈ s.voice.channels, ch.id = prm e.cmd 20 4) :
    counterReadEffect e s = finish e stDone [] (hostWrite (prm e.cmd 24 8)
      (counterBytes (prmByte e.cmd 16) (prm e.cmd 20 4) (prmByte e.cmd 17) (prm e.cmd 18 2) (prm e.cmd 32 2) s) s) := by
  refine if_neg ?_
  rintro ⟨hgroup, hall⟩
  obtain ⟨ch, hmem, hid⟩ := h hgroup
  have hne := List.all_eq_true.mp hall ch hmem
  simp [hid] at hne

/-- COMMAND_ABORT's effect on a save that stands at an abort point: the save ends and its aborts complete (07 R205, R213). -/
theorem abortRunning_save {e t : Entry} {s : State} {j : SaveJob} (hop : t.op = .settingsSave)
    (hsave : s.sets.save = some j) (hpoint : j.done % chunkOps = 0)
    (hidle : (s.alw.flashBusy.any fun r => r.job == .settings) = false) :
    abortRunning e t s = cancelJob t (dropSave s) := by
  simp [abortRunning, abortSave, hop, hsave, hpoint, hidle]

/-- The abort of a save that executes (07 R205). -/
theorem commandAbortBegin_save {e t : Entry} {s : State} {id : Nat} (hm : s.mode.current ∈ runModes)
    (hc : badOffset [reservedBytes e.cmd 18 64] = none) (htarget : e.abortTarget = some id)
    (hentry : s.entry id = some t) (hop : t.op = .settingsSave) (hphase : t.phase = .executing) :
    commandAbortBegin e s = abortRunning e t s := by
  unfold commandAbortBegin
  dsimp only
  rw [checked_pass hm hc]
  simp [htarget, hentry, hasAbortPoints, hop, hphase]

/-- Settles O1: each command opens and passes its checks; what its effect leaves is its rule's. -/
theorem deviceCommandsComplete : Obligations.DeviceCommandsComplete := by
  unfold Obligations.DeviceCommandsComplete
  refine ⟨?nop, ?identify, ?rhoper, ?rom, ?abort, ?steer, ?window, ?counters, ?telemetry⟩
  case nop => exact fun src c s ho ha => exec_accepted (eff := finish _ stDone []) rfl ho ha rfl
  case identify => exact fun src c s ho ha => exec_accepted (eff := completeWith _ identifyResult) rfl ho ha rfl
  case rhoper =>
    intro src c s ho hsteward ha
    rw [exec_versionGet ho ha (by decide), versionResult_rhoper hsteward]
  case rom =>
    intro src c s ho hsteward ha
    rw [exec_versionGet ho ha (by decide), versionResult_rom hsteward]
  case abort =>
    intro src c s id t j ho ha htarget hentry hop hphase hsave hpoint hidle
    obtain ⟨hm, hc⟩ := accepts_iff.mp ha
    have hbegin := commandAbortBegin_save (e := entryOf .commandAbort src c s) (s := opened .commandAbort src c s) hm hc
      htarget hentry hop hphase
    rw [abortRunning_save hop (s := opened .commandAbort src c s) hsave hpoint hidle] at hbegin
    exact take_begin ho hbegin
  case steer => exact fun src c s ho ha => ⟨_, exec_accepted (eff := steerEvents _) rfl ho ha rfl, rfl, rfl, rfl⟩
  case window => exact fun src c s ho ha => exec_accepted (eff := mapWindow _) rfl ho ha rfl
  case counters =>
    intro src c s ho ha hchannel
    rw [exec_accepted (eff := counterReadEffect _) rfl ho ha rfl, counterReadEffect_found hchannel]
    rfl
  case telemetry => exact fun src c s => exec_telemetryRead_steward

theorem islandExecutes_of_opens {op : Op} {c : Cmd} (ho : islandOpens op c = true) : islandExecutes op c = true :=
  (Bool.and_eq_true_iff.mp ho).2

/-- The island reads the mode in every mode (07 R219). -/
theorem modeSetBegin_island {e : Entry} {s : State} (hsrc : e.source = .mgmt)
    (hc : badOffset (modeSetChecks e.cmd) = none) (hread : prmByte e.cmd 16 = 255) :
    modeSetBegin e s = finish e stDone (modeResult s) s := by
  have hmodes : modeSetModes e 255 = allModes := by simp [modeSetModes, hsrc, allModes]
  unfold modeSetBegin
  dsimp only
  rw [hread, hmodes, checked_pass (mem_allModes _) hc, if_pos rfl]

/-- The island completes a COLD or WARM request and then asserts the reset, in every mode (04 R127; 07 R219). -/
theorem deviceResetBegin_island {e : Entry} {s : State} (hsrc : e.source = .mgmt)
    (hc : badOffset (deviceResetChecks e.cmd) = none) (hscope : prmByte e.cmd 16 = 1 ∨ prmByte e.cmd 16 = 2) :
    deviceResetBegin e s = assertReset .management (decide (prmByte e.cmd 16 = 1)) 0 (finish e stDone [] s) := by
  have hnotBlock : prmByte e.cmd 16 ≠ 3 := by omega
  have hmodes : resetModes e (prmByte e.cmd 16) = allModes := by simp [resetModes, hsrc, hscope, hnotBlock, allModes]
  unfold deviceResetBegin
  dsimp only
  rw [hmodes, checked_pass (mem_allModes _) hc, if_neg hnotBlock, if_pos hsrc]

/-- Settles O3: the modes of each command over the management mailbox are all of them. -/
theorem islandCommandsComplete : Obligations.IslandCommandsComplete := by
  unfold Obligations.IslandCommandsComplete
  refine ⟨?identify, ?telemetry, ?modeSet, ?deviceReset⟩
  case identify =>
    intro c s ho hc
    have hchecks : badOffset [reservedBytes c 16 64] = none := by simp [badOffset, hc]
    exact island_checked (eff := completeWith _ identifyResult) ho rfl (mem_allModes _) hchecks rfl
  case telemetry =>
    exact fun c s ho hc => island_checked
      (eff := completeWith _ (telemetryResult (prmByte c 16) (prmByte c 17))) ho rfl (mem_allModes _) hc rfl
  case modeSet =>
    intro c s ho hc
    have hread : prmByte c 16 = 255 := of_decide_eq_true (islandExecutes_of_opens ho)
    exact island_begin ho (modeSetBegin_island rfl hc hread)
  case deviceReset =>
    intro c s ho hc
    have hscope : prmByte c 16 = 1 ∨ prmByte c 16 = 2 := by simpa [islandExecutes] using islandExecutes_of_opens ho
    exact island_begin ho (deviceResetBegin_island rfl hc hscope)

end Sys2Proof.Machine

/-! Transactions toward the host whose accesses are granted at once (03 R18, R76; 06 R175, R180, R185). -/
namespace Sys2Proof.Machine

/-- A state without the balances and the Tally, which a charge writes (03 R77, R89). -/
def offCharge (s : State) : State :=
  { s with tally := [], alw := { s.alw with balances := [] } }

theorem offCharge_bump (c : Ctr) (n : Nat) (s : State) : offCharge (bump c n s) = offCharge s := by
  unfold bump
  split <;> rfl

theorem offCharge_chargeGrant (cls res size : Nat) (s : State) :
    offCharge (chargeGrant cls res size s) = offCharge s :=
  offCharge_bump _ _ _

theorem offCharge_payRound (cls res n : Nat) (s : State) : offCharge (payRound cls res n s).1 = offCharge s := by
  unfold payRound
  split
  · rfl
  · exact offCharge_chargeGrant ..

theorem offCharge_pay (cls res n : Nat) (s : State) : offCharge (pay cls res n s).1 = offCharge s := by
  unfold pay
  split
  · exact (offCharge_payRound ..).trans (offCharge_payRound ..)
  · rfl

theorem link_pay (cls res n : Nat) (s : State) : (pay cls res n s).1.link = s.link :=
  (congrArg State.link (offCharge_pay cls res n s) :)

theorem ep_pay (cls res n : Nat) (s : State) : (pay cls res n s).1.ep = s.ep :=
  (congrArg State.ep (offCharge_pay cls res n s) :)

theorem endpointOn_pay (cls res n : Nat) (s : State) : (pay cls res n s).1.endpointOn = s.endpointOn :=
  (congrArg State.endpointOn (offCharge_pay cls res n s) :)

theorem linkHolds_pay (cls res n : Nat) (s : State) : (pay cls res n s).1.linkHolds = s.linkHolds :=
  (congrArg State.linkHolds (offCharge_pay cls res n s) :)

/-- The EQ, the interrupt registers and the completion queues: what no transaction toward the host writes. -/
def ringPart (s : State) : EventQueue × Interrupts × List CompletionQueue :=
  (s.eq, s.irq, s.ep.cc)

theorem ringPart_pay (cls res n : Nat) (s : State) : ringPart (pay cls res n s).1 = ringPart s :=
  (congrArg ringPart (offCharge_pay cls res n s) :)

theorem ringPart_land (t : Tlp) (s : State) : ringPart (land t s) = ringPart s := by
  unfold land
  split
  · rfl
  · cases t with
    | mailbox d => rfl
    | write a d => dsimp only; split <;> rfl
    | message v => dsimp only; split <;> rfl

theorem ringPart_issue (t : Tlp) (s : State) : ringPart (issue t s) = ringPart s := by
  have hpay := ringPart_pay 2 1 t.accesses s
  unfold issue
  dsimp only
  (repeat' split)
  · rfl
  · exact (ringPart_land ..).trans hpay
  · exact hpay
  · exact hpay

theorem ringPart_hostWrite (address : Nat) (bytes : List Byte) (s : State) :
    ringPart (hostWrite address bytes s) = ringPart s :=
  ringPart_issue _ s

theorem ringPart_sendVector (v : Nat) (s : State) : ringPart (sendVector v s) = ringPart s := by
  unfold sendVector
  (repeat' split)
  · rfl
  · rfl
  · exact ringPart_issue _ s

theorem ringPart_sendCause (s : State) : ringPart (sendCause s) = ringPart s := by
  unfold sendCause
  (repeat' split)
  · rfl
  · rfl
  · exact ringPart_land _ s

/-! Messages write no host memory. -/

theorem hostMem_land_message (v : Nat) (s : State) : (land (.message v) s).link.hostMem = s.link.hostMem := by
  unfold land
  dsimp only
  (repeat' split) <;> rfl

theorem hostMem_issue_message (v : Nat) (s : State) : (issue (.message v) s).link.hostMem = s.link.hostMem := by
  have hpay := congrArg Link.hostMem (link_pay 2 1 (Tlp.message v).accesses s)
  unfold issue
  dsimp only
  (repeat' split)
  · rfl
  · exact (hostMem_land_message ..).trans hpay
  · exact hpay
  · exact hpay

theorem hostMem_sendVector (v : Nat) (s : State) : (sendVector v s).link.hostMem = s.link.hostMem := by
  unfold sendVector
  (repeat' split)
  · rfl
  · rfl
  · exact hostMem_issue_message _ s

theorem hostMem_sendCause (s : State) : (sendCause s).link.hostMem = s.link.hostMem := by
  unfold sendCause
  (repeat' split)
  · rfl
  · rfl
  · exact hostMem_land_message _ s

/-- A transaction whose accesses are granted, with none staged before it, is carried out (03 R76; 06 R175). -/
theorem issue_granted {t : Tlp} {s : State} (hon : s.endpointOn = true) (hfree : s.hostFree t.accesses = true) :
    issue t s = land t (pay 2 1 t.accesses s).1 := by
  obtain ⟨hpay, hstaged⟩ := Bool.and_eq_true_iff.mp hfree
  simp [issue, hon, beq_iff_eq.mp hpay, List.isEmpty_iff.mp hstaged]

/-- A write whose accesses are granted reaches host memory over a link that holds nothing (06 R175, R185). -/
theorem hostMem_hostWrite {s : State} {bytes : List Byte} (address : Nat) (hon : s.endpointOn = true)
    (hlink : s.linkHolds = false) (hfree : s.hostFree (ceilDiv bytes.length 64) = true) :
    (hostWrite address bytes s).link.hostMem = swrite s.link.hostMem address bytes := by
  have hissue : hostWrite address bytes s = land (.write address bytes) (pay 2 1 (ceilDiv bytes.length 64) s).1 :=
    issue_granted hon hfree
  simp [hissue, land, deliver, endpointOn_pay, hon, linkHolds_pay, hlink, link_pay]

/-- A 32-byte entry takes one access (03 R76). -/
theorem ceilDiv_entry (x : Nat) : ceilDiv (natBytes 32 x).length 64 = 1 := by
  rw [natBytes_length]
  rfl

end Sys2Proof.Machine

/-! Events (07 R198, R199; 06 R176). -/
namespace Sys2Proof.Machine

/-- The state with one more event entry, before its vector (07 R198). -/
def eventPosted (code data : Nat) (s : State) : State :=
  let q := s.eq
  let tail := (q.tail + 1) % 2 ^ q.log2
  let s1 := hostWrite (baseAddr q.baseLo q.baseHi + 32 * q.tail)
    (natBytes 32 (layout 0 [⟨0, 2, code⟩, ⟨2, 1, s.node⟩, ⟨4, 4, q.seq.toNat⟩, ⟨8, 8, s.alw.period⟩, ⟨16, 15, data⟩,
      ⟨31, 1, if q.phase then 0x80 else 0⟩])) s
  { s1 with eq := { q with
      tail := tail, phase := if tail = 0 then !q.phase else q.phase, seq := q.seq + 1,
      unsignalled := (backlogAdd (s.eventVector code) s.now q.coalUs q.coalCount q.unsignalled).1,
      heldWhileDown := if s.linkHolds then q.heldWhileDown + 1 else 0 } }

/-- The vector of an event follows its entry at once or is coalesced (06 R180). -/
theorem writeEvent_cases (code data : Nat) (s : State) :
    writeEvent code data s = sendVector (s.eventVector code) (eventPosted code data s) ∨
      writeEvent code data s = eventPosted code data s := by
  unfold writeEvent
  dsimp only
  split
  · exact .inl rfl
  · exact .inr rfl

theorem eq_writeEvent (code data : Nat) (s : State) : (writeEvent code data s).eq = (eventPosted code data s).eq := by
  obtain h | h := writeEvent_cases code data s
  · rw [h]
    exact congrArg Prod.fst (ringPart_sendVector _ _)
  · rw [h]

theorem hostMem_writeEvent (code data : Nat) (s : State) :
    (writeEvent code data s).link.hostMem = (eventPosted code data s).link.hostMem := by
  obtain h | h := writeEvent_cases code data s
  · rw [h, hostMem_sendVector]
  · rw [h]

/-- An event that finds room while none is lost is written (07 R198). -/
theorem raiseCore_of_room {code : Nat} {fields : List Fld} {s : State} (hroom : s.eqRoom = true)
    (hlost : s.eq.lostPending = false) : raiseCore code fields s = writeEvent code (layout 16 fields) s := by
  simp [raiseCore, flushLost_of_none hlost, hroom]

/-- An event without room is dropped (07 R199). -/
theorem raiseCore_of_noRoom {code : Nat} {fields : List Fld} {s : State} (hroom : s.eqRoom = false) :
    raiseCore code fields s = dropEvent s := by
  simp [raiseCore, flushLost, hroom]

/-- The state with an event lost, before the interrupt of EQ_OVERFLOW (07 R199; 06 R176). -/
def eventLost (s : State) : State :=
  bump (devCtr 19) 1
    { s with eq := { s.eq with seq := s.eq.seq + 1, dropped := s.eq.dropped + 1, lostPending := true },
             irq := { s.irq with eqOverflow := true } }

theorem ringPart_eventLost (s : State) : ringPart (eventLost s) =
    ({ s.eq with seq := s.eq.seq + 1, dropped := s.eq.dropped + 1, lostPending := true },
      { s.irq with eqOverflow := true }, s.ep.cc) :=
  (congrArg ringPart (offCharge_bump ..) :)

theorem hostMem_eventLost (s : State) : (eventLost s).link.hostMem = s.link.hostMem :=
  (congrArg (·.link.hostMem) (offCharge_bump ..) :)

/-- The interrupt of EQ_OVERFLOW follows where its cause is new and unmasked (06 R181). -/
theorem dropEvent_cases (s : State) : dropEvent s = sendCause (eventLost s) ∨ dropEvent s = eventLost s := by
  unfold dropEvent irqMessage
  dsimp only
  split
  · exact .inl rfl
  · exact .inr rfl

theorem ringPart_dropEvent (s : State) : ringPart (dropEvent s) = ringPart (eventLost s) := by
  obtain h | h := dropEvent_cases s
  · rw [h, ringPart_sendCause]
  · rw [h]

theorem hostMem_dropEvent (s : State) : (dropEvent s).link.hostMem = (eventLost s).link.hostMem := by
  obtain h | h := dropEvent_cases s
  · rw [h, hostMem_sendCause]
  · rw [h]

/-- Settles O51: the written entry, and the dropped event, before the vector that follows them. -/
theorem eventQueuePosts : Obligations.EventQueuePosts := by
  unfold Obligations.EventQueuePosts
  refine ⟨?posted, ?dropped⟩
  case posted =>
    intro code fields s hroom hlost hon hlink hfree
    rw [raiseCore_of_room hroom hlost, eq_writeEvent, hostMem_writeEvent]
    exact ⟨hostMem_hostWrite _ hon hlink (by rw [ceilDiv_entry]; exact hfree), rfl, rfl⟩
  case dropped =>
    intro code fields s hroom
    have hring := (ringPart_dropEvent s).trans (ringPart_eventLost s)
    obtain ⟨heq, hrest⟩ := Prod.mk.inj hring
    obtain ⟨hirq, _⟩ := Prod.mk.inj hrest
    have hmem := (hostMem_dropEvent s).trans (hostMem_eventLost s)
    rw [raiseCore_of_noRoom hroom, heq, hirq, hmem]
    exact ⟨rfl, rfl, rfl, rfl, rfl, rfl⟩

end Sys2Proof.Machine

/-! The final completion (06 R166, R175; 07 R195; 18 R557). -/
namespace Sys2Proof.Machine

/-- The state with other open commands, retry records and settings bookkeeping: none of them bears on a charge. -/
def rebooked (cmds : Commands) (sets : SettingsState) (s : State) : State :=
  { s with cmds := cmds, sets := sets }

section
variable (x : Commands) (y : SettingsState)

theorem chargeGrant_rebooked (cls res n : Nat) (s : State) :
    chargeGrant cls res n (rebooked x y s) = rebooked x y (chargeGrant cls res n s) := by
  have hruns : (rebooked x y s).tallyRuns = s.tallyRuns := rfl
  unfold chargeGrant bump
  dsimp only
  change (if s.tallyRuns = true then _ else _) = rebooked x y (if s.tallyRuns = true then _ else _)
  split <;> rfl

theorem payRound_rebooked (cls res n : Nat) (s : State) :
    payRound cls res n (rebooked x y s) = (rebooked x y (payRound cls res n s).1, (payRound cls res n s).2) := by
  unfold payRound
  dsimp only
  change (if (n = 0 || !s.mayGrant cls res) = true then _ else _) = _
  split
  · rfl
  · rw [chargeGrant_rebooked]
    rfl

theorem pay_rebooked (cls res n : Nat) (s : State) :
    pay cls res n (rebooked x y s) = (rebooked x y (pay cls res n s).1, (pay cls res n s).2) := by
  unfold pay payNow
  change (if (s.balance cls res).waiting.isEmpty = true then _ else _) = _
  split
  · simp only [payRound_rebooked]
  · rfl

theorem hostFree_rebooked (n : Nat) (s : State) : (rebooked x y s).hostFree n = s.hostFree n := by
  simp only [State.hostFree, pay_rebooked]
  rfl

end

/-- The state in which a command has closed and its completion is to go out (07 R195, R207). -/
def closed (e : Entry) (status : Byte) (result : Nat) (s : State) : State :=
  recordFinal e.id status result { s with
    cmds := { s.cmds with entries := s.cmds.entries.filter fun x => x.id != e.id },
    sets := s.sets.changed (status == stDone && changesSettings e.op e.cmd) }

/-- A command that no retry has joined posts one completion (07 R195). -/
theorem finish_alone {e : Entry} {s : State} (status : Byte) (result : List Fld) (hentry : s.entry e.id = some e)
    (hjoined : e.joined = []) : finish e status result s =
      postTo e.source e.cc e.discard (opcodeOf e.op) e.cmd.tag status 1 (resultOf result) e.reply
        (closed e status (resultOf result) s) := by
  simp only [finish, hentry, hjoined, List.foldl_nil, closed]

theorem hostFree_closed (e : Entry) (status : Byte) (result n : Nat) (s : State) :
    (closed e status result s).hostFree n = s.hostFree n :=
  hostFree_rebooked _ _ n s

/-- A command that has closed is no longer open. -/
theorem entry_closed (e : Entry) (status : Byte) (result : Nat) (s : State) :
    (closed e status result s).entry e.id = none := by
  refine List.find?_eq_none.mpr fun x hx => ?_
  simpa using (List.mem_filter.mp hx).2

/-- The completion that follows opens nothing (07 R195). -/
theorem entry_finish_alone {e : Entry} {s : State} (status : Byte) (result : List Fld) (hentry : s.entry e.id = some e)
    (hjoined : e.joined = []) : (finish e status result s).entry e.id = none := by
  have hcmds := cmds_of_offPosts (offPosts_postTo e.source e.cc e.discard (opcodeOf e.op) e.cmd.tag status 1
    (resultOf result) e.reply (closed e status (resultOf result) s))
  rw [finish_alone status result hentry hjoined, State.entry, hcmds]
  exact entry_closed e status (resultOf result) s

/-! A completion queue's entry. -/

theorem hostMem_writeCompletion {cc : Nat} {s : State} (fields : List Fld) (hen : (s.ep.cc.getD cc {}).enable = true)
    (hon : s.endpointOn = true) (hlink : s.linkHolds = false) (hfree : s.hostFree 1 = true) :
    (writeCompletion cc fields s).link.hostMem = swrite s.link.hostMem
      (baseAddr (s.ep.cc.getD cc {}).baseLo (s.ep.cc.getD cc {}).baseHi + 32 * (s.ep.cc.getD cc {}).tail)
      (natBytes 32 (layout 0 (fields ++ [⟨31, 1, if (s.ep.cc.getD cc {}).phase then 0x80 else 0⟩]))) := by
  have hposted : (completionPosted cc fields s).link.hostMem = _ :=
    hostMem_hostWrite _ hon hlink (by rw [ceilDiv_entry]; exact hfree)
  obtain h | h := writeCompletion_enabled fields hen
  · rw [h, hposted]
  · rw [h, hostMem_sendVector, hposted]

theorem cc_sendVector (v : Nat) (s : State) : (sendVector v s).ep.cc = s.ep.cc :=
  (congrArg (·.2.2) (ringPart_sendVector v s) :)

theorem cc_completionPosted (cc : Nat) (fields : List Fld) (s : State) :
    (completionPosted cc fields s).ep.cc = s.ep.cc.set cc ((s.ep.cc.getD cc {}).posted s.now) :=
  (congrArg (fun ring => ring.2.2.set cc ((s.ep.cc.getD cc {}).posted s.now)) (ringPart_hostWrite _ _ s) :)

/-- TAIL moves on by one entry (06 R175). -/
theorem tail_writeCompletion {cc : Nat} {s : State} (fields : List Fld) (hen : (s.ep.cc.getD cc {}).enable = true)
    (hcc : cc < s.ep.cc.length) : ((writeCompletion cc fields s).ep.cc.getD cc {}).tail =
      ((s.ep.cc.getD cc {}).tail + 1) % 2 ^ (s.ep.cc.getD cc {}).log2 := by
  have hposted : (writeCompletion cc fields s).ep.cc = s.ep.cc.set cc ((s.ep.cc.getD cc {}).posted s.now) := by
    obtain h | h := writeCompletion_enabled fields hen
    · rw [h, cc_completionPosted]
    · rw [h, cc_sendVector, cc_completionPosted]
  simp [hposted, hcc, CompletionQueue.posted]

/-- The direct mailbox's completion once its access is granted (06 R166; 03 R76). -/
theorem dmb_dmbComplete {s : State} (fields : List Fld) (hon : s.endpointOn = true) (hfree : s.hostFree 1 = true) :
    (dmbComplete fields s).ep.dmb = { s.ep.dmb with
      cmpl := natBytes 32 (layout 0 fields), seq := s.ep.dmb.seq + 1, done := true, busy := false, taken := false } := by
  have hissue : dmbComplete fields s = land (.mailbox _) (pay 2 1 _ s).1 :=
    issue_granted hon ((congrArg s.hostFree (ceilDiv_entry _)).trans hfree)
  simp [hissue, land, endpointOn_pay, hon, ep_pay]

/-- Settles O50: the command that closes posts one completion, and each transport has one lemma. -/
theorem finalCompletion : Obligations.FinalCompletion := by
  unfold Obligations.FinalCompletion
  refine ⟨?cq, ?dmb, ?mgmt⟩
  case cq =>
    intro e st r s q j hentry hsrc hdiscard hjoined hon hlink hfree hen
    have hpost : finish e st r s = writeCompletion e.cc (completionFields (opcodeOf e.op) e.cmd.tag st 1
        (q.val * 4096 + j.val) (resultOf r)) (closed e st (resultOf r) s) := by
      rw [finish_alone st r hentry hjoined, hsrc, hdiscard]
      rfl
    refine ⟨entry_finish_alone st r hentry hjoined, ?_, fun hcc => ?_⟩
    · rw [hpost]
      exact hostMem_writeCompletion _ hen hon hlink ((hostFree_closed ..).trans hfree)
    · rw [hpost]
      exact tail_writeCompletion _ hen hcc
  case dmb =>
    intro e st r s hentry hsrc hdiscard hjoined hon hfree
    have hpost : finish e st r s = dmbComplete (completionFields (opcodeOf e.op) e.cmd.tag st 5 0 (resultOf r))
        (closed e st (resultOf r) s) := by
      rw [finish_alone st r hentry hjoined, hsrc, hdiscard]
      rfl
    refine ⟨entry_finish_alone st r hentry hjoined, ?_⟩
    rw [hpost]
    exact dmb_dmbComplete _ hon ((hostFree_closed ..).trans hfree)
  case mgmt =>
    intro e st r s hentry hsrc hjoined
    refine ⟨entry_finish_alone st r hentry hjoined, ?_⟩
    rw [finish_alone st r hentry hjoined, hsrc]
    rfl

end Sys2Proof.Machine

/-! What accepting, completing and taking a command leave alone (07 R201 to R208). -/
namespace Sys2Proof.Machine

/-- A state without what accepting a command writes: what its completions write, and the open commands with the retry
table. -/
def offCommands (s : State) : State :=
  { offPosts s with cmds := {} }

theorem offCommands_of_offPosts {s t : State} (h : offPosts t = offPosts s) : offCommands t = offCommands s :=
  congrArg (fun u : State => { u with cmds := {} }) h

theorem offCommands_postAccepted (op : Op) (src : Source) (cc : Nat) (discard noAccepted : Bool) (tag : BitVec 16)
    (extra : Nat) (s : State) :
    offCommands (postAccepted op src cc discard noAccepted tag extra s) = offCommands s :=
  offCommands_of_offPosts (offPosts_postAccepted ..)

theorem offCommands_foldl {α : Type} {f : State → α → State} (h : ∀ s a, offCommands (f s a) = offCommands s)
    (l : List α) (s : State) : offCommands (l.foldl f s) = offCommands s := by
  induction l generalizing s with
  | nil => rfl
  | cons a rest ih => exact (ih _).trans (h s a)

theorem offCommands_setEntry (id : Nat) (f : Entry → Entry) (s : State) :
    offCommands (setEntry id f s) = offCommands s := rfl

theorem offCommands_accept (e : Entry) (s : State) : offCommands (accept e s) = offCommands s := by
  unfold accept
  split
  · rfl
  · exact (offCommands_foldl (fun _ _ => offCommands_postAccepted ..) _ _).trans
      ((offCommands_postAccepted ..).trans (offCommands_setEntry ..))

/-- A state without what the commands that report write: what accepting and completing them writes, the settings areas'
bookkeeping and the number of free values drawn. -/
def offReport (s : State) : State :=
  { s with
    cmds := {}, ep := {}, link := {}, eq := {}, irq := {}, tally := [], mgmt := {},
    alw := { s.alw with balances := [] }, lanes := {}, freeCount := 0, sets := {} }

theorem offReport_of_offPosts {s t : State} (h : offPosts t = offPosts s) : offReport t = offReport s := by
  have hread : ∀ u, offReport (offPosts u) = offReport u := fun _ => rfl
  rw [← hread t, h, hread]

/-- Two states that agree beside what a report writes differ in that alone. -/
theorem eq_of_offReport {s t : State} (h : offReport t = offReport s) :
    t = { s with
      cmds := t.cmds, ep := t.ep, link := t.link, eq := t.eq, irq := t.irq, tally := t.tally, mgmt := t.mgmt,
      alw := { s.alw with balances := t.alw.balances }, lanes := t.lanes, freeCount := t.freeCount, sets := t.sets } := by
  have hback : t = { offReport t with
      cmds := t.cmds, ep := t.ep, link := t.link, eq := t.eq, irq := t.irq, tally := t.tally, mgmt := t.mgmt,
      alw := { (offReport t).alw with balances := t.alw.balances }, lanes := t.lanes, freeCount := t.freeCount,
      sets := t.sets } := rfl
  rw [h] at hback
  exact hback

theorem offReport_answer (src : Source) (cc op : Nat) (tag : BitVec 16) (status : Byte) (extra result : Nat) (s : State) :
    offReport (answer src cc op tag status extra result s) = offReport s :=
  offReport_of_offPosts (offPosts_answer ..)

theorem offReport_hostWrite (address : Nat) (bytes : List Byte) (s : State) :
    offReport (hostWrite address bytes s) = offReport s :=
  offReport_of_offPosts (offPosts_of_unreported (unreported_hostWrite address bytes s))

theorem offReport_postTo (src : Source) (cc : Nat) (discard : Bool) (op : Nat) (tag : BitVec 16) (status : Byte)
    (extra result : Nat) (data : List Byte) (s : State) :
    offReport (postTo src cc discard op tag status extra result data s) = offReport s :=
  offReport_of_offPosts (offPosts_postTo ..)

theorem offReport_postAccepted (op : Op) (src : Source) (cc : Nat) (discard noAccepted : Bool) (tag : BitVec 16)
    (extra : Nat) (s : State) : offReport (postAccepted op src cc discard noAccepted tag extra s) = offReport s :=
  offReport_of_offPosts (offPosts_postAccepted ..)

theorem offReport_count (c : Ctr) (s : State) : offReport (count c s) = offReport s :=
  offReport_of_offPosts (offPosts_count c s)

theorem offReport_tell (dest : Nat) (m : StewardMessage) (s : State) : offReport (tell dest m s) = offReport s :=
  offReport_of_offPosts (offPosts_tell dest m s)

theorem offReport_foldl {α : Type} {f : State → α → State} (h : ∀ s a, offReport (f s a) = offReport s) (l : List α)
    (s : State) : offReport (l.foldl f s) = offReport s := by
  induction l generalizing s with
  | nil => rfl
  | cons a rest ih => exact (ih _).trans (h s a)

theorem offReport_finish (e : Entry) (status : Byte) (result : List Fld) (s : State) :
    offReport (finish e status result s) = offReport s := by
  unfold finish
  split
  · rfl
  · exact (offReport_foldl (fun _ _ => offReport_postTo ..) _ _).trans ((offReport_postTo ..).trans rfl)

theorem offReport_checked {e : Entry} {modes : List Mode} {cs : List Check} {eff : State → State} {s : State}
    (h : offReport (eff s) = offReport s) : offReport (checked e modes cs eff s) = offReport s := by
  by_cases hm : s.mode.current ∈ modes
  · cases hc : badOffset cs with
    | none => rw [checked_pass hm hc, h]
    | some o => rw [checked_of_badOffset hm hc, offReport_finish]
  · rw [checked_of_mode hm, offReport_finish]

theorem offReport_recordRetry {r : RetryRecord} {s t : State} (h : recordRetry r s = some t) :
    offReport t = offReport s := by
  unfold recordRetry at h
  dsimp only at h
  (repeat' split at h) <;> cases h
  · rfl
  · exact (offReport_count ..).trans rfl

theorem offReport_joinOriginal (r : RetryRecord) (src : Source) (c : Cmd) (s : State) :
    offReport (joinOriginal r src c s) = offReport s := by
  unfold joinOriginal
  dsimp only
  split
  · exact (offReport_postAccepted ..).trans rfl
  · rfl

theorem offReport_tagFault {code : Nat} {src : Source} {c : Cmd} {s t : State} (h : tagFault code src c s = some t) :
    offReport t = offReport s := by
  unfold tagFault at h
  (repeat' split at h) <;> cases h <;> exact offReport_answer ..

/-! A command whose own work writes nothing else. -/

section
variable {beg : Entry → State → State} (hbeg : ∀ e s, offReport (beg e s) = offReport s)
include hbeg

theorem offReport_openEntry (op : Op) (src : Source) (c : Cmd) (s : State) :
    offReport (openEntry op src c (objectsOf op c) beg s) = offReport s := by
  rw [openEntry_eq]
  split
  · rfl
  · exact hbeg _ _

theorem offReport_matchRetry (op : Op) (src : Source) (c : Cmd) (s : State) :
    offReport (matchRetry op src c (objectsOf op c) beg s) = offReport s := by
  unfold matchRetry
  dsimp only
  (repeat' split)
  · exact offReport_openEntry hbeg ..
  · exact offReport_answer ..
  · exact offReport_joinOriginal ..
  · exact offReport_answer ..
  · exact offReport_answer ..
  next hrecord => exact (offReport_openEntry hbeg ..).trans (offReport_recordRetry hrecord)

theorem offReport_takeCommand (op : Op) (src : Source) (c : Cmd) (s : State) :
    offReport (takeCommand op src c (objectsOf op c) beg s) = offReport s := by
  unfold takeCommand
  dsimp only
  (repeat' split)
  · rfl
  next hfault => exact offReport_tagFault hfault
  · exact offReport_answer ..
  · exact hbeg _ _
  · exact offReport_answer ..
  · exact offReport_answer ..
  · exact offReport_matchRetry hbeg ..

end

end Sys2Proof.Machine

/-! The commands that only report (07 R214, R216, R217; 02 R59; 03 R88; 12 R375, R376; 17 R538, R544). -/
namespace Sys2Proof.Machine

/-- The commands that only report. -/
def reportingOps : List Op :=
  [.identify, .versionGet, .settingsStatus, .allowanceReport, .paceReport, .channelQuery, .tbTimeGet, .portStatus,
    .stationQuery, .clusterStatus, .ledgerStatus, .counterRead, .telemetryRead, .imageStatus, .engineStatus,
    .retirementMapGet]

/-- A report to host memory and its completion (02 R59; 03 R88; 17 R538). -/
theorem offReport_finish_hostWrite (e : Entry) (status : Byte) (result : List Fld) (address : Nat) (bytes : List Byte)
    (s : State) : offReport (finish e status result (hostWrite address bytes s)) = offReport s :=
  (offReport_finish ..).trans (offReport_hostWrite ..)

/-- A report whose free values are drawn with it (07 R214; 17 R544). -/
theorem offReport_finish_drawn (e : Entry) (status : Byte) (result : List Fld) (address : Nat) (bytes : List Byte)
    (s : State) : offReport (finish e status result (drawn (hostWrite address bytes s))) = offReport s := by
  have hdrawn : ∀ u, offReport (drawn u) = offReport u := fun _ => rfl
  rw [offReport_finish, hdrawn, offReport_hostWrite]

theorem offReport_setEntry (id : Nat) (f : Entry → Entry) (s : State) : offReport (setEntry id f s) = offReport s := rfl

theorem offReport_finishData (e : Entry) (address : Nat) (data : List Byte) (s : State) :
    offReport (finishData e address data s) = offReport s := by
  unfold finishData
  split
  · rw [offReport_finish, offReport_setEntry]
  · exact offReport_finish_hostWrite ..

/-- A query that goes to another member leaves as a message (01 R27). -/
theorem offReport_askNext (e : Entry) (nodes : List Nat) (s : State) : offReport (askNext e nodes s) = offReport s := by
  cases nodes with
  | nil => exact offReport_finish ..
  | cons n rest => rw [askNext, askRemote, offReport_tell, offReport_setEntry, offReport_setEntry]

theorem offReport_channelQuery (e : Entry) (s : State) : offReport (channelQueryBegin e s) = offReport s := by
  refine offReport_checked ?_
  unfold onChannel
  (repeat' split)
  · exact offReport_finishData ..
  · exact offReport_finish ..
  · exact offReport_askNext ..

theorem offReport_stationQuery (e : Entry) (s : State) : offReport (stationQueryBegin e s) = offReport s := by
  refine offReport_checked ?_
  split <;> exact offReport_finish ..

theorem offReport_counterRead (e : Entry) (s : State) : offReport (counterReadBegin e s) = offReport s := by
  refine offReport_checked ?_
  split
  · exact offReport_finish ..
  · exact offReport_finish_hostWrite ..

/-- Each of them answers with its RESULT, with a report in host memory, or by way of another member. -/
theorem offReport_beginOf {op : Op} (hop : op ∈ reportingOps) (e : Entry) (s : State) :
    offReport (beginOf op e s) = offReport s := by
  cases op with
  | identify | versionGet | tbTimeGet | portStatus | telemetryRead =>
    dsimp only [beginOf, identifyBegin, versionGetBegin, tbTimeGetBegin, portStatusBegin, telemetryReadBegin]
    exact offReport_checked (offReport_finish ..)
  | allowanceReport | paceReport | clusterStatus | ledgerStatus | engineStatus | retirementMapGet =>
    dsimp only [beginOf, allowanceReportBegin, paceReportBegin, clusterStatusBegin, ledgerStatusBegin,
      engineStatusBegin, retirementMapGetBegin]
    exact offReport_checked (offReport_finish_hostWrite ..)
  | settingsStatus | imageStatus =>
    dsimp only [beginOf, settingsStatusBegin, imageStatusBegin]
    exact offReport_checked (offReport_finish_drawn ..)
  | channelQuery => exact offReport_channelQuery e s
  | stationQuery => exact offReport_stationQuery e s
  | counterRead => exact offReport_counterRead e s
  | _ => simp [reportingOps] at hop

/-- Settles O53: taking the command and the report itself write nothing else. -/
theorem reportsChangeNothingElse : Obligations.ReportsChangeNothingElse := by
  unfold Obligations.ReportsChangeNothingElse
  intro i op src c s t hrow hop h
  rw [exec_hostRow hrow] at h
  cases h
  exact eq_of_offReport (offReport_takeCommand (offReport_beginOf hop) op src c s)

end Sys2Proof.Machine

/-! Running and saved settings (07 R210, R211, R213 to R215). -/
namespace Sys2Proof.Machine

/-- A save that may run and has an area: it is accepted and begins to write (07 R213). -/
def acceptSave (e : Entry) (area : Nat) (s : State) : State :=
  startSave (some e.id) area (accept e s)

/-- SETTINGS_SAVE's effect (07 R213). -/
def settingsSaveEffect (e : Entry) (s : State) : State :=
  if 0xFFFFFFFE < s.nextGen then finish e stWorn [] s
  else match (if s.mayNotSave then none else s.saveTarget) with
    | none => finish e stNoResource [] s
    | some area => acceptSave e area s

theorem settingsSaveEffect_begins {e : Entry} {s : State} {area : Nat} (hgen : s.nextGen ≤ 0xFFFFFFFE)
    (hmay : s.mayNotSave = false) (htarget : s.saveTarget = some area) :
    settingsSaveEffect e s = acceptSave e area s := by
  simp [settingsSaveEffect, Nat.not_lt.mpr hgen, hmay, htarget]

theorem sets_of_offCommands {s t : State} (h : offCommands t = offCommands s) : t.sets = s.sets :=
  (congrArg State.sets h :)

theorem cfg_of_offCommands {s t : State} (h : offCommands t = offCommands s) : t.cfg = s.cfg :=
  (congrArg State.cfg h :)

/-- The next GEN is read from the areas (07 R213). -/
theorem nextGen_of_sets {s t : State} (h : t.sets = s.sets) : t.nextGen = s.nextGen := by
  rw [State.nextGen, State.nextGen, State.newestArea, State.newestArea, h]

theorem sets_startSave (entry : Option Nat) (area : Nat) (s : State) :
    (startSave entry area s).sets = { s.sets with
      save := some { entry := entry, copy := s.cfg, gen := s.nextGen, area := area, done := 0, total := saveOps } } := rfl

/-- The save under way, what it copies and the areas, of which none is written yet (07 R213). -/
theorem sets_acceptSave (e : Entry) (area : Nat) (s : State) :
    (acceptSave e area s).sets = { s.sets with
      save := some { entry := some e.id, copy := s.cfg, gen := s.nextGen, area := area, done := 0, total := saveOps } } ∧
    (acceptSave e area s).cfg = s.cfg := by
  have hoff := offCommands_accept e s
  have hsets := sets_of_offCommands hoff
  have hcfg := cfg_of_offCommands hoff
  refine ⟨?_, hcfg⟩
  rw [acceptSave, sets_startSave, hsets, hcfg, nextGen_of_sets hsets]

/-- SETTINGS_STATUS's effect (07 R214). -/
def reportSettings (e : Entry) (s : State) : State :=
  finish e stDone [] (drawn (hostWrite (prm e.cmd 16 8) (settingsReport s) s))

/-- SETTINGS_REVERT's effect (07 R215). -/
def revertSettings (e : Entry) (s : State) : State :=
  match s.sets.loaded with
  | some x => replaceSettings e x s
  | none => finish e stNotFound [] s

/-- Settles O5: each command opens and passes its checks; accepting a save leaves the settings as its copy takes them. -/
theorem settingsCommandsComplete : Obligations.SettingsCommandsComplete := by
  unfold Obligations.SettingsCommandsComplete
  refine ⟨?save, ?status, ?revert, ?factory⟩
  case save =>
    intro src c s a ho ha hgen hmay htarget
    have hexec : exec (.settingsSave src c) s = .next (settingsSaveEffect _ _) :=
      exec_accepted (eff := settingsSaveEffect _) rfl ho ha rfl
    rw [settingsSaveEffect_begins (s := opened .settingsSave src c s) hgen hmay htarget] at hexec
    obtain ⟨hsets, hcfg⟩ := sets_acceptSave (entryOf .settingsSave src c s) a (opened .settingsSave src c s)
    refine ⟨_, hexec, ?_, hcfg, ?_⟩
    · rw [hsets]
      rfl
    · rw [hsets]
      rfl
  case status => exact fun src c s ho ha => exec_accepted (eff := reportSettings _) rfl ho ha rfl
  case revert =>
    intro src c s x ho ha hloaded
    have hrevert : revertSettings (entryOf .settingsRevert src c s) (opened .settingsRevert src c s) =
        replaceSettings (entryOf .settingsRevert src c s) x (opened .settingsRevert src c s) := by
      simp only [revertSettings, opened_sets, hloaded]
    rw [← hrevert]
    exact exec_accepted (eff := revertSettings _) rfl ho ha rfl
  case factory => exact fun src c s ho ha => exec_accepted (eff := replaceSettings _ {}) rfl ho ha rfl

end Sys2Proof.Machine

/-! The engines', the fault log's and the retirement commands (08 R248 to R250; 16 R505 to R508). -/
namespace Sys2Proof.Machine

/-- ENGINE_CONFIG_SET's effect: the configuration is in force as the command completes (08 R248). -/
def configureEngines (e : Entry) (s : State) : State :=
  let sel := prmByte e.cmd 24
  finish e stDone [] { s with board := { s.board with
    engines := s.board.engines.mapIdx fun i x =>
      if sel ≤ 1 ∧ (prm e.cmd 16 8).testBit i then { x with preempt := decide (sel = 1) } else x,
    reserveCoins := if decide (prmByte e.cmd 25 % 2 = 1) then prm e.cmd 28 4 else s.board.reserveCoins } }

/-! Self-tests (08 R243, R250). -/

/-- The self-test that an ENGINE_TEST asks for, before its first iteration (08 R250). -/
def requestedTest (e : Entry) : TestJob :=
  ⟨e.id, prmByte e.cmd 16, prm e.cmd 18 2, 0, false, 0⟩

/-- The state with one more self-test. -/
def withTest (j : TestJob) (s : State) : State :=
  { s with board := { s.board with tests := s.board.tests ++ [j] } }

/-- ENGINE_TEST's effect (08 R250). -/
def beginTest (e : Entry) (s : State) : State :=
  beginIterations (withTest (requestedTest e) (accept e s))

/-- An iteration that holds its descriptor has begun already (08 R243). -/
theorem beginIteration_of_holds {j : TestJob} (s : State) (h : j.holds = true) : beginIteration s j = s := by
  simp [beginIteration, h]

theorem foldl_beginIteration_of_holds {l : List TestJob} (s : State) (h : ∀ j ∈ l, j.holds = true) :
    l.foldl beginIteration s = s := by
  induction l with
  | nil => rfl
  | cons j rest ih =>
    rw [List.foldl_cons, beginIteration_of_holds s (h j List.mem_cons_self)]
    exact ih fun k hk => h k (List.mem_cons_of_mem j hk)

/-- Without a free descriptor an iteration waits (08 R243). -/
theorem beginIteration_of_noneFree {s : State} (j : TestJob) (h : s.board.transientFree = 0) :
    beginIteration s j = s := by
  simp [beginIteration, h]

/-- The iteration of a test takes a free descriptor; the slice that it asks for leaves the board alone (08 R243,
R250). -/
theorem board_beginIteration_of_free {s : State} {j : TestJob} (hj : j.holds = false)
    (hfree : s.board.transientFree ≠ 0) :
    (beginIteration s j).board = { s.board with
      tests := s.board.tests.map fun x => if x.entry = j.entry then { x with holds := true, slices := 0 } else x,
      transientFree := s.board.transientFree - 1,
      transientLow := min (s.board.transientFree - 1) s.board.transientLow } := by
  simp [beginIteration, hj, hfree, requestSlice, enqueueRequest, setBalance, takeDescriptor]

/-- A change of the test of one command leaves the others as they are. -/
theorem map_tests_last {old : List TestJob} {j : TestJob} (f : TestJob → TestJob) (h : ∀ k ∈ old, k.entry ≠ j.entry) :
    ((old ++ [j]).map fun x => if x.entry = j.entry then f x else x) = old ++ [f j] := by
  have hold : (old.map fun x => if x.entry = j.entry then f x else x) = old :=
    (List.map_congr_left fun k hk => if_neg (h k hk)).trans (List.map_id' old)
  rw [List.map_append, hold, List.map_singleton, if_pos rfl]

/-- With every other test under way, the new one begins where a descriptor is free (08 R243, R250). -/
theorem board_beginIterations_withTest {s : State} {j : TestJob} (hj : j.holds = false) (hslices : j.slices = 0)
    (hothers : ∀ k ∈ s.board.tests, k.holds = true ∧ k.entry ≠ j.entry) :
    (beginIterations (withTest j s)).board.tests
        = s.board.tests ++ [{ j with holds := decide (0 < s.board.transientFree) }] ∧
      (beginIterations (withTest j s)).board.transientFree = s.board.transientFree - 1 ∧
      (beginIterations (withTest j s)).board.engines = s.board.engines := by
  have hlast : beginIterations (withTest j s) = beginIteration (withTest j s) j := by
    change (s.board.tests ++ [j]).foldl beginIteration (withTest j s) = _
    rw [List.foldl_append, foldl_beginIteration_of_holds _ fun k hk => (hothers k hk).1]
    rfl
  rw [hlast]
  by_cases hfree : s.board.transientFree = 0
  · have hnone : (withTest j s).board.transientFree = 0 := hfree
    have hwaits : { j with holds := decide (0 < s.board.transientFree) } = j := by
      rw [decide_eq_false (Nat.not_lt.mpr hfree.le), ← hj]
    rw [beginIteration_of_noneFree j hnone, hwaits]
    exact ⟨rfl, by rw [hnone, hfree], rfl⟩
  · have hsome : (withTest j s).board.transientFree ≠ 0 := hfree
    rw [board_beginIteration_of_free hj hsome]
    refine ⟨?_, rfl, rfl⟩
    have hbegun : { j with holds := true, slices := 0 } = { j with holds := decide (0 < s.board.transientFree) } := by
      rw [decide_eq_true (Nat.pos_of_ne_zero hfree), ← hslices]
    rw [← hbegun]
    exact map_tests_last _ fun k hk => (hothers k hk).2

theorem board_of_offCommands {s t : State} (h : offCommands t = offCommands s) : t.board = s.board :=
  (congrArg State.board h :)

/-- ENGINE_TEST behind its checks, with every other test under way (08 R250). -/
theorem board_beginTest {e : Entry} {s : State} (hothers : ∀ k ∈ s.board.tests, k.holds = true ∧ k.entry ≠ e.id) :
    (beginTest e s).board.tests = s.board.tests ++
        [⟨e.id, prmByte e.cmd 16, prm e.cmd 18 2, 0, decide (0 < s.board.transientFree), 0⟩] ∧
      (beginTest e s).board.transientFree = s.board.transientFree - 1 ∧
      (beginTest e s).board.engines = s.board.engines := by
  have hboard := board_of_offCommands (offCommands_accept e s)
  have hothers' : ∀ k ∈ (accept e s).board.tests, k.holds = true ∧ k.entry ≠ (requestedTest e).entry := by
    rw [hboard]
    exact hothers
  have hbegun := board_beginIterations_withTest (j := requestedTest e) rfl rfl hothers'
  rw [hboard] at hbegun
  exact hbegun

/-! The fault log (16 R504, R505). -/

/-- The records that a FAULT_LOG_READ brings: from its FIRST on, at most as many as it asks for (16 R505). -/
def State.recordsFor (s : State) (c : Cmd) : List FaultRecord :=
  ((s.faults.log ++ s.faults.staged).filter fun r => seqAfter r.seq (BitVec.ofNat 32 (prm c 16 4))).take (prm c 20 2)

/-- The sequence number of the oldest record held, or the next one where none is (16 R505). -/
def State.oldestSeq (s : State) : Nat :=
  ((s.faults.log ++ s.faults.staged).head?.map fun r => r.seq.toNat).getD s.faults.nextSeq.toNat

/-- FAULT_LOG_READ's effect (16 R504, R505). -/
def readFaultLog (e : Entry) (s : State) : State :=
  let out := s.recordsFor e.cmd
  let ack := prmByte e.cmd 22 % 2 = 1
  let crash := decide ack && (rmemByte s (crashBase + 4) != 0 || rmemByte s (crashBase + 20) != 0)
  let s1 := if out.isEmpty then s else hostWrite (prm e.cmd 24 8) (out.map recordBytes).flatten s
  finish e stDone [⟨8, 2, out.length⟩, ⟨10, 1, bit crash⟩, ⟨12, 4, s.oldestSeq⟩, ⟨16, 4, s.faults.nextSeq.toNat⟩]
    (if ack then crashAck s1 else s1)

/-- Records without an acknowledgement of the crash record (16 R505). -/
theorem readFaultLog_records {e : Entry} {s : State} (hack : prmByte e.cmd 22 % 2 = 0)
    (hout : s.recordsFor e.cmd ≠ []) :
    readFaultLog e s = finish e stDone
      [⟨8, 2, (s.recordsFor e.cmd).length⟩, ⟨10, 1, 0⟩, ⟨12, 4, s.oldestSeq⟩, ⟨16, 4, s.faults.nextSeq.toNat⟩]
      (hostWrite (prm e.cmd 24 8) ((s.recordsFor e.cmd).map recordBytes).flatten s) := by
  simp [readFaultLog, hack, hout, bit]

/-! Retirement (16 R506). -/

/-- An engine leaves service at its command's word; the command closes with its last channel (16 R506). -/
def retireEngineFor (e : Entry) (n : Nat) (s : State) : State :=
  settleRetires (grantAll (retireEngine n 9 (setEntry e.id (fun x => { x with aux := [8, n] }) s)))

/-- RETIRE's effect (16 R506). -/
def retireUnit (e : Entry) (s : State) : State :=
  let n := prm e.cmd 18 2
  if prmByte e.cmd 16 = 1 then
    if s.laneRetired n then finish e stRetired [] s else finish e stDone [] (retireLane n 9 true s)
  else if (s.engine n).retired then finish e stRetired [] s
  else retireEngineFor e n s

theorem retireUnit_lane {e : Entry} {s : State} (hlane : prmByte e.cmd 16 = 1)
    (hserves : s.laneRetired (prm e.cmd 18 2) = false) :
    retireUnit e s = finish e stDone [] (retireLane (prm e.cmd 18 2) 9 true s) := by
  simp [retireUnit, hlane, hserves]

theorem retireUnit_engine {e : Entry} {s : State} (hengine : prmByte e.cmd 16 = 0)
    (hserves : (s.engine (prm e.cmd 18 2)).retired = false) :
    retireUnit e s = retireEngineFor e (prm e.cmd 18 2) s := by
  simp [retireUnit, hengine, hserves]

/-- REINSTATE's effect (16 R506). -/
def reinstateUnit (e : Entry) (s : State) : State :=
  let n := prm e.cmd 18 2
  if prmByte e.cmd 16 = 1 then
    if s.laneRetired n then finish e stDone [] (reinstateLane n s) else finish e stDenied [] s
  else if !(s.engine n).retired || s.blockInReset n then finish e stDenied [] s
  else finish e stDone [] (reinstateEngine n s)

theorem reinstateUnit_lane {e : Entry} {s : State} (hlane : prmByte e.cmd 16 = 1)
    (hretired : s.laneRetired (prm e.cmd 18 2) = true) :
    reinstateUnit e s = finish e stDone [] (reinstateLane (prm e.cmd 18 2) s) := by
  simp [reinstateUnit, hlane, hretired]

theorem reinstateUnit_engine {e : Entry} {s : State} (hengine : prmByte e.cmd 16 = 0)
    (hretired : (s.engine (prm e.cmd 18 2)).retired = true) (hreset : s.blockInReset (prm e.cmd 18 2) = false) :
    reinstateUnit e s = finish e stDone [] (reinstateEngine (prm e.cmd 18 2) s) := by
  simp [reinstateUnit, hengine, hretired, hreset]

/-- Settles O16: each command opens and passes its checks; what its effect leaves is its rule's. -/
theorem engineAndFaultCommandsComplete : Obligations.EngineAndFaultCommandsComplete := by
  unfold Obligations.EngineAndFaultCommandsComplete
  refine ⟨?config, ?status, ?test, ?log, ?retireLane, ?retireEngine, ?reinstateLane, ?reinstateEngine, ?map⟩
  case config => exact fun src c s ho ha => exec_accepted (eff := configureEngines _) rfl ho ha rfl
  case status => exact fun src c s ho ha => exec_accepted (eff := writeReport _ engineReport) rfl ho ha rfl
  case test =>
    intro src c s ho ha hothers
    exact ⟨_, exec_accepted (eff := beginTest _) rfl ho ha rfl,
      board_beginTest (e := entryOf .engineTest src c s) (s := opened .engineTest src c s) hothers⟩
  case log =>
    rintro src c s _ ho ha hack rfl hne
    rw [exec_accepted (eff := readFaultLog _) rfl ho ha rfl,
      readFaultLog_records (e := entryOf .faultLogRead src c s) (s := opened .faultLogRead src c s) hack hne]
    rfl
  case retireLane =>
    intro src c s ho ha hlane hserves
    rw [exec_accepted (eff := retireUnit _) rfl ho ha rfl,
      retireUnit_lane (e := entryOf .retire src c s) (s := opened .retire src c s) hlane hserves]
    rfl
  case retireEngine =>
    rintro src c s _ ho ha hengine rfl hserves
    rw [exec_accepted (eff := retireUnit _) rfl ho ha rfl,
      retireUnit_engine (e := entryOf .retire src c s) (s := opened .retire src c s) hengine hserves]
    rfl
  case reinstateLane =>
    intro src c s ho ha hlane hretired
    rw [exec_accepted (eff := reinstateUnit _) rfl ho ha rfl,
      reinstateUnit_lane (e := entryOf .reinstate src c s) (s := opened .reinstate src c s) hlane hretired]
    rfl
  case reinstateEngine =>
    intro src c s ho ha hengine hretired hreset
    rw [exec_accepted (eff := reinstateUnit _) rfl ho ha rfl,
      reinstateUnit_engine (e := entryOf .reinstate src c s) (s := opened .reinstate src c s) hengine hretired hreset]
    rfl
  case map => exact fun src c s ho ha => exec_accepted (eff := writeReport _ mapReport) rfl ho ha rfl

end Sys2Proof.Machine

/-! The engines after a device-level reset (08 R242). -/
namespace Sys2Proof.Machine

/-- A device-level reset restarts the board of engines, whatever asserts it (04 Table 4-3). -/
theorem board_assertReset (src : ResetSource) (cold : Bool) (lowNs : Nat) (s : State) :
    (assertReset src cold lowNs s).board = {} := rfl

/-- Every engine of a restarted board is PREEMPT (08 R242). -/
theorem preempt_of_board_reset {s : State} (h : s.board = {}) (e : Nat) : (s.engine e).preempt = true := by
  have hengine : (List.replicate 64 ({} : Engine)).getD e {} = {} := by
    rw [List.getD_eq_getElem?_getD, List.getElem?_replicate]
    split <;> rfl
  rw [State.engine, h]
  exact congrArg Engine.preempt hengine

/-- Settles O60: a rail's POR and the watchdog assert the reset that restarts the board. -/
theorem enginesPreemptAfterReset : Obligations.EnginesPreemptAfterReset := by
  unfold Obligations.EnginesPreemptAfterReset
  refine ⟨?asserted, ?por, ?watchdog⟩
  case asserted => exact fun src cold lowNs s => preempt_of_board_reset (board_assertReset src cold lowNs s)
  case por =>
    intro s rail e t h
    cases h
    exact preempt_of_board_reset (board_assertReset ..) e
  case watchdog =>
    intro s e t harmed h
    cases (exec_watchdogExpiry_armed harmed).symm.trans h
    exact preempt_of_board_reset (board_assertReset ..) e

end Sys2Proof.Machine

/-! Commands on a channel that runs here, or on a conference of this node (01 R27; 16 R496). -/
namespace Sys2Proof.Machine

section
variable {e : Entry} {id : Nat} {ch : Channel} {conf : Conference} {s : State}

/-- A command on a channel of this device is carried out on it (01 R27). -/
theorem onChannel_here {here : Channel → State → State} (h : s.channel id = some ch) :
    onChannel e id here s = here ch s := by
  simp only [onChannel, h]

/-- A channel that is not suspended takes commands (16 R496). -/
theorem unlessSuspended_serving {go : State → State} (h : ch.state ≠ .suspended) : unlessSuspended e ch go s = go s :=
  if_neg h

/-- A command on a conference of this node is carried out on it (09 R285). -/
theorem onConference_here {here : Conference → State → State} (h : s.openConference id = some conf) :
    onConference e id here s = here conf s := by
  simp only [onConference, h]

end

section
variable {i : Instr} {op : Op} {src : Source} {c : Cmd} {s : State} {modes : List Mode} {cs : List Check} {id : Nat}

/-- A command on a channel, with its checks passed, answers what its work on the channel leaves. -/
theorem exec_onChannel {here : Channel → State → State} {ch : Channel} (hrow : hostRow i = some (op, src, c))
    (ho : opens op src c s = true) (ha : accepts modes cs s = true) (hch : s.channel id = some ch)
    (hbegin : beginOf op (entryOf op src c s) (opened op src c s) = checked (entryOf op src c s) modes cs
      (onChannel (entryOf op src c s) id here) (opened op src c s)) :
    exec i s = .next (here ch (opened op src c s)) := by
  rw [exec_accepted hrow ho ha hbegin, onChannel_here (s := opened op src c s) hch]

/-- The same for a command that a suspended channel denies (16 R496). -/
theorem exec_onServingChannel {go : Channel → State → State} {ch : Channel} (hrow : hostRow i = some (op, src, c))
    (ho : opens op src c s = true) (ha : accepts modes cs s = true) (hch : s.channel id = some ch)
    (hserves : ch.state ≠ .suspended)
    (hbegin : beginOf op (entryOf op src c s) (opened op src c s) = checked (entryOf op src c s) modes cs
      (onChannel (entryOf op src c s) id fun ch => unlessSuspended (entryOf op src c s) ch (go ch)) (opened op src c s)) :
    exec i s = .next (go ch (opened op src c s)) := by
  rw [exec_onChannel hrow ho ha hch hbegin, unlessSuspended_serving hserves]

/-- A command on a conference, with its checks passed, answers what its work on the conference leaves. -/
theorem exec_onConference {here : Conference → State → State} {conf : Conference}
    (hrow : hostRow i = some (op, src, c)) (ho : opens op src c s = true) (ha : accepts modes cs s = true)
    (hconf : s.openConference id = some conf)
    (hbegin : beginOf op (entryOf op src c s) (opened op src c s) = checked (entryOf op src c s) modes cs
      (onConference (entryOf op src c s) id here) (opened op src c s)) :
    exec i s = .next (here conf (opened op src c s)) := by
  rw [exec_accepted hrow ho ha hbegin, onConference_here (s := opened op src c s) hconf]

end

end Sys2Proof.Machine

/-! The tone commands (09 R286 to R288). -/
namespace Sys2Proof.Machine

/-- The highest frequency in Hz that a leg's rate carries (09 R286). -/
def State.topHz (s : State) (ch : Channel) (l : Leg) : Nat :=
  if s.legRate ch l = 8 then 3400 else 7000

/-- What a TONE_GENERATE does on a channel behind its checks (09 R286). -/
def awaitTone (e : Entry) (ch : Channel) (s : State) : State :=
  let l := legParam e.cmd 20
  if noGenerator ch.latest l then finish e stDenied [] s
  else if prmByte e.cmd 21 = 1 ∧ s.topHz ch l < prm e.cmd 24 2 then finishBadArg e 24 s
  else if prmByte e.cmd 21 = 1 ∧ s.topHz ch l < prm e.cmd 26 2 then finishBadArg e 26 s
  else setEntry e.id (fun x => { x with aux := [7] }) s

/-- Frequencies that the leg's rate carries wait for the boundary (09 R286). -/
theorem awaitTone_carried {e : Entry} {ch : Channel} {s : State} (hgen : noGenerator ch.latest (legParam e.cmd 20) = false)
    (h1 : prmByte e.cmd 21 = 1 → prm e.cmd 24 2 ≤ s.topHz ch (legParam e.cmd 20))
    (h2 : prmByte e.cmd 21 = 1 → prm e.cmd 26 2 ≤ s.topHz ch (legParam e.cmd 20)) :
    awaitTone e ch s = setEntry e.id (fun x => { x with aux := [7] }) s := by
  have hf1 : ¬(prmByte e.cmd 21 = 1 ∧ s.topHz ch (legParam e.cmd 20) < prm e.cmd 24 2) := fun h =>
    Nat.not_lt.mpr (h1 h.1) h.2
  have hf2 : ¬(prmByte e.cmd 21 = 1 ∧ s.topHz ch (legParam e.cmd 20) < prm e.cmd 26 2) := fun h =>
    Nat.not_lt.mpr (h2 h.1) h.2
  simp [awaitTone, hgen, hf1, hf2]

/-- What a TONE_STOP does on a channel behind its checks (09 R287). -/
def stopTone (e : Entry) (ch : Channel) (s : State) : State :=
  let l := legParam e.cmd 20
  if noGenerator ch.latest l then finish e stDenied [] s
  else finish e stDone [⟨8, 1, bit (ch.legOf l).tone.isSome⟩]
    (if (ch.legOf l).tone.isSome then setLeg ch.id l (fun x => { x with toneStopFrame := some (s.alw.frame + 1) }) s
     else s)

section
variable {e : Entry} {ch : Channel} {s : State} (hgen : noGenerator ch.latest (legParam e.cmd 20) = false)
include hgen

theorem stopTone_sounding {g : ToneGenerator} (htone : (ch.legOf (legParam e.cmd 20)).tone = some g) :
    stopTone e ch s = finish e stDone [⟨8, 1, 1⟩]
      (setLeg ch.id (legParam e.cmd 20) (fun x => { x with toneStopFrame := some (s.alw.frame + 1) }) s) := by
  simp [stopTone, hgen, htone, bit]

theorem stopTone_silent (htone : (ch.legOf (legParam e.cmd 20)).tone = none) :
    stopTone e ch s = finish e stDone [⟨8, 1, 0⟩] s := by
  simp [stopTone, hgen, htone, bit]

end

/-- A leg that LEG_MASK names takes the new detector settings at the next frame boundary (09 R288). -/
def detectLeg (c : Cmd) (ch : Channel) (l : Leg) (s : State) : State :=
  if (prmByte c 20).testBit (legNum l) then setLeg ch.id l (fun x => { x with detectNext := some (detectOf c) }) s else s

/-- What a TONE_DETECT_SET does on a channel behind its checks (09 R288). -/
def detectLegs (e : Entry) (ch : Channel) (s : State) : State :=
  finish e stDone [] (detectLeg e.cmd ch .b (detectLeg e.cmd ch .a s))

/-- LEG_MASK 1 names leg A alone (09 R288). -/
theorem detectLegs_legA {e : Entry} {ch : Channel} {s : State} (hmask : prmByte e.cmd 20 = 1) :
    detectLegs e ch s =
      finish e stDone [] (setLeg ch.id .a (fun x => { x with detectNext := some (detectOf e.cmd) }) s) := by
  have ha : (prmByte e.cmd 20).testBit (legNum .a) = true := by rw [hmask]; rfl
  have hb : (prmByte e.cmd 20).testBit (legNum .b) = false := by rw [hmask]; rfl
  simp only [detectLegs, detectLeg, ha, hb, if_true, Bool.false_eq_true, if_false]

/-- The detector settings of the legs that LEG_MASK names become the defaults (09 R288). -/
def detectDefaults (e : Entry) (s : State) : State :=
  finish e stDone [] { s with cfg := { s.cfg with
    detect := s.cfg.detect.mapIdx fun i x => if (prmByte e.cmd 20).testBit i then detectOf e.cmd else x } }

/-- What a TONE_DETECT_SET does behind its checks: channel 0 stands for the defaults (09 R288). -/
def setDetectors (e : Entry) (s : State) : State :=
  if prm e.cmd 16 4 = 0 then detectDefaults e s
  else onChannel e (prm e.cmd 16 4) (fun ch => unlessSuspended e ch (detectLegs e ch)) s

theorem setDetectors_defaults {e : Entry} {s : State} (h : prm e.cmd 16 4 = 0) : setDetectors e s = detectDefaults e s :=
  if_pos h

theorem setDetectors_channel {e : Entry} {ch : Channel} {s : State} (h : prm e.cmd 16 4 ≠ 0)
    (hch : s.channel (prm e.cmd 16 4) = some ch) (hserves : ch.state ≠ .suspended) :
    setDetectors e s = detectLegs e ch s := by
  rw [setDetectors, if_neg h, onChannel_here hch, unlessSuspended_serving hserves]

/-- Settles O10: each command opens, passes its checks and finds its channel; what its work leaves is its rule's. -/
theorem toneCommandsComplete : Obligations.ToneCommandsComplete := by
  unfold Obligations.ToneCommandsComplete
  refine ⟨?generate, ?stopSounding, ?stopSilent, ?detectDefaults, ?detectLeg⟩
  case generate =>
    intro src c s ch ho ha hch hserves hgen h1 h2
    rw [exec_onServingChannel (go := awaitTone _) rfl ho ha hch hserves rfl,
      awaitTone_carried (e := entryOf .toneGenerate src c s) (s := opened .toneGenerate src c s) hgen h1 h2]
    rfl
  case stopSounding =>
    intro src c s ch g ho ha hch hserves hgen htone _
    rw [exec_onServingChannel (go := stopTone _) rfl ho ha hch hserves rfl,
      stopTone_sounding (e := entryOf .toneStop src c s) hgen htone]
    rfl
  case stopSilent =>
    intro src c s ch ho ha hch hserves hgen htone
    rw [exec_onServingChannel (go := stopTone _) rfl ho ha hch hserves rfl,
      stopTone_silent (e := entryOf .toneStop src c s) hgen htone]
    rfl
  case detectDefaults =>
    intro src c s ho ha hall
    rw [exec_accepted (eff := setDetectors _) rfl ho ha rfl,
      setDetectors_defaults (e := entryOf .toneDetectSet src c s) hall]
    rfl
  case detectLeg =>
    intro src c s ch ho ha hone hch hserves hmask
    rw [exec_accepted (eff := setDetectors _) rfl ho ha rfl,
      setDetectors_channel (e := entryOf .toneDetectSet src c s) (s := opened .toneDetectSet src c s) hone hch hserves,
      detectLegs_legA (e := entryOf .toneDetectSet src c s) hmask]
    rfl

end Sys2Proof.Machine

/-! The conference commands (09 R274, R285). -/
namespace Sys2Proof.Machine

/-- The nodes that a CONF_CREATE tries in turn (09 R274). -/
def State.confNodes (s : State) (e : Entry) : List Nat :=
  if e.fromPeer then (if s.confRoom then [s.node] else []) else s.confOrder

/-- With no other member in SERVICE, this node alone is tried (09 R274). -/
theorem confOrder_alone {s : State} (hroom : s.confRoom = true) (hpeers : s.servicePeers = []) :
    s.confOrder = [s.node] := by
  simp [State.confOrder, hroom, hpeers, sortBy, insertBy]

/-- A conference that another member asks for, or that no other member could take, begins here (09 R274). -/
theorem confNodes_here {s : State} {e : Entry} (hroom : s.confRoom = true)
    (hasked : (∃ n a, e.source = .peer n a) ∨ s.servicePeers = []) : s.confNodes e = [s.node] := by
  by_cases hpeer : e.fromPeer = true
  · simp [State.confNodes, hpeer, hroom]
  · obtain ⟨n, a, hsource⟩ | halone := hasked
    · simp [Entry.fromPeer, hsource] at hpeer
    · rw [State.confNodes, if_neg hpeer, confOrder_alone hroom halone]

/-- What a CONF_CREATE does behind its checks (09 R274, R285). -/
def placeConference (e : Entry) (s : State) : State :=
  confPlace e (s.confNodes e) s

theorem placeConference_here {s : State} {e : Entry} (hroom : s.confRoom = true)
    (hasked : (∃ n a, e.source = .peer n a) ∨ s.servicePeers = []) : placeConference e s = createConference e s := by
  rw [placeConference, confNodes_here hroom hasked]
  exact if_pos rfl

/-- What a CONF_ADD_LEG does behind its checks; conference 0 is another member's request for the channel (09 R285). -/
def addLeg (e : Entry) (s : State) : State :=
  match e.source with
  | .peer n _ =>
    if prm e.cmd 16 4 = 0 then giveChannel e n.val s else onConference e (prm e.cmd 16 4) (confAddLegAt e) s
  | _ => onConference e (prm e.cmd 16 4) (confAddLegAt e) s

/-- A CONF_ADD_LEG that names a conference of this node is carried out on it, whoever sent it (09 R285). -/
theorem addLeg_here {e : Entry} {conf : Conference} {s : State} (hnamed : prm e.cmd 16 4 ≠ 0)
    (hconf : s.openConference (prm e.cmd 16 4) = some conf) : addLeg e s = confAddLegAt e conf s := by
  have hsame : addLeg e s = onConference e (prm e.cmd 16 4) (confAddLegAt e) s := by
    unfold addLeg
    split
    · exact if_neg hnamed
    · rfl
  rw [hsame, onConference_here hconf]

/-- A channel that may become a leg, with room in the conference and on its engine, joins at once (09 R285; 02 R64). -/
theorem confAddLegAt_joins {e : Entry} {conf : Conference} {ch : Channel} {s : State}
    (hch : s.channel (prm e.cmd 20 4) = some ch) (hdenied : s.legDenied ch = none)
    (hroom : conf.legs.length < conf.maxLegs) (hadmits : s.admits ch.engine (legCoinsOf ch) (some ch.id) = true)
    (hraise : s.needsRaise ch.engine (legCoinsOf ch - ch.coins) = false) :
    confAddLegAt e conf s = joinConference e conf ch s := by
  simp [confAddLegAt, hch, confAddHere, hdenied, Nat.not_le.mpr hroom, hadmits, hraise]

/-- A leg leaves its conference at the next frame boundary (09 R285). -/
def dropLeg (conf : Conference) (id : Nat) (s : State) : State :=
  loadChanged (makeSingle id (setConference conf.id (fun x => { x with
    legs := x.legs.map fun l => if l.channel = id then { l with leaving := true } else l }) s))

/-- What a CONF_REMOVE_LEG does at the conference (09 R285). -/
def removeLeg (e : Entry) (conf : Conference) (s : State) : State :=
  if conf.legs.any fun x => x.channel == prm e.cmd 20 4 && !x.leaving then
    finish e stDone [] (dropLeg conf (prm e.cmd 20 4) s)
  else finish e stNotFound [] s

theorem removeLeg_member {e : Entry} {conf : Conference} {s : State}
    (h : (conf.legs.any fun x => x.channel == prm e.cmd 20 4 && !x.leaving) = true) :
    removeLeg e conf s = finish e stDone [] (dropLeg conf (prm e.cmd 20 4) s) :=
  if_pos h

/-- What a CONF_DESTROY does at the conference: every leg of it leaves, and it ends (09 R285). -/
def destroyConference (e : Entry) (conf : Conference) (s : State) : State :=
  finish e stDone [] (loadChanged (setConference conf.id (fun x => { x with ending := true })
    ((conf.legs.filter fun x => !x.leaving).foldl (fun st x => makeSingle x.channel st) s)))

/-- Settles O9: each command opens, passes its checks and finds its conference; what its work leaves is its rule's. -/
theorem conferenceCommandsComplete : Obligations.ConferenceCommandsComplete := by
  unfold Obligations.ConferenceCommandsComplete
  refine ⟨?create, ?add, ?remove, ?destroy⟩
  case create =>
    rintro src c s _ ho ha hroom hasked rfl
    rw [exec_accepted (eff := placeConference _) rfl ho ha rfl,
      placeConference_here (e := entryOf .confCreate src c s) (s := opened .confCreate src c s) hroom hasked]
    rfl
  case add =>
    rintro src c s conf ch _ ho ha hnamed hconf hch hdenied hroom rfl hadmits hraise
    rw [exec_accepted (eff := addLeg _) rfl ho ha rfl,
      addLeg_here (e := entryOf .confAddLeg src c s) (s := opened .confAddLeg src c s) hnamed hconf,
      confAddLegAt_joins (e := entryOf .confAddLeg src c s) (s := opened .confAddLeg src c s) hch hdenied hroom hadmits
        hraise]
  case remove =>
    intro src c s conf ho ha hconf hmember
    rw [exec_onConference (here := removeLeg _) rfl ho ha hconf rfl,
      removeLeg_member (e := entryOf .confRemoveLeg src c s) hmember]
    rfl
  case destroy =>
    exact fun src c s conf ho ha hconf => exec_onConference (here := destroyConference _) rfl ho ha hconf rfl

end Sys2Proof.Machine

/-! CHANNEL_OPEN at the home of session A (09 R280, Table 9-11; 11 R327). -/
namespace Sys2Proof.Machine

/-- With no request ahead at the Teller, the home of session A goes on with its entry (09 R280; 01 R17). -/
theorem channelOpenBegin_home {e : Entry} {s : State} {x : Session} (hmode : s.mode.current = .service)
    (hchecks : badOffset (openChecks e.cmd) = none) (hteller : s.tables.teller = [])
    (hhome : handleNode (openA e.cmd) = s.node) (hx : s.session (openA e.cmd) = some x) :
    channelOpenBegin e s = openHome e x true s := by
  have hmodes : s.mode.current ∈ e.homeModes := by
    rw [hmode, Entry.homeModes]
    split <;> decide
  have hdrain : tellerDrain s = s := by simp only [tellerDrain, hteller, List.foldl_nil]
  rw [channelOpenBegin, checked_pass hmodes hchecks]
  simp [hhome, hdrain, hx, hmode]

/-- One session cannot be bound to both legs (09 Table 9-11). -/
theorem openHome_sameSession {e : Entry} {s : State} {x : Session} (service : Bool)
    (hsame : openA e.cmd = openB e.cmd) (hx : s.session (openA e.cmd) = some x) :
    openHome e x service s = finish e stExists [] s := by
  rw [hsame] at hx
  simp [openHome, hsame, hx]

/-- A CHANNEL_OPEN that names a session of this home for both legs answers EXISTS (09 Table 9-11). -/
theorem exec_channelOpen_sameSession {src : Source} {c : Cmd} {s : State} {x : Session}
    (ho : opens .channelOpen src c s = true) (ha : accepts [.service] (openChecks c) s = true)
    (hteller : s.tables.teller = []) (hhome : handleNode (openA c) = s.node) (hx : s.session (openA c) = some x)
    (hsame : openA c = openB c) :
    exec (.channelOpen src c) s =
      .next (finish (entryOf .channelOpen src c s) stExists [] (opened .channelOpen src c s)) := by
  obtain ⟨hmode, hchecks⟩ := accepts_iff.mp ha
  rw [exec_hostRow rfl, takeCommand_opens ho]
  change Host.Outcome.next (channelOpenBegin _ _) = _
  rw [channelOpenBegin_home (e := entryOf .channelOpen src c s) (s := opened .channelOpen src c s)
      (List.mem_singleton.mp hmode) hchecks hteller hhome hx,
    openHome_sameSession (e := entryOf .channelOpen src c s) (s := opened .channelOpen src c s) true hsame hx]

/-- A completion opens and closes no channel. -/
theorem channels_finish (e : Entry) (status : Byte) (result : List Fld) (s : State) :
    (finish e status result s).voice.channels = s.voice.channels :=
  (congrArg (·.voice.channels) (offReport_finish e status result s) :)

/-- A CHANNEL_OPEN of a valid program with SESSION_A and SESSION_B both 0. -/
def openOfHandle0 : Cmd :=
  ⟨1, 0, 1, 0, 0, BitVec.ofNat 384 (layout 16
    [⟨24, 1, 1⟩, ⟨28, 1, 20⟩, ⟨32, 1, 0xFF⟩, ⟨33, 1, 0xFF⟩, ⟨34, 1, 0xFF⟩, ⟨35, 1, 0xFF⟩])⟩

/-- An unbound entry of place 0 and generation 0: on node 0 its handle is 0 (11 R327). -/
def entryOfHandle0 : Session :=
  newSession openOfHandle0 0 0 none

/-- A device in SERVICE as node 0, with that entry alone. -/
def holdingHandle0 : State :=
  { State.reset with
    mode := { current := .service, steward := .rhoper }
    tables := { sessions := [entryOfHandle0] } }

/-- Refutes O7: the first clause takes SESSION_B = 0 for no session and lets SESSION_A be 0 as well, where an entry has that
handle. 11 R327 gives no entry the generation 0, but a state of the statement may hold one; there the command names one
session for both legs and answers EXISTS (09 Table 9-11), and no channel is admitted. -/
theorem not_channelCommandsComplete : ¬ Obligations.ChannelCommandsComplete := by
  unfold Obligations.ChannelCommandsComplete
  rintro ⟨hopen, -⟩
  have ho : opens .channelOpen .dmb openOfHandle0 holdingHandle0 = true := by decide +kernel
  have ha : accepts [.service] (openChecks openOfHandle0) holdingHandle0 = true := by decide +kernel
  have hhome : handleNode (openA openOfHandle0) = holdingHandle0.node := by decide +kernel
  have hentry : holdingHandle0.session (openA openOfHandle0) = some entryOfHandle0 := by decide +kernel
  have hrefused := exec_channelOpen_sameSession ho ha rfl hhome hentry (by decide +kernel)
  have hadmitted := hopen .dmb openOfHandle0 holdingHandle0 entryOfHandle0 0 ho ha rfl hhome hentry rfl
    (by decide +kernel) (by decide +kernel) (by decide +kernel) (by decide +kernel) (by decide +kernel)
  have hsame := congrArg (·.voice.channels.length) (Host.Outcome.next.inj (hrefused.symm.trans hadmitted))
  have hone : (admitChannel (entryOf .channelOpen .dmb openOfHandle0 holdingHandle0) 0
      (opened .channelOpen .dmb openOfHandle0 holdingHandle0)).voice.channels.length = 1 := by decide +kernel
  simp only [channels_finish, hone] at hsame
  exact absurd hsame (by decide)

end Sys2Proof.Machine

/-! The session commands at the home of the session, with no request ahead at its Teller (01 R17; 11 R343 to R346). -/
namespace Sys2Proof.Machine

/-- With no request ahead, the Teller has nothing to commit before a command's own write (01 R17). -/
theorem tellerDrain_idle {s : State} (h : s.tables.teller = []) : tellerDrain s = s := by
  simp only [tellerDrain, h, List.foldl_nil]

/-- A session command runs in SERVICE and DRAIN, whoever sent it (05 R138, Table 5-4). -/
theorem homeModes_of_serviceModes {m : Mode} (e : Entry) (h : m ∈ serviceModes) : m ∈ e.homeModes := by
  unfold Entry.homeModes
  split
  · exact (by decide : serviceModes ⊆ runModes) h
  · exact h

theorem accepts_homeModes {cs : List Check} {s : State} (e : Entry) (h : accepts serviceModes cs s = true) :
    accepts e.homeModes cs s = true := by
  obtain ⟨hmode, hchecks⟩ := accepts_iff.mp h
  exact accepts_iff.mpr ⟨homeModes_of_serviceModes e hmode, hchecks⟩

/-- A command of this device's own sources came from no other member (01 R27). -/
theorem fromPeer_own {e : Entry} (h : ∀ n a, e.source ≠ .peer n a) : e.fromPeer = false := by
  unfold Entry.fromPeer
  split
  next n a hsource => exact absurd hsource (h n a)
  next => rfl

/-- A command that names a handle of this home is carried out on its entry (11 R330). -/
theorem onHandle_home {e : Entry} {h : Nat} {entry : Session → State → State} {leg : LegState → LegState} {s : State}
    {x : Session} (hhome : handleNode h = s.node) (hx : s.session h = some x) : onHandle e h entry leg s = entry x s := by
  simp only [onHandle, hhome, if_true, hx]

/-- A host command on a session entry of this home, with its checks passed, answers what its work on the entry leaves. -/
theorem exec_onHandle {i : Instr} {op : Op} {src : Source} {c : Cmd} {s : State} {cs : List Check} {h : Nat}
    {entry : Session → State → State} {leg : State → LegState → LegState} {x : Session}
    (hrow : hostRow i = some (op, src, c)) (ho : opens op src c s = true) (ha : accepts serviceModes cs s = true)
    (hteller : s.tables.teller = []) (hhome : handleNode h = s.node) (hx : s.session h = some x)
    (hbegin : beginOf op (entryOf op src c s) (opened op src c s)
      = checked (entryOf op src c s) (entryOf op src c s).homeModes cs
        (fun t => onHandle (entryOf op src c s) h entry (leg t) (tellerDrain t)) (opened op src c s)) :
    exec i s = .next (entry x (opened op src c s)) := by
  rw [exec_accepted hrow ho (accepts_homeModes _ ha) hbegin, tellerDrain_idle (s := opened op src c s) hteller,
    onHandle_home (s := opened op src c s) hhome hx]

/-- An entry that runs on no device is complete with the home's commit (11 R330). -/
theorem thenRunning_unbound {e : Entry} {x : Session} {here : State → State} {s : State} (h : x.runNode = none) :
    thenRunning e x here s = finish e stDone [] s := by
  simp only [thenRunning, h]

/-! SESSION_ADD (11 R343). -/

/-- What a SESSION_ADD does behind its checks (11 R343; 15 R471). -/
def addAtHome (e : Entry) (s : State) : State :=
  atHome e (s.homeOf (sessionAddKey e.cmd).hash) stNoResource (fun s => addSession e (tellerDrain s)) s

theorem addAtHome_here {e : Entry} {s : State} (hteller : s.tables.teller = [])
    (hhome : s.homeOf (sessionAddKey e.cmd).hash = s.node) : addAtHome e s = addSession e s := by
  rw [addAtHome, atHome, if_pos hhome, tellerDrain_idle hteller]

/-- An entry joins the table, and its handle is answered (11 R327, R343). -/
def joinTable (e : Entry) (x : Session) (s : State) : State :=
  finish e stDone [⟨8, 4, s.handleOf x⟩, ⟨12, 1, s.node⟩]
    { s with tables := { s.tables with sessions := s.tables.sessions ++ [x] } }

section
variable {e : Entry} {s : State} (hnew : s.sessionByKey (sessionAddKey e.cmd) = none)
include hnew

/-- A new key without an alias takes the first free place (11 R325, R326). -/
theorem addSession_single {p : Nat} {rest : List Nat} (halias : needsAlias (BitVec.ofNat 8 (prmByte e.cmd 16)) = false)
    (hfree : s.freePlaces (sessionAddKey e.cmd).hash = p :: rest) :
    addSession e s = joinTable e (newSession e.cmd p (sget 1 s.tables.generations p) none) s := by
  simp only [addSession, hnew, halias, hfree, Option.isSome_none, Bool.false_and, Bool.or_self, Bool.false_eq_true, if_false]
  rfl

/-- A new key with an alias takes the first two free places (11 R325, R326). -/
theorem addSession_aliased {p q : Nat} {rest : List Nat}
    (hnewTwin : s.sessionByKey { sessionAddKey e.cmd with port := (sessionAddKey e.cmd).port + 1 } = none)
    (halias : needsAlias (BitVec.ofNat 8 (prmByte e.cmd 16)) = true)
    (hfree : s.freePlaces (sessionAddKey e.cmd).hash = p :: q :: rest) :
    addSession e s = joinTable e (newSession e.cmd p (sget 1 s.tables.generations p) (some q)) s := by
  simp only [addSession, hnew, hnewTwin, halias, hfree, Option.isSome_none, Bool.and_false, Bool.or_self, Bool.false_eq_true,
    if_false]
  rfl

end

/-- A SESSION_ADD at the home of its key, with no request ahead, goes on with the table (11 R343; 01 R17). -/
theorem exec_sessionAdd_home {src : Source} {c : Cmd} {s : State} (ho : opens .sessionAdd src c s = true)
    (ha : accepts serviceModes (sessionAddChecks c) s = true) (hteller : s.tables.teller = [])
    (hhome : s.homeOf (sessionAddKey c).hash = s.node) :
    exec (.sessionAdd src c) s = .next (addSession (entryOf .sessionAdd src c s) (opened .sessionAdd src c s)) := by
  rw [exec_accepted (eff := addAtHome _) rfl ho (accepts_homeModes (entryOf .sessionAdd src c s) ha) rfl,
    addAtHome_here (e := entryOf .sessionAdd src c s) (s := opened .sessionAdd src c s) hteller hhome]

/-! SESSION_MODIFY, SESSION_DELETE, SESSION_QUERY and RELATCH on an entry (11 R344 to R346). -/

/-- What a SESSION_MODIFY does on its entry (11 R344). -/
def modifyEntry (e : Entry) (x : Session) (s : State) : State :=
  thenRunning e x (onBoundLeg (prm e.cmd 16 4) (modifyLeg e.cmd)) (setSession x.index (modifySession e.cmd) s)

/-- What a SESSION_DELETE does on its entry (11 R345). -/
def deleteEntry (e : Entry) (x : Session) (s : State) : State :=
  if x.bound then finish e stDenied [] s else finish e stDone [] (freeSession (prm e.cmd 16 4) x s)

theorem deleteEntry_unbound {e : Entry} {x : Session} {s : State} (h : x.channel = 0) :
    deleteEntry e x s = finish e stDone [] (freeSession (prm e.cmd 16 4) x s) := by
  simp [deleteEntry, Session.bound, h]

/-- What a SESSION_QUERY does on its entry (11 R345). -/
def queryEntry (e : Entry) (x : Session) (s : State) : State :=
  finishData e (prm e.cmd 24 8) (sessionBytes (prm e.cmd 16 4) x) s

/-- What a command of this device reports goes to the host's memory (11 R345). -/
theorem finishData_host {e : Entry} {address : Nat} {data : List Byte} {s : State} (h : e.fromPeer = false) :
    finishData e address data s = finish e stDone [] (hostWrite address data s) := by
  simp [finishData, h]

/-- What a RELATCH does on its entry (11 R346, R350, R353). -/
def relatchHome (e : Entry) (x : Session) (s : State) : State :=
  let h := prm e.cmd 16 4
  if latchPolicy x.flags = 2 ∧ prmByte e.cmd 20 % 2 = 0 then finish e stDenied [] s
  else
    let y := relatchEntry e.cmd x
    let s1 := setSession x.index (fun _ => y) s
    let s2 := if prmByte e.cmd 20 % 2 = 1 then raiseLatched h y 3 s1 else s1
    thenRunning e y (fun s => onBoundLeg h (relatchLeg e.cmd s.now) s) s2

/-- A RELATCH without SET_ADDRESS clears the address of an entry that runs nowhere and is not FIXED (11 R346). -/
theorem relatchHome_clears {e : Entry} {x : Session} {s : State} (hrun : x.runNode = none)
    (hclear : prmByte e.cmd 20 % 2 = 0) (hfixed : latchPolicy x.flags ≠ 2) :
    relatchHome e x s = finish e stDone [] (setSession x.index (fun _ =>
      { x with epoch := x.epoch + 1, state := 0, remotePort := 0, remoteIp := 0, relatched := true }) s) := by
  have hdenied : ¬(latchPolicy x.flags = 2 ∧ prmByte e.cmd 20 % 2 = 0) := fun h => hfixed h.1
  have hset : ¬prmByte e.cmd 20 % 2 = 1 := by omega
  simp only [relatchHome, relatchEntry, hdenied, hset, if_false]
  exact thenRunning_unbound hrun

/-- Settles O6: each command opens, passes its checks and finds its home here; what its work on the table leaves is its
rule's. -/
theorem sessionCommandsComplete : Obligations.SessionCommandsComplete := by
  unfold Obligations.SessionCommandsComplete
  refine ⟨?addSingle, ?addAliased, ?modify, ?delete, ?query, ?relatch⟩
  case addSingle =>
    rintro src c s p rest _ ho ha hteller hhome hnew halias hfree rfl
    rw [exec_sessionAdd_home ho ha hteller hhome,
      addSession_single (e := entryOf .sessionAdd src c s) (s := opened .sessionAdd src c s) hnew halias hfree]
    rfl
  case addAliased =>
    rintro src c s p q rest _ ho ha hteller hhome hnew hnewTwin halias hfree rfl
    rw [exec_sessionAdd_home ho ha hteller hhome,
      addSession_aliased (e := entryOf .sessionAdd src c s) (s := opened .sessionAdd src c s) hnew hnewTwin halias hfree]
    rfl
  case modify =>
    intro src c s x ho ha hteller hhome hx hrun
    rw [exec_onHandle (entry := modifyEntry _) (leg := fun _ => modifyLeg c) rfl ho ha hteller hhome hx rfl,
      modifyEntry, thenRunning_unbound hrun]
    rfl
  case delete =>
    intro src c s x ho ha hteller hhome hx hfree
    rw [exec_onHandle (entry := deleteEntry _) (leg := fun _ => id) rfl ho ha hteller hhome hx rfl,
      deleteEntry_unbound hfree]
    rfl
  case query =>
    intro src c s x ho ha hown hteller hhome hx
    rw [exec_onHandle (entry := queryEntry _) (leg := fun _ => id) rfl ho ha hteller hhome hx rfl,
      queryEntry, finishData_host (fromPeer_own (e := entryOf .sessionQuery src c s) hown)]
    rfl
  case relatch =>
    intro src c s x ho ha hteller hhome hx hrun hclear hfixed
    rw [exec_onHandle (entry := relatchHome _) (leg := fun t => relatchLeg c t.now) rfl ho ha hteller hhome hx rfl,
      relatchHome_clears (e := entryOf .relatch src c s) hrun hclear hfixed]
    rfl

end Sys2Proof.Machine

/-! The jitter, key, phase and level commands, for the defaults and for a leg (09 R284; 10 R313, R314; 11 R347). -/
namespace Sys2Proof.Machine

/-- CHANNEL_ID 0 of these commands stands for the defaults; another number for a channel that is not
suspended (11 R347; 10 R313). -/
def onLegOrDefaults (e : Entry) (defaults : State → State) (leg : Channel → State → State) (s : State) : State :=
  if prm e.cmd 16 4 = 0 then defaults s
  else onChannel e (prm e.cmd 16 4) (fun ch => unlessSuspended e ch (leg ch)) s

theorem onLegOrDefaults_defaults {e : Entry} {defaults : State → State} {leg : Channel → State → State} {s : State}
    (h : prm e.cmd 16 4 = 0) : onLegOrDefaults e defaults leg s = defaults s :=
  if_pos h

theorem onLegOrDefaults_leg {e : Entry} {defaults : State → State} {leg : Channel → State → State} {s : State}
    {ch : Channel} (h : prm e.cmd 16 4 ≠ 0) (hch : s.channel (prm e.cmd 16 4) = some ch)
    (hserves : ch.state ≠ .suspended) :
    onLegOrDefaults e defaults leg s = leg ch s := by
  rw [onLegOrDefaults, if_neg h, onChannel_here hch, unlessSuspended_serving hserves]

section
variable {i : Instr} {op : Op} {src : Source} {c : Cmd} {s : State} {cs : List Check} {defaults : State → State}
  {leg : Channel → State → State} (hrow : hostRow i = some (op, src, c)) (ho : opens op src c s = true)
  (ha : accepts serviceModes cs s = true)
  (hbegin : beginOf op (entryOf op src c s) (opened op src c s) = checked (entryOf op src c s) serviceModes cs
    (onLegOrDefaults (entryOf op src c s) defaults leg) (opened op src c s))
include hrow ho ha hbegin

/-- Such a command for the defaults, with its checks passed, answers what its work on them leaves. -/
theorem exec_onDefaults (hall : prm c 16 4 = 0) : exec i s = .next (defaults (opened op src c s)) := by
  rw [exec_accepted hrow ho ha hbegin, onLegOrDefaults_defaults (e := entryOf op src c s) hall]

/-- For a leg it answers what its work on the leg's channel leaves. -/
theorem exec_onLeg {ch : Channel} (hone : prm c 16 4 ≠ 0) (hch : s.channel (prm c 16 4) = some ch)
    (hserves : ch.state ≠ .suspended) : exec i s = .next (leg ch (opened op src c s)) := by
  rw [exec_accepted hrow ho ha hbegin,
    onLegOrDefaults_leg (e := entryOf op src c s) (s := opened op src c s) hone hch hserves]

end

/-! JITTER_SET (11 R347). -/

/-- A JITTER_SET of the defaults (11 R347). -/
def jitterDefaults (e : Entry) (s : State) : State :=
  finish e stDone [] { s with cfg := { s.cfg with jitter := s.cfg.jitter.set (prmByte e.cmd 20) (jitterOf e.cmd) } }

/-- What a JITTER_SET does on a channel behind its checks (11 R337, R347). -/
def jitterLeg (e : Entry) (ch : Channel) (s : State) : State :=
  let l := legParam e.cmd 20
  let n := legNum l
  let new := jitterOf e.cmd
  if !hasBuffer ch l || flagUdptl (ch.legOf l).flags || (vbd ch.latest && !new.fixed) then finish e stDenied [] s
  else if new.maxMs < legPtime ch.latest n then finishBadArg e 26 s
  else
    let want := granules ch.latest n new.maxMs
    let old := (ch.legOf l).jb.reserved
    if depthPool < s.reservedGranules - old + want then finish e stNoResource [] (count (devCtr 37) s)
    else finish e stDone []
      (setLeg ch.id l (fun x => { x with jb := { x.jb with next := some new, reserved := max old want } }) s)

/-- Voice-band data takes a fixed buffer only (11 R347). -/
theorem jitterKind_taken {c : Cmd} {p : BitVec 160} (h : vbd p = true → prmByte c 21 = 1) :
    (vbd p && !(jitterOf c).fixed) = false := by
  cases hvbd : vbd p
  · rfl
  · simp [jitterOf, h hvbd]

/-- A buffer that the packet time fits and the depth pool holds is set at the next boundary (11 R337, R347). -/
theorem jitterLeg_fits {e : Entry} {ch : Channel} {s : State} (hbuffer : hasBuffer ch (legParam e.cmd 20) = true)
    (hrtp : flagUdptl (ch.legOf (legParam e.cmd 20)).flags = false) (hkind : vbd ch.latest = true → prmByte e.cmd 21 = 1)
    (hptime : legPtime ch.latest (legNum (legParam e.cmd 20)) ≤ prm e.cmd 26 2)
    (hpool : s.reservedGranules - (ch.legOf (legParam e.cmd 20)).jb.reserved
      + granules ch.latest (legNum (legParam e.cmd 20)) (prm e.cmd 26 2) ≤ depthPool) :
    jitterLeg e ch s = finish e stDone [] (setLeg ch.id (legParam e.cmd 20) (fun x => { x with jb := { x.jb with
      next := some (jitterOf e.cmd),
      reserved := max (ch.legOf (legParam e.cmd 20)).jb.reserved
        (granules ch.latest (legNum (legParam e.cmd 20)) (prm e.cmd 26 2)) } }) s) := by
  have hmax : (jitterOf e.cmd).maxMs = prm e.cmd 26 2 := rfl
  simp only [jitterLeg, hbuffer, hrtp, jitterKind_taken hkind, hmax, Nat.not_lt.mpr hptime, Nat.not_lt.mpr hpool,
    Bool.not_true, Bool.or_self, Bool.false_eq_true, if_false]

/-! SRTP_KEY_SET (09 R284). -/

/-- An SRTP_KEY_SET's parameter checks (09 R284). -/
def srtpKeyChecks (c : Cmd) : List Check :=
  [within c 20 1 0 1, within c 21 1 0 1, within c 22 1 0 3, reservedBits c 23 1 1, need 24 (decide (prm c 24 8 % 64 = 0)),
   reservedBytes c 36 64, need 24 ((prmByte c 22 == 0) == (prm c 24 8 == 0))]

/-- The key block of an SRTP_KEY_SET is read from the host's memory (09 R284). -/
def askKey (e : Entry) (s : State) : State :=
  setEntry e.id (fun x => { x with aux := [1] }) s

/-- What an SRTP_KEY_SET that needs a key block does on a channel (09 R284, Table 9-11). -/
def askKeyFor (e : Entry) (ch : Channel) (s : State) : State :=
  if legParam e.cmd 20 = .b ∧ noRtp (pb ch.latest 25) then finish e stDenied [] s else askKey e s

/-- What an SRTP_KEY_SET does behind its checks (09 R284; 01 R27). -/
def setKey (e : Entry) (s : State) : State :=
  if prmByte e.cmd 22 = 0 ∨ e.fromPeer ∨ (s.searchOrder (prm e.cmd 16 4)).isEmpty ∧ (s.channel (prm e.cmd 16 4)).isNone then
    onChannel e (prm e.cmd 16 4) (fun ch => unlessSuspended e ch (keyHere e ch e.given)) s
  else match s.channel (prm e.cmd 16 4) with
    | none => askKey e s
    | some ch => unlessSuspended e ch (askKeyFor e ch) s

/-- A leg that carries RTP takes a key (09 Table 9-11). -/
theorem keyLeg_served {c : Cmd} {codec : Nat} (h : legParam c 20 = .b → noRtp codec = false) :
    ¬(legParam c 20 = .b ∧ noRtp codec = true) := fun ⟨hb, hno⟩ =>
  Bool.false_ne_true ((h hb).symm.trans hno)

section
variable {e : Entry} {ch : Channel} {s : State} (hch : s.channel (prm e.cmd 16 4) = some ch)
  (hserves : ch.state ≠ .suspended) (hrtp : legParam e.cmd 20 = .b → noRtp (pb ch.latest 25) = false)
include hch hserves hrtp

/-- SUITE 0 clears the context of a leg that has RTP, without a key block (09 R284). -/
theorem setKey_clear (hsuite : prmByte e.cmd 22 = 0) :
    setKey e s = finish e stDone [] (installKey e.cmd ch.id none s) := by
  rw [setKey, if_pos (.inl hsuite), onChannel_here hch, unlessSuspended_serving hserves, keyHere,
    if_neg (keyLeg_served hrtp), if_pos hsuite]

/-- Another suite has its key block read for a leg that has RTP (09 R284). -/
theorem setKey_reads (hsuite : prmByte e.cmd 22 ≠ 0) (hown : e.fromPeer = false) : setKey e s = askKey e s := by
  simp only [setKey, hsuite, hown, hch, Bool.false_eq_true, Option.isNone_some, and_false, or_self, if_false,
    unlessSuspended_serving hserves]
  exact if_neg (keyLeg_served hrtp)

end

/-! FCU_PHASE_SET (10 R313). -/

/-- An FCU_PHASE_SET of the defaults (10 R313). -/
def phaseDefaults (e : Entry) (s : State) : State :=
  let l := legNum (legParam e.cmd 20)
  let new := phaseWith e.cmd (s.cfg.phase.getD l {})
  finish e stDone (phaseDefaultReport new) { s with cfg := { s.cfg with phase := s.cfg.phase.set l new } }

/-- What an FCU_PHASE_SET does on a channel behind its checks (10 R313, R315). -/
def phaseLeg (e : Entry) (ch : Channel) (s : State) : State :=
  let c := e.cmd
  let f := prmByte c 21
  let l := legParam c 20
  if !hasPaths ch.latest l || (f.testBit 2 && prmByte c 22 == 1 && vbd ch.latest) then finish e stDenied [] s
  else if f.testBit 1 then finish e stDone (phaseReport ch l s) s
  else
    let path := (ch.legOf l).fcu
    let base := path.next.getD (path.cfg, false)
    let step := if f.testBit 3 then f.testBit 0 else base.2
    let s1 := setLeg ch.id l (fun x => { x with fcu := { x.fcu with next := some (phaseWith c base.1, step) } }) s
    finish e stDone (((s1.channel ch.id).map fun ch => phaseReport ch l s1).getD []) s1

/-- QUERY reports the leg's paths and changes nothing (10 R313). -/
theorem phaseLeg_query {e : Entry} {ch : Channel} {s : State} (hpaths : hasPaths ch.latest (legParam e.cmd 20) = true)
    (hquery : (prmByte e.cmd 21).testBit 1 = true) (hfilter : (prmByte e.cmd 21).testBit 2 = false) :
    phaseLeg e ch s = finish e stDone (phaseReport ch (legParam e.cmd 20) s) s := by
  simp [phaseLeg, hpaths, hquery, hfilter]

/-! FCU_LEVEL_SET (10 R314). -/

/-- An FCU_LEVEL_SET of the defaults (10 R314). -/
def levelDefaults (e : Entry) (s : State) : State :=
  finish e stDone [] { s with cfg := { s.cfg with level := s.cfg.level.set (legNum (legParam e.cmd 20)) (levelOf e.cmd) } }

/-- What an FCU_LEVEL_SET does on a channel behind its checks (10 R311, R314). -/
def levelLeg (e : Entry) (ch : Channel) (s : State) : State :=
  let l := legParam e.cmd 20
  let new := levelOf e.cmd
  if !hasPaths ch.latest l then finish e stDenied [] s
  else finish e stDone [] (setLeg ch.id l (fun x => { x with meter := { x.meter with
    next := if new = (ch.legOf l).meter.cfg then none else some new } }) s)

/-- A changed configuration waits for the next frame boundary (10 R311, R314). -/
theorem levelLeg_changed {e : Entry} {ch : Channel} {s : State} (hpaths : hasPaths ch.latest (legParam e.cmd 20) = true)
    (hnew : levelOf e.cmd ≠ (ch.legOf (legParam e.cmd 20)).meter.cfg) :
    levelLeg e ch s = finish e stDone [] (setLeg ch.id (legParam e.cmd 20) (fun x =>
      { x with meter := { x.meter with next := some (levelOf e.cmd) } }) s) := by
  simp [levelLeg, hpaths, hnew]

/-- Settles O8: each command opens, passes its checks and finds the defaults or its channel; what its work leaves is its
rule's. -/
theorem legCommandsComplete : Obligations.LegCommandsComplete := by
  unfold Obligations.LegCommandsComplete
  refine ⟨?jitterDefaults, ?jitterLeg, ?keyClear, ?keyRead, ?phaseDefaults, ?phaseQuery, ?levelDefaults, ?levelLeg⟩
  case jitterDefaults =>
    exact fun src c s ho ha hall => exec_onDefaults (defaults := jitterDefaults _) (leg := jitterLeg _) rfl ho ha rfl hall
  case jitterLeg =>
    rintro src c s ch _ ho ha hone hch hserves rfl hbuffer hrtp hkind hptime hpool
    rw [exec_onLeg (defaults := jitterDefaults _) (leg := jitterLeg _) rfl ho ha rfl hone hch hserves,
      jitterLeg_fits (e := entryOf .jitterSet src c s) (s := opened .jitterSet src c s) hbuffer hrtp hkind hptime hpool]
    rfl
  case keyClear =>
    intro src c s ch ho ha hch hserves hrtp hsuite
    rw [exec_accepted (cs := srtpKeyChecks c) (eff := setKey _) rfl ho ha rfl,
      setKey_clear (e := entryOf .srtpKeySet src c s) (s := opened .srtpKeySet src c s) hch hserves hrtp hsuite]
    rfl
  case keyRead =>
    intro src c s ch ho ha hch hserves hown hrtp hsuite
    rw [exec_accepted (cs := srtpKeyChecks c) (eff := setKey _) rfl ho ha rfl,
      setKey_reads (e := entryOf .srtpKeySet src c s) (s := opened .srtpKeySet src c s) hch hserves hrtp hsuite
        (fromPeer_own hown)]
    rfl
  case phaseDefaults =>
    rintro src c s _ ho ha hall rfl
    exact exec_onDefaults (defaults := phaseDefaults _) (leg := phaseLeg _) rfl ho ha rfl hall
  case phaseQuery =>
    rintro src c s ch _ ho ha hone hch hserves rfl hpaths hquery hfilter
    rw [exec_onLeg (defaults := phaseDefaults _) (leg := phaseLeg _) rfl ho ha rfl hone hch hserves,
      phaseLeg_query (e := entryOf .fcuPhaseSet src c s) hpaths hquery hfilter]
    rfl
  case levelDefaults =>
    exact fun src c s ho ha hall => exec_onDefaults (defaults := levelDefaults _) (leg := levelLeg _) rfl ho ha rfl hall
  case levelLeg =>
    rintro src c s ch _ ho ha hone hch hserves rfl hpaths hnew
    rw [exec_onLeg (defaults := levelDefaults _) (leg := levelLeg _) rfl ho ha rfl hone hch hserves,
      levelLeg_changed (e := entryOf .fcuLevelSet src c s) hpaths hnew]
    rfl

end Sys2Proof.Machine

/-! Jitter targets and RTCP reports (09 R278; 11 R339, R340). -/
namespace Sys2Proof.Machine

@[simp] theorem legOf_withLeg (ch : Channel) (l : Leg) (f : LegState → LegState) :
    (ch.withLeg l f).legOf l = f (ch.legOf l) := by
  cases l <;> rfl

/-- After a change of a leg, every channel of that number has the change on it. -/
theorem legOf_of_mem_setLeg {id : Nat} {l : Leg} {f : LegState → LegState} {s : State} {c : Channel}
    (hc : c ∈ (setLeg id l f s).voice.channels) (hid : c.id = id) :
    ∃ d ∈ s.voice.channels, c.legOf l = f (d.legOf l) := by
  obtain ⟨d, hd, rfl⟩ := List.mem_map.mp hc
  by_cases hnamed : d.id = id
  · exact ⟨d, hd, by rw [if_pos hnamed, legOf_withLeg]⟩
  · rw [if_neg hnamed] at hid
    exact absurd hid hnamed

/-- The target of a leg's jitter buffer for the next second (11 R339) (DEDUCED, log 65). -/
def State.jbTarget (s : State) (ch : Channel) (l : Leg) : Nat :=
  let b := (ch.legOf l).jb
  let late := (b.latenessMs.filter fun p => decide (s.now < p.1 + 2000000000)).foldl (fun n p => max n p.2) 0
  if b.cfg.fixed || vbd ch.program then b.cfg.nominalMs
  else max b.cfg.minMs (min b.cfg.maxMs ((legPtime ch.program (legNum l) + 2 * late + 9) / 10 * 10))

/-- A leg with the target of its next second and the transit minima so far (11 R339, R340). -/
def LegState.nextSecond (targetMs : Nat) (minima : List Int) (x : LegState) : LegState :=
  { x with jb := { x.jb with targetMs := targetMs, secondMinimum := none, minima := minima } }

/-- JB_TARGET_UPDATE on a leg with a jitter buffer (11 R339, R340). -/
theorem exec_jbTargetUpdate_buffered {s : State} {id : Word32} {l : Leg} {ch : Channel}
    (hch : s.channel id.toNat = some ch) (hbuffer : hasBuffer ch l = true) (hrun : s.running = true) :
    ∃ minima, exec (.jbTargetUpdate id l) s = .next (setLeg ch.id l (LegState.nextSecond (s.jbTarget ch l) minima) s) := by
  change ∃ minima, execJbTargetUpdate id l s = _
  simp only [execJbTargetUpdate, hch, hbuffer, hrun, Bool.not_true, Bool.or_self, Bool.false_eq_true, if_false]
  exact ⟨_, rfl⟩

/-- A leg's report is recorded on it, whether or not its protection lets the packet go out (09 R276, R278). -/
theorem sendRtcp_reported {ch : Channel} {l : Leg} {bye : Bool} {s : State} (hbuffer : hasBuffer ch l = true)
    (hentry : (s.entryOf (ch.legOf l)).isSome = true) :
    ∃ u, sendRtcp ch l bye s = drawn (setLeg ch.id l (fun x => x.reported (s.nextReport l)) u) := by
  obtain ⟨entry, hentry⟩ := Option.isSome_iff_exists.mp hentry
  simp only [sendRtcp, hentry, hbuffer, Bool.not_true, Bool.false_eq_true, if_false]
  exact ⟨_, rfl⟩

/-- RTCP_REPORT_TIMER on a running channel's leg (09 R278). -/
theorem exec_rtcpReportTimer_sends {s : State} {id : Word32} {l : Leg} {ch : Channel}
    (hch : s.channel id.toNat = some ch) (hstate : ch.state = .running) (hmode : s.mode.current ∈ serviceModes)
    (hbuffer : hasBuffer ch l = true) :
    exec (.rtcpReportTimer id l) s = .next (sendRtcp ch l false (advance (ch.legOf l).reportDue s)) := by
  change execRtcpReportTimer id l s = _
  simp [execRtcpReportTimer, hch, hstate, hmode, hbuffer]

/-- Settles O31: each timer ends in a change of the leg that it names, read off every channel of that number. -/
theorem mediaTimersComplete : Obligations.MediaTimersComplete := by
  unfold Obligations.MediaTimersComplete
  refine ⟨?fixed, ?adaptive, ?rtcp⟩
  case fixed =>
    intro s id l ch hch hbuffer hrun hfixed
    obtain ⟨minima, hexec⟩ := exec_jbTargetUpdate_buffered hch hbuffer hrun
    refine ⟨_, hexec, fun c hc hid => ?_⟩
    obtain ⟨d, -, hleg⟩ := legOf_of_mem_setLeg hc hid
    simp [hleg, LegState.nextSecond, State.jbTarget, hfixed]
  case adaptive =>
    rintro s id l ch _ hch hbuffer hrun hadaptive hvoice rfl
    obtain ⟨minima, hexec⟩ := exec_jbTargetUpdate_buffered hch hbuffer hrun
    refine ⟨_, hexec, fun c hc hid => ?_⟩
    obtain ⟨d, -, hleg⟩ := legOf_of_mem_setLeg hc hid
    simp [hleg, LegState.nextSecond, State.jbTarget, hadaptive, hvoice]
  case rtcp =>
    intro s id l ch hch hstate hmode hbuffer hentry
    obtain ⟨u, hsent⟩ := sendRtcp_reported (bye := false) (s := advance (ch.legOf l).reportDue s) hbuffer hentry
    refine ⟨_, exec_rtcpReportTimer_sends hch hstate hmode hbuffer, fun c hc hid => ?_⟩
    rw [hsent] at hc
    obtain ⟨d, -, hleg⟩ := legOf_of_mem_setLeg hc hid
    rw [hleg]
    rfl

end Sys2Proof.Machine

/-! The receive checks of the MAC (12 R364, R379, R380, Table 12-2). -/
namespace Sys2Proof.Machine

/-- A port that is UP receives the frame, while its pins are its own (12 R362, R364; 18 R564). -/
theorem exec_portFrameReceived_up {s : State} {p : Fin 8} (f : RxFrame) (hup : (s.port p.val).state = .up)
    (hpins : s.testPort.pinsTaken = false) : exec (.portFrameReceived p f) s = .next (receive p.val f s) := by
  change execPortFrameReceived p f s = _
  simp [execPortFrameReceived, hup, hpins]

/-- A frame that fails one of rows 1 to 5 is counted for that row, beside what the crossing's ECC found (02 R56, R69). -/
theorem receive_of_macFault {s : State} {p k : Nat} {f : RxFrame} (hblock : s.blockInReset 77 = false)
    (hfault : macFault f (s.portCfg p).maxFrame = some k) :
    receive p f s = count (portCtr p k)
      (countBy (devCtr 5) f.corrected (if f.poisoned then count (devCtr 6) s else s)) := by
  simp [receive, hblock, hfault]

section
variable {f : RxFrame} {maxFrame : Nat}

/-! Rows 1 to 5 in their order: each decides where no row before it does. -/

theorem macFault_overrun (hfull : f.fifoFull = true) : macFault f maxFrame = some 21 := by
  simp [macFault, hfull]

theorem macFault_codeError (hfull : f.fifoFull = false) (hcode : f.codeError = true) :
    macFault f maxFrame = some 20 := by
  simp [macFault, hfull, hcode]

theorem macFault_runt (hfull : f.fifoFull = false) (hcode : f.codeError = false) (hshort : f.bytes.length < 64) :
    macFault f maxFrame = some 18 := by
  simp [macFault, hfull, hcode, hshort]

theorem macFault_oversize (hfull : f.fifoFull = false) (hcode : f.codeError = false) (hlength : 64 ≤ f.bytes.length)
    (hlong : maxFrame < f.bytes.length) : macFault f maxFrame = some 19 := by
  simp [macFault, hfull, hcode, Nat.not_lt.mpr hlength, hlong]

theorem macFault_fcs (hfull : f.fifoFull = false) (hcode : f.codeError = false) (hlength : 64 ≤ f.bytes.length)
    (hfits : f.bytes.length ≤ maxFrame)
    (hfcs : crc32 (f.bytes.take (f.bytes.length - 4)) ≠ bytesNat (f.bytes.drop (f.bytes.length - 4))) :
    macFault f maxFrame = some 17 := by
  simp [macFault, hfull, hcode, Nat.not_lt.mpr hlength, Nat.not_lt.mpr hfits, hfcs]

end

/-- Settles O58: the frame is received, and the first row that it fails counts it. -/
theorem firstReceiveCheckDecides : Obligations.FirstReceiveCheckDecides := by
  unfold Obligations.FirstReceiveCheckDecides
  rintro s p f _ hup hpins hblock rfl
  have hrow : ∀ k, macFault f (s.portCfg p.val).maxFrame = some k →
      exec (.portFrameReceived p f) s = .next (count (portCtr p.val k)
        (countBy (devCtr 5) f.corrected (if f.poisoned then count (devCtr 6) s else s))) := fun k hfault => by
    rw [exec_portFrameReceived_up f hup hpins, receive_of_macFault hblock hfault]
  exact ⟨fun hfull => hrow 21 (macFault_overrun hfull),
    fun hfull hcode => hrow 20 (macFault_codeError hfull hcode),
    fun hfull hcode hshort => hrow 18 (macFault_runt hfull hcode hshort),
    fun hfull hcode hlength hlong => hrow 19 (macFault_oversize hfull hcode hlength hlong),
    fun hfull hcode hlength hfits hfcs => hrow 17 (macFault_fcs hfull hcode hlength hfits hfcs)⟩

end Sys2Proof.Machine

/-! The port and the station commands (11 R335, R348; 12 R374, R375). -/
namespace Sys2Proof.Machine

/-- A command whose home is this node, with no request ahead at its Teller, does its work here (01 R17; 15 R471). -/
theorem atHome_idle {e : Entry} {home : Nat} {status : Byte} {here : State → State} {s : State} (hhome : home = s.node)
    (hteller : s.tables.teller = []) : atHome e home status (fun t => here (tellerDrain t)) s = here s := by
  rw [atHome, if_pos hhome, tellerDrain_idle hteller]

/-- What a PORT_SET does behind its checks (12 R374). -/
def setPortCfg (e : Entry) (s : State) : State :=
  let p := prmByte e.cmd 16
  let new := portCfgOf e.cmd
  let old := s.portCfg p
  let s1 := { s with cfg := { s.cfg with ports := s.cfg.ports.set p new } }
  if (s.port p).state = .reset then finish e stDone [] s1
  else if new.enable != old.enable || new.speed != old.speed || new.fec != old.fec then
    finish e stDone [] (startPort p 4 (if new.enable && old.enable then 8 else 0) (abortFrames p s1))
  else finish e stDone [] s1

section
variable {e : Entry} {s : State} (hreset : (s.port (prmByte e.cmd 16)).state ≠ .reset)
include hreset

/-- A PORT_SET that keeps ENABLE, SPEED and FEC writes the configuration alone (12 R374). -/
theorem setPortCfg_kept (henable : (portCfgOf e.cmd).enable = (s.portCfg (prmByte e.cmd 16)).enable)
    (hspeed : (portCfgOf e.cmd).speed = (s.portCfg (prmByte e.cmd 16)).speed)
    (hfec : (portCfgOf e.cmd).fec = (s.portCfg (prmByte e.cmd 16)).fec) :
    setPortCfg e s = finish e stDone []
      { s with cfg := { s.cfg with ports := s.cfg.ports.set (prmByte e.cmd 16) (portCfgOf e.cmd) } } := by
  simp [setPortCfg, hreset, henable, hspeed, hfec]

/-- A PORT_SET that changes ENABLE starts the port again (12 R374). -/
theorem setPortCfg_enableChanged (henable : (portCfgOf e.cmd).enable ≠ (s.portCfg (prmByte e.cmd 16)).enable) :
    setPortCfg e s = finish e stDone [] (startPort (prmByte e.cmd 16) 4 0 (abortFrames (prmByte e.cmd 16)
      { s with cfg := { s.cfg with ports := s.cfg.ports.set (prmByte e.cmd 16) (portCfgOf e.cmd) } })) := by
  have hnotBoth : ((portCfgOf e.cmd).enable && (s.portCfg (prmByte e.cmd 16)).enable) = false := by
    rw [Bool.and_eq_false_iff]
    by_contra hboth
    simp only [not_or, Bool.not_eq_false] at hboth
    exact henable (hboth.1.trans hboth.2.symm)
  simp [setPortCfg, hreset, henable, hnotBoth]

end

/-- What a PORT_STATUS reports (12 R375). -/
def portReport (p : Nat) (s : State) : List Fld :=
  let x := s.port p
  let c := s.portCfg p
  [⟨8, 1, x.state.code⟩, ⟨9, 1, c.speed⟩, ⟨10, 1, bit c.fec + 2 * bit c.outer88a8⟩,
    ⟨11, 1, bit x.blockLock + 2 * bit x.fecLock + 4 * bit x.hiBer + 8 * bit x.localFault + 16 * bit x.remoteFault⟩,
    ⟨12, 2, c.maxFrame⟩, ⟨14, 6, bytesNat (natBytes 6 c.mac.toNat).reverse⟩, ⟨20, 8, x.changedPeriod⟩]

/-- A static entry joins the table of its home or replaces what stands there, and the members are told (11 R333, R335,
R348). -/
def putStatic (e : Entry) (x : Station) (s : State) : State :=
  let k := stationKeyOf e.cmd
  let node := prmByte e.cmd 26
  let port := prmByte e.cmd 27
  finish e stDone [] (sendMembers k (putStation { x with node := node, port := port, isStatic := true }
    (keepStatic k (some { key := k, node := node, port := port }) s)))

/-- What a STATION_ADD of an entry does at its home (11 R348). -/
def addStatic (e : Entry) (s : State) : State :=
  match s.station (stationKeyOf e.cmd) with
  | some x => putStatic e x s
  | none =>
    if s.tables.stations.length < 4096 then
      putStatic e { key := stationKeyOf e.cmd, node := prmByte e.cmd 26, port := prmByte e.cmd 27, isStatic := true,
                    lastSeenPeriod := 0, lastSeenAt := 0 } s
    else finish e stNoResource [] s

/-- What a STATION_ADD does behind its checks (11 R348). -/
def stationAddEffect (e : Entry) (s : State) : State :=
  if prmByte e.cmd 16 % 2 = 1 then
    finish e stDone [] { s with cfg := { s.cfg with moveHoldMs := prm e.cmd 28 2, ageS := prm e.cmd 30 2 } }
  else atHome e (s.homeOf (stationHash (stationKeyOf e.cmd))) stNoResource (fun t => addStatic e (tellerDrain t)) s

/-- A STATION_ADD of the table's times writes them alone (11 R348). -/
theorem stationAddEffect_times {e : Entry} {s : State} (htimes : prmByte e.cmd 16 % 2 = 1) :
    stationAddEffect e s
      = finish e stDone [] { s with cfg := { s.cfg with moveHoldMs := prm e.cmd 28 2, ageS := prm e.cmd 30 2 } } :=
  if_pos htimes

/-- What a STATION_DELETE does at the home of the entry (11 R348). -/
def deleteStation (e : Entry) (s : State) : State :=
  match s.station (stationKeyOf e.cmd) with
  | none => finish e stNotFound [] s
  | some _ => finish e stDone [] (sendMembers (stationKeyOf e.cmd) (dropStation (stationKeyOf e.cmd)
      (keepStatic (stationKeyOf e.cmd) none s)))

/-- What a STATION_DELETE does behind its checks (11 R348). -/
def stationDeleteEffect (e : Entry) (s : State) : State :=
  atHome e (s.homeOf (stationHash (stationKeyOf e.cmd))) stNotFound (fun t => deleteStation e (tellerDrain t)) s

section
variable {e : Entry} {s : State} (hhome : s.homeOf (stationHash (stationKeyOf e.cmd)) = s.node)
  (hteller : s.tables.teller = [])
include hhome hteller

/-- A key that the table does not hold joins it while there is room (11 R348). -/
theorem stationAddEffect_new (hentry : prmByte e.cmd 16 % 2 = 0) (hnew : s.station (stationKeyOf e.cmd) = none)
    (hroom : s.tables.stations.length < 4096) :
    stationAddEffect e s = putStatic e ⟨stationKeyOf e.cmd, prmByte e.cmd 26, prmByte e.cmd 27, true, 0, 0⟩ s := by
  have hkind : ¬prmByte e.cmd 16 % 2 = 1 := by omega
  rw [stationAddEffect, if_neg hkind, atHome_idle hhome hteller]
  simp only [addStatic, hnew, hroom, if_true]

/-- A key that the table holds leaves it and the settings (11 R335, R348). -/
theorem stationDeleteEffect_found {x : Station} (hx : s.station (stationKeyOf e.cmd) = some x) :
    stationDeleteEffect e s = finish e stDone [] (sendMembers (stationKeyOf e.cmd) (dropStation (stationKeyOf e.cmd)
      (keepStatic (stationKeyOf e.cmd) none s))) := by
  rw [stationDeleteEffect, atHome_idle hhome hteller]
  simp only [deleteStation, hx]

end

/-- What a STATION_QUERY does behind its checks (11 R348). -/
def queryStation (e : Entry) (s : State) : State :=
  match s.station (stationKeyOf e.cmd) with
  | none => finish e stNotFound [] s
  | some x => finish e stDone [⟨8, 1, x.node⟩, ⟨9, 1, x.port⟩, ⟨10, 1, bit x.isStatic⟩, ⟨12, 8, x.lastSeenPeriod⟩] s

theorem queryStation_found {e : Entry} {s : State} {x : Station} (hx : s.station (stationKeyOf e.cmd) = some x) :
    queryStation e s
      = finish e stDone [⟨8, 1, x.node⟩, ⟨9, 1, x.port⟩, ⟨10, 1, bit x.isStatic⟩, ⟨12, 8, x.lastSeenPeriod⟩] s := by
  simp only [queryStation, hx]

/-- Settles O12: each command opens and passes its checks; the port's branch is that of what the configuration changes, and a
station's work is done here, at its home. -/
theorem portAndStationCommandsComplete : Obligations.PortAndStationCommandsComplete := by
  unfold Obligations.PortAndStationCommandsComplete
  refine ⟨?portKept, ?portRestarts, ?portStatus, ?stationTimes, ?stationAdd, ?stationDelete, ?stationQuery⟩
  case portKept =>
    rintro src c s _ ho ha hreset rfl henable hspeed hfec
    rw [exec_accepted (eff := setPortCfg _) rfl ho ha rfl,
      setPortCfg_kept (e := entryOf .portSet src c s) (s := opened .portSet src c s) hreset henable hspeed hfec]
    rfl
  case portRestarts =>
    rintro src c s _ ho ha hreset rfl henable
    rw [exec_accepted (eff := setPortCfg _) rfl ho ha rfl,
      setPortCfg_enableChanged (e := entryOf .portSet src c s) (s := opened .portSet src c s) hreset henable]
    rfl
  case portStatus =>
    rintro src c s _ _ ho ha rfl rfl
    rw [exec_accepted (eff := completeWith _ (portReport (prmByte c 16))) rfl ho ha rfl]
    rfl
  case stationTimes =>
    intro src c s ho ha htimes
    rw [exec_accepted (eff := stationAddEffect _) rfl ho ha rfl,
      stationAddEffect_times (e := entryOf .stationAdd src c s) (s := opened .stationAdd src c s) htimes]
    rfl
  case stationAdd =>
    rintro src c s _ ho ha hentry rfl hhome hteller hnew hroom
    rw [exec_accepted (eff := stationAddEffect _) rfl ho ha rfl,
      stationAddEffect_new (e := entryOf .stationAdd src c s) (s := opened .stationAdd src c s) hhome hteller hentry hnew
        hroom]
    rfl
  case stationDelete =>
    rintro src c s _ x ho ha rfl hhome hteller hx
    rw [exec_accepted (eff := stationDeleteEffect _) rfl ho ha rfl,
      stationDeleteEffect_found (e := entryOf .stationDelete src c s) (s := opened .stationDelete src c s) hhome hteller hx]
    rfl
  case stationQuery =>
    intro src c s x ho ha hx
    rw [exec_accepted (eff := queryStation _) rfl ho ha rfl,
      queryStation_found (e := entryOf .stationQuery src c s) (s := opened .stationQuery src c s) hx]
    rfl

end Sys2Proof.Machine

/-! The link events of a port and its media lane (12 R361 to R363; 14 R429). -/
namespace Sys2Proof.Machine

/-! One port and one lane, read after a change of it. -/

theorem port_setPort (p : Nat) (f : Port → Port) (s : State) :
    (setPort p f s).port p = if p < s.ports.length then f (s.port p) else {} := by
  unfold State.port setPort upd
  split
  next hp => simp [hp]
  next hp => simp [Nat.le_of_not_lt hp]

theorem port_setPort_same {p : Nat} {s : State} (f : Port → Port) (hp : p < s.ports.length) :
    (setPort p f s).port p = f (s.port p) := by
  rw [port_setPort, if_pos hp]

theorem lane_setLane (l : Nat) (f : Lane → Lane) (s : State) :
    (setLane l f s).lane l = if l < s.lanes.lanes.length then f (s.lane l) else {} := by
  unfold State.lane setLane upd
  split
  next hl => simp [hl]
  next hl => simp [Nat.le_of_not_lt hl]

theorem lane_setLane_same {l : Nat} {s : State} (f : Lane → Lane) (hl : l < s.lanes.lanes.length) :
    (setLane l f s).lane l = f (s.lane l) := by
  rw [lane_setLane, if_pos hl]

/-- A port that is not DISABLED is one of the block's. -/
theorem lt_ports_of_state {s : State} {p : Nat} {x : PortStateCode} (h : (s.port p).state = x) (hx : x ≠ .disabled) :
    p < s.ports.length := by
  by_contra hp
  exact hx (h.symm.trans (congrArg Port.state (List.getD_eq_default _ _ (Nat.le_of_not_lt hp))))

theorem lt_ports_of_portRuns {s : State} {p : Nat} (h : s.portRuns p = true) : p < s.ports.length :=
  lt_ports_of_state rfl fun hoff => by simp [State.portRuns, hoff] at h

/-- A lane that differs from one that has never run is one of the block's. -/
theorem lt_lanes_of_ne {s : State} {l : Nat} (h : s.lane l ≠ {}) : l < s.lanes.lanes.length := by
  by_contra hl
  exact h (List.getD_eq_default _ _ (Nat.le_of_not_lt hl))

theorem lt_lanes_of_training {s : State} {l : Nat} (h : (s.lane l).state = .training) : l < s.lanes.lanes.length :=
  lt_lanes_of_ne fun hnone => by simp [hnone] at h

/-! The ports and the lanes: what an event, a counter and a record of the fault log leave of them. -/

/-- The ports, and the lanes with their links and scans. -/
def mediaPart (s : State) : List Port × Lanes := (s.ports, s.lanes)

theorem port_of_mediaPart {s t : State} (h : mediaPart t = mediaPart s) (p : Nat) : t.port p = s.port p :=
  (congrArg (fun m => m.1.getD p {}) h :)

theorem lane_of_mediaPart {s t : State} (h : mediaPart t = mediaPart s) (l : Nat) : t.lane l = s.lane l :=
  (congrArg (fun m => m.2.lanes.getD l {}) h :)

theorem mediaPart_of_unreported {s t : State} (h : unreported t = unreported s) : mediaPart t = mediaPart s :=
  (congrArg mediaPart h :)

@[simp] theorem mediaPart_raise (code : Nat) (fields : List Fld) (s : State) :
    mediaPart (raise code fields s) = mediaPart s :=
  mediaPart_of_unreported (unreported_raise code fields s)

@[simp] theorem mediaPart_countBy (c : Ctr) (n : Nat) (s : State) : mediaPart (countBy c n s) = mediaPart s :=
  mediaPart_of_unreported (unreported_countBy c n s)

@[simp] theorem mediaPart_count (c : Ctr) (s : State) : mediaPart (count c s) = mediaPart s :=
  mediaPart_countBy c 1 s

@[simp] theorem mediaPart_ite (q : Prop) [Decidable q] (a b : State) :
    mediaPart (if q then a else b) = if q then mediaPart a else mediaPart b :=
  apply_ite mediaPart q a b

@[simp] theorem mediaPart_logFault (kind unitType unitIndex cause cnt channel address : Nat) (s : State) :
    mediaPart (logFault kind unitType unitIndex cause cnt channel address s) = mediaPart s := by
  have hput : ∀ o b u, mediaPart (rmemPut o b u) = mediaPart u := fun _ _ _ => rfl
  have hfaults : ∀ f, mediaPart { s with faults := f } = mediaPart s := fun _ => rfl
  simp [logFault, crashAppend, hput, hfaults]

@[simp] theorem mediaPart_dropPortQueues (port : Nat) (s : State) : mediaPart (dropPortQueues port s) = mediaPart s := by
  unfold dropPortQueues
  induction List.range 8 generalizing s with
  | nil => rfl
  | cons q rest ih => exact (ih _).trans (mediaPart_countBy ..)

/-! A change of a port's state, of a lane's state, and one that may turn the link good or not. -/

theorem state_portTo {s : State} {p : Nat} (new : PortStateCode) (cause : Nat) (hp : p < s.ports.length) :
    ((portTo p new cause s).port p).state = new := by
  by_cases hsame : (s.port p).state = new
  · simp only [portTo, hsame, if_true]
  · have hmedia : mediaPart (portTo p new cause s) = mediaPart
        (setPort p (fun x => { x with state := new, changedPeriod := s.alw.period, linkSince := s.now }) s) := by
      simp [portTo, raisePort, hsame]
    rw [port_of_mediaPart hmedia, port_setPort_same _ hp]

theorem lane_laneTo {s : State} {l : Nat} (new : LaneStateCode) (cause : Nat) (hl : l < s.lanes.lanes.length) :
    (laneTo l new cause s).lane l = { s.lane l with state := new } := by
  unfold laneTo
  dsimp only
  split
  next hsame => rw [← hsame]
  next =>
    rw [raiseLane, lane_of_mediaPart (mediaPart_raise ..)]
    split <;> exact lane_setLane_same _ hl

section
variable (p : Nat) (f : State → State) (s : State)

/-- The instant of the change is all that `linkChange` adds to it (12 R363). -/
theorem linkChange_cases : linkChange p f s = f s ∨
    linkChange p f s = setPort p (fun x => { x with linkSince := s.now }) (f s) := by
  unfold linkChange
  dsimp only
  split
  · exact .inl rfl
  · exact .inr rfl

@[simp] theorem now_linkChange : (linkChange p f s).now = (f s).now := by
  obtain h | h := linkChange_cases p f s
  · rw [h]
  · rw [h, setPort_now]

@[simp] theorem lane_linkChange (l : Nat) : (linkChange p f s).lane l = (f s).lane l := by
  obtain h | h := linkChange_cases p f s
  · rw [h]
  · rw [h, State.lane, setPort_lanes, State.lane]

theorem port_linkChange : ∃ since, (linkChange p f s).port p = { (f s).port p with linkSince := since } := by
  obtain h | h := linkChange_cases p f s
  · exact ⟨((f s).port p).linkSince, by rw [h]⟩
  · rw [h, port_setPort]
    split
    next => exact ⟨s.now, rfl⟩
    next hp => exact ⟨0, by rw [State.port, List.getD_eq_default _ _ (Nat.le_of_not_lt hp)]⟩

end

/-- A port behind a change of its receive side alone. -/
theorem port_linkChange_setPort {p : Nat} (f : Port → Port) {s : State} (hp : p < s.ports.length) :
    ∃ since, (linkChange p (setPort p f) s).port p = { f (s.port p) with linkSince := since } := by
  obtain ⟨since, h⟩ := port_linkChange p (setPort p f) s
  exact ⟨since, by rw [h, port_setPort_same f hp]⟩

theorem port_laneBringup (l cause : Nat) (s : State) (p : Nat) : (laneBringup l cause s).port p = s.port p :=
  (congrArg (State.port · p) (offLanes_laneBringup l cause s) :)

/-! What each event comes to. -/

/-- A port and its lane without block lock (12 R363). -/
def dropLock (p : Nat) (s : State) : State :=
  setLane p (fun x => { x with blockLockAt := none })
    (setPort p (fun x => { x with blockLock := false, fecLock := false }) s)

theorem port_dropLock {s : State} {p : Nat} (hp : p < s.ports.length) :
    (dropLock p s).port p = { s.port p with blockLock := false, fecLock := false } :=
  port_setPort_same _ hp

theorem blockLockAt_dropLock (p : Nat) (s : State) : ((dropLock p s).lane p).blockLockAt = none := by
  rw [dropLock, lane_setLane]
  split <;> rfl

/-- BLOCK_LOCK_LOSS on a port that had block lock (12 R363, R381). -/
theorem exec_blockLockLoss_locked {s : State} {p : Fin 8} (mid : Bool) (hruns : s.portRuns p.val = true)
    (hlock : (s.port p.val).blockLock = true) :
    ∃ t, exec (.blockLockLoss p mid) s = .next t ∧ mediaPart t = mediaPart (linkChange p.val (dropLock p.val) s) := by
  refine ⟨lockLost p.val mid s, rfl, ?_⟩
  simp only [lockLost, hruns, hlock, Bool.not_true, Bool.or_self, Bool.false_eq_true, if_false, mediaPart_ite,
    mediaPart_count, ite_self]
  rfl

/-- A port and its lane with block lock, and the alignment lock where the port has FEC (12 R362; 14 R429). -/
def takeLock (p : Nat) (s : State) : State :=
  setLane p (fun x => { x with blockLockAt := some s.now })
    (setPort p (fun x => { x with blockLock := true, fecLock := (s.portCfg p).fec }) s)

theorem port_takeLock {s : State} {p : Nat} (hp : p < s.ports.length) :
    (takeLock p s).port p = { s.port p with blockLock := true, fecLock := (s.portCfg p).fec } :=
  port_setPort_same _ hp

theorem blockLockAt_takeLock {s : State} {p : Nat} (hl : p < s.lanes.lanes.length) :
    ((takeLock p s).lane p).blockLockAt = some s.now :=
  congrArg Lane.blockLockAt (lane_setLane_same (s := setPort p _ s) _ hl)

/-- M_LANE_BLOCK_LOCK on a lane whose clock recovery is locked (14 R429). -/
theorem exec_mLaneBlockLock_locked {s : State} {p : Fin 8} (hruns : s.portRuns p.val = true)
    (hcdr : (s.lane p.val).cdrLocked = true) :
    ∃ t, exec (.mLaneBlockLock p) s = .next t ∧ mediaPart t = mediaPart (linkChange p.val (takeLock p.val) s) := by
  refine ⟨_, rfl, ?_⟩
  simp only [hruns, hcdr, Bool.not_true, Bool.or_self, Bool.false_eq_true, if_false, mediaPart_ite, mediaPart_logFault,
    ite_self]
  rfl

/-- PORT_LINK_UP_HOLD on a port whose link is good (12 R363). -/
theorem exec_portLinkUpHold_good {s : State} {p : Fin 8} (hdown : (s.port p.val).state = .down)
    (hgood : s.linkGood p.val = true) :
    exec (.portLinkUpHold p) s = .next (portTo p.val .up 0 (advance ((s.port p.val).linkSince + 10000000) s)) := by
  change execPortLinkUpHold p s = _
  simp only [execPortLinkUpHold, hdown, hgood, and_self, if_true]

/-- PORT_LINK_DOWN_HOLD on a port whose link is not good: it is DOWN, and its lane begins again (12 R363; 14 R429). -/
theorem exec_portLinkDownHold_bad {s : State} {p : Fin 8} (hup : (s.port p.val).state = .up)
    (hbad : s.linkGood p.val = false) :
    ∃ cause laneCause, exec (.portLinkDownHold p) s = .next (laneBringup p.val laneCause (setPort p.val clearLink
      (portTo p.val .down cause (advance ((s.port p.val).linkSince + 20000000) s)))) := by
  change ∃ cause laneCause, execPortLinkDownHold p s = _
  simp only [execPortLinkDownHold, hup, hbad, Bool.not_false, and_self, if_true]
  exact ⟨_, _, rfl⟩

section
variable {s : State} {p : Fin 8} (on : Bool) (hruns : s.portRuns p.val = true)
include hruns

/-! The three conditions of a running port's receive side (12 R361, R362, R371). -/

theorem exec_localFault_running : ∃ t, exec (.localFault p on) s = .next t ∧
    mediaPart t = mediaPart (linkChange p.val (setPort p.val fun x => { x with localFault := on }) s) :=
  ⟨_, rfl, by simp [hruns]⟩

theorem exec_remoteFault_running : ∃ t, exec (.remoteFault p on) s = .next t ∧
    mediaPart t = mediaPart (linkChange p.val (setPort p.val fun x => { x with remoteFault := on }) s) :=
  ⟨_, rfl, by simp [hruns]⟩

theorem exec_hiBer_running : ∃ t, exec (.hiBer p on) s = .next t ∧
    mediaPart t = mediaPart (linkChange p.val (setPort p.val fun x => { x with hiBer := on }) s) :=
  ⟨_, rfl, by simp [hruns]⟩

end

/-- The polarity of a lane is decided, once in a bring-up, unless the settings fix it (14 R429). -/
def decidePolarity (p : Nat) (inverted : Bool) (s : State) : State :=
  if inverted && !(s.lane p).polarityDone && !(s.laneCfg p).rxPolarityFixed then
    count (laneCtr p 4) (setLane p (fun x => { x with polarityInverted := true }) s)
  else s

theorem lane_decidePolarity {s : State} {p : Nat} (inverted : Bool) (hp : p < s.lanes.lanes.length) :
    (decidePolarity p inverted s).lane p = { s.lane p with
      polarityInverted := (s.lane p).polarityInverted
        || (inverted && !(s.lane p).polarityDone && !(s.laneCfg p).rxPolarityFixed) } := by
  unfold decidePolarity
  split
  next hfix =>
    rw [lane_of_mediaPart (mediaPart_count ..), lane_setLane_same _ hp, hfix, Bool.or_true]
  next hkeep => rw [Bool.eq_false_iff.mpr hkeep, Bool.or_false]

theorem now_decidePolarity (p : Nat) (inverted : Bool) (s : State) :
    (decidePolarity p inverted s).now = s.now := by
  unfold decidePolarity
  split
  · exact now_count ..
  · rfl

/-- A lane is READY when its polarity has been decided (14 R429). -/
def polarityDecided (p : Nat) (s : State) : State :=
  linkChange p (laneTo p .ready 1) (setLane p (fun x => { x with polarityDone := true }) s)

theorem now_polarityDecided (p : Nat) (s : State) : (polarityDecided p s).now = s.now := by
  rw [polarityDecided, now_linkChange, now_of_resetPart (resetPart_laneTo ..), setLane_now]

theorem lane_polarityDecided {s : State} {p : Nat} (hl : p < s.lanes.lanes.length) :
    (polarityDecided p s).lane p = { s.lane p with polarityDone := true, state := .ready } := by
  have hdone := lane_setLane_same (fun x => { x with polarityDone := true }) hl
  rw [polarityDecided, lane_linkChange, lane_laneTo _ _ (by simpa [upd] using hl), hdone]

/-- M_LANE_POLARITY_CHECK on a training lane with block lock (14 R429). -/
theorem exec_mLanePolarityCheck_training {s : State} {p : Fin 8} {since : Nat} (inverted : Bool)
    (hruns : s.portRuns p.val = true) (htraining : (s.lane p.val).state = .training)
    (hlock : (s.lane p.val).blockLockAt = some since) :
    exec (.mLanePolarityCheck p inverted) s = .next (polarityDecided p.val (advance (since + 2000000)
      (decidePolarity p.val inverted (advance (since + 1000000) s)))) := by
  change execMLanePolarityCheck p inverted s = _
  simp only [execMLanePolarityCheck, hlock, hruns, htraining, and_self, if_true]
  rfl

/-- Settles O32: what each event leaves of its port is read behind its counters, and the link's instant is all that it adds. -/
theorem portLinkEventsComplete : Obligations.PortLinkEventsComplete := by
  unfold Obligations.PortLinkEventsComplete
  refine ⟨?lockLoss, ?linkUp, ?linkDown, ?faults, ?blockLock, ?polarity⟩
  case lockLoss =>
    intro s p mid hruns hlock
    obtain ⟨t, hexec, hmedia⟩ := exec_blockLockLoss_locked mid hruns hlock
    obtain ⟨since, hport⟩ := port_linkChange p.val (dropLock p.val) s
    rw [← port_of_mediaPart hmedia, port_dropLock (lt_ports_of_portRuns hruns)] at hport
    refine ⟨t, hexec, by rw [hport], by rw [hport], ?_⟩
    rw [lane_of_mediaPart hmedia, lane_linkChange, blockLockAt_dropLock]
  case linkUp =>
    intro s p hdown hgood
    exact ⟨_, exec_portLinkUpHold_good hdown hgood,
      state_portTo (s := advance _ s) _ _ (lt_ports_of_state hdown (by decide)), now_of_resetPart (resetPart_portTo ..)⟩
  case linkDown =>
    intro s p hup hbad
    obtain ⟨cause, laneCause, hexec⟩ := exec_portLinkDownHold_bad hup hbad
    have hdown := state_portTo (s := advance ((s.port p.val).linkSince + 20000000) s) .down cause
      (lt_ports_of_state (s := s) hup (by decide))
    have hport := port_setPort_same clearLink (lt_ports_of_state hdown (by decide))
    refine ⟨_, hexec, ?_, ?_, ?_⟩
    · rw [port_laneBringup, hport, clearLink, hdown]
    · rw [port_laneBringup, hport, clearLink]
    · rw [now_of_resetPart (resetPart_laneBringup ..), now_of_resetPart (resetPart_setPort ..),
        now_of_resetPart (resetPart_portTo ..), advance_now]
  case faults =>
    intro s p on hruns
    have hp := lt_ports_of_portRuns hruns
    obtain ⟨t, hexecLocal, hlocal⟩ := exec_localFault_running on hruns
    obtain ⟨u, hexecRemote, hremote⟩ := exec_remoteFault_running on hruns
    obtain ⟨v, hexecBer, hber⟩ := exec_hiBer_running on hruns
    refine ⟨t, u, v, hexecLocal, hexecRemote, hexecBer, ?_, ?_, ?_⟩
    · obtain ⟨since, hport⟩ := port_linkChange_setPort (fun x => { x with localFault := on }) hp
      rw [port_of_mediaPart hlocal, hport]
    · obtain ⟨since, hport⟩ := port_linkChange_setPort (fun x => { x with remoteFault := on }) hp
      rw [port_of_mediaPart hremote, hport]
    · obtain ⟨since, hport⟩ := port_linkChange_setPort (fun x => { x with hiBer := on }) hp
      rw [port_of_mediaPart hber, hport]
  case blockLock =>
    intro s p hruns hcdr
    obtain ⟨t, hexec, hmedia⟩ := exec_mLaneBlockLock_locked hruns hcdr
    obtain ⟨since, hport⟩ := port_linkChange p.val (takeLock p.val) s
    rw [← port_of_mediaPart hmedia, port_takeLock (lt_ports_of_portRuns hruns)] at hport
    refine ⟨t, hexec, by rw [hport], by rw [hport], ?_⟩
    rw [lane_of_mediaPart hmedia, lane_linkChange,
      blockLockAt_takeLock (lt_lanes_of_ne fun hnone => by simp [hnone] at hcdr)]
  case polarity =>
    intro s p inverted since hruns htraining hlock
    have hchecked := lane_decidePolarity (s := advance (since + 1000000) s) inverted (lt_lanes_of_training htraining)
    have htrained := (congrArg Lane.state hchecked).trans htraining
    have hready := lane_polarityDecided (s := advance (since + 2000000) _) (lt_lanes_of_training htrained)
    refine ⟨_, exec_mLanePolarityCheck_training inverted hruns htraining hlock, ?_, ?_, ?_, ?_⟩
    · rw [hready]
    · rw [hready]
    · rw [now_polarityDecided, advance_now, now_decidePolarity, advance_now]
      omega
    · rw [hready]
      exact congrArg Lane.polarityInverted hchecked

end Sys2Proof.Machine

/-! Stations, requests to the Teller and silent latches (01 R17; 11 R331, R333, R335). -/
namespace Sys2Proof.Machine

/-! The station table and the sightings, each read after a write of it. -/

/-- A table in which an entry replaces that of its key, or joins behind the others, holds it under that key. -/
theorem find?_replaceOrAppend {α κ : Type} [DecidableEq κ] (key : α → κ) (x : α) (l : List α) :
    (if l.any fun y => key y == key x then l.map fun y => if key y = key x then x else y else l ++ [x]).find?
      (fun y => key y == key x) = some x := by
  induction l with
  | nil => simp
  | cons y rest ih =>
    by_cases hy : key y = key x
    · simp [hy]
    · simpa [hy, apply_ite (List.find? _)] using ih

theorem station_putStation (x : Station) (s : State) : (putStation x s).station x.key = some x :=
  find?_replaceOrAppend Station.key x s.tables.stations

theorem station_dropStation (k : StationKey) (s : State) : (dropStation k s).station k = none := by
  simp [State.station, dropStation]

theorem find?_setSighting {x : Sighting} {k : StationKey} (hkey : x.key = k) (s : State) :
    ((setSighting x s).tables.sightings.find? fun y => y.key == k) = some x := by
  subst hkey
  exact find?_replaceOrAppend Sighting.key x s.tables.sightings

/-! What a message to the members and a request to a home's Teller leave alone. -/

theorem now_of_offPosts {s t : State} (h : offPosts t = offPosts s) : t.now = s.now :=
  (congrArg State.now h :)

theorem tables_of_offPosts {s t : State} (h : offPosts t = offPosts s) : t.tables = s.tables :=
  (congrArg State.tables h :)

theorem offPosts_sendMembers (k : StationKey) (s : State) : offPosts (sendMembers k s) = offPosts s :=
  offPosts_foldl (fun s n => offPosts_tell n _ s) _ s

/-- A state without what a request to a Teller writes: what a message writes, and this Teller's queue. -/
def offTeller (s : State) : State :=
  { offPosts s with tables := { s.tables with teller := [] } }

theorem offTeller_toTeller (home : Nat) (r : TellerRequest) (s : State) : offTeller (toTeller home r s) = offTeller s := by
  unfold toTeller
  split
  · rfl
  · exact congrArg (fun u : State => { u with tables := { u.tables with teller := [] } }) (offPosts_tell ..)

theorem offTeller_sendSighting (k : StationKey) (port seenAt : Nat) (s : State) :
    offTeller (sendSighting k port seenAt s) = offTeller s :=
  offTeller_toTeller ..

theorem now_of_offTeller {s t : State} (h : offTeller t = offTeller s) : t.now = s.now :=
  (congrArg State.now h :)

theorem voice_of_offTeller {s t : State} (h : offTeller t = offTeller s) : t.voice = s.voice :=
  (congrArg State.voice h :)

theorem sightings_of_offTeller {s t : State} (h : offTeller t = offTeller s) :
    t.tables.sightings = s.tables.sightings :=
  (congrArg (·.tables.sightings) h :)

/-! What each event comes to. -/

/-- A sighting whose last report is of an instant (11 R335). -/
def Sighting.reportedAt (t : Nat) (x : Sighting) : Sighting :=
  { x with lastReport := some t }

/-- STATION_SIGHTING_REPORT behind a later sighting (11 R335). -/
theorem exec_stationSightingReport_due {s : State} {k : StationKey} {x : Sighting} {r : Nat}
    (hx : (s.tables.sightings.find? fun y => y.key == k) = some x) (hlast : x.lastReport = some r) (hnew : r < x.at_)
    (hrun : s.running = true) :
    exec (.stationSightingReport k) s = .next (sendSighting k x.port x.at_
      (setSighting (.reportedAt (max s.now (r + 100000000)) x) (advance (r + 100000000) s))) := by
  change execStationSightingReport k s = _
  simp only [execStationSightingReport, hrun, hx, hlast, hnew, Bool.not_true, Bool.false_eq_true, if_false, if_true,
    advance_now, Sighting.reportedAt]

/-- A learned entry older than AGE_S is deleted, counted, and the members are told (11 R335). -/
theorem commitAge_expired {s : State} {k : StationKey} {x : Station} (hx : s.station k = some x)
    (hlearned : x.isStatic = false) (hold : x.lastSeenAt + s.cfg.ageS * 1000000000 < s.now) :
    commitAge k s = sendMembers k (count (devCtr 36) (dropStation k s)) := by
  have hage : ¬s.now ≤ x.lastSeenAt + s.cfg.ageS * 1000000000 := Nat.not_le.mpr hold
  simp [commitAge, hx, hlearned, hage]

/-- STATION_AGE_OUT of a learned entry at its home, with no request ahead (11 R335; 01 R17). -/
theorem exec_stationAgeOut_learned {s : State} {k : StationKey} {x : Station} (hx : s.station k = some x)
    (hlearned : x.isStatic = false) (hhome : s.homeOf (stationHash k) = s.node) (hrun : s.running = true)
    (hteller : s.tables.teller = []) :
    exec (.stationAgeOut k) s = .next (sendMembers k (count (devCtr 36)
      (dropStation k (advance (x.lastSeenAt + s.cfg.ageS * 1000000000 + 1) s)))) := by
  have hage : commitAge k (advance (x.lastSeenAt + s.cfg.ageS * 1000000000 + 1) s) = _ :=
    commitAge_expired (s := advance _ s) hx hlearned (Nat.lt_of_lt_of_le (Nat.lt_succ_self _) (Nat.le_max_right ..))
  change execStationAgeOut k s = _
  rw [← hage, ← tellerDrain_idle (s := advance _ s) hteller]
  simp [execStationAgeOut, hx, hlearned, hhome, hrun]

/-- TELLER_COMMIT commits the request at the front (01 R17). -/
theorem exec_tellerCommit_front {s : State} {r : TellerRequest} {rest : List TellerRequest} (hrun : s.running = true)
    (hteller : s.tables.teller = r :: rest) :
    exec .tellerCommit s = .next (commitRequest commitSighting r { s with tables := { s.tables with teller := rest } }) := by
  change execTellerCommit s = _
  simp only [execTellerCommit, tellerStep, hrun, hteller, if_true]

/-- The entry that a member makes of its home Teller's commit (11 R333). -/
def State.appliedStation (s : State) (u : StationUpdate) : Station :=
  { key := u.key, node := u.node.val, port := u.port.val, isStatic := u.isStatic, lastSeenPeriod := u.lastSeen,
    lastSeenAt := s.now - (s.alw.period - u.lastSeen) * 125000 }

theorem exec_stationEntryApply_deleted {s : State} {u : StationUpdate} (hrun : s.running = true)
    (hgone : u.present = false) : exec (.stationEntryApply u) s = .next (dropStation u.key s) := by
  change Host.Outcome.next (applyStation u s) = _
  simp [applyStation, hrun, hgone]

theorem exec_stationEntryApply_present {s : State} {u : StationUpdate} (hrun : s.running = true)
    (hpresent : u.present = true) : exec (.stationEntryApply u) s = .next (putStation (s.appliedStation u) s) := by
  change Host.Outcome.next (applyStation u s) = _
  simp [applyStation, State.appliedStation, hrun, hpresent]

/-- LATCH_SILENCE_TIMEOUT of a FOLLOW leg that had latched (11 R331, R354). -/
theorem exec_latchSilenceTimeout_follow {s : State} {h : Word32} {ch : Channel} {l : Leg}
    (hleg : s.boundLeg h.toNat = some (ch, l)) (hfollow : latchPolicy (ch.legOf l).flags = 1)
    (hlatched : (ch.legOf l).latched.isSome = true) (hrun : s.running = true) :
    exec (.latchSilenceTimeout h) s = .next (toTeller (handleNode h.toNat) (.unlatch h (ch.legOf l).epoch)
      (setLeg ch.id l (fun x => { x with latched := none }) (advance ((ch.legOf l).lastAcceptedAt + 2000000000) s))) := by
  change execLatchSilenceTimeout h s = _
  simp only [execLatchSilenceTimeout, hleg, hfollow, hlatched, hrun, and_self, if_true]

/-- Settles O30: each event comes to one write of its table, and what it tells others leaves the tables alone. -/
theorem frameAndStationEventsComplete : Obligations.FrameAndStationEventsComplete := by
  unfold Obligations.FrameAndStationEventsComplete
  refine ⟨?frame, ?sighting, ?age, ?request, ?unlatch, ?latch, ?deleted, ?present, ?silence⟩
  case frame => exact fun s p f hup hpins => exec_portFrameReceived_up f hup hpins
  case sighting =>
    intro s k x r hx hlast hnew hrun
    have hkey : x.key = k := eq_of_beq (List.find?_some hx :)
    have hother := offTeller_sendSighting k x.port x.at_
      (setSighting (.reportedAt (max s.now (r + 100000000)) x) (advance (r + 100000000) s))
    have hnow := now_of_offTeller hother
    refine ⟨_, exec_stationSightingReport_due hx hlast hnew hrun, hnow, ?_⟩
    rw [sightings_of_offTeller hother, hnow, find?_setSighting (x := .reportedAt _ x) hkey]
    rfl
  case age =>
    intro s k x hx hlearned hhome hrun hteller
    have hother := (offPosts_sendMembers k _).trans (offPosts_count (devCtr 36)
      (dropStation k (advance (x.lastSeenAt + s.cfg.ageS * 1000000000 + 1) s)))
    exact ⟨_, exec_stationAgeOut_learned hx hlearned hhome hrun hteller, now_of_offPosts hother,
      congrArg Tables.stations (tables_of_offPosts hother)⟩
  case request =>
    intro s req hrun
    exact congrArg Host.Outcome.next (if_pos hrun)
  case unlatch => exact fun s h e rest hrun hteller => exec_tellerCommit_front hrun hteller
  case latch => exact fun s h epoch n ip port rest hrun hteller => exec_tellerCommit_front hrun hteller
  case deleted =>
    exact fun s u hrun hgone => ⟨_, exec_stationEntryApply_deleted hrun hgone, station_dropStation u.key s⟩
  case present =>
    exact fun s u hrun hpresent => ⟨_, s.appliedStation u, exec_stationEntryApply_present hrun hpresent,
      station_putStation (s.appliedStation u) s, rfl, rfl, rfl, rfl⟩
  case silence =>
    intro s h ch l hleg hfollow hlatched hrun
    refine ⟨_, exec_latchSilenceTimeout_follow hleg hfollow hlatched hrun,
      now_of_offTeller (offTeller_toTeller ..), fun c hc hid => ?_⟩
    rw [voice_of_offTeller (offTeller_toTeller ..)] at hc
    obtain ⟨d, -, hnone⟩ := legOf_of_mem_setLeg hc hid
    rw [hnone]

end Sys2Proof.Machine

/-! The time-base, PPS, PTP and launch commands (13 R405 to R411). -/
namespace Sys2Proof.Machine

/-- What a TB_ADJUST of a free-running time base makes of it: a rate, a step or a set (13 R406). -/
def tbAdjusted (c : Cmd) (s : State) : State :=
  match prmByte c 17 with
  | 0 => setTb (prmByte c 16) (fun b => b.withRate s.now (prmInt c 20 4)) (tbSync (prmByte c 16) s)
  | 1 => tbJump (prmByte c 16) (((s.tbValue (prmByte c 16) : Int) + prmInt c 24 8) % (2 ^ 48 * tbSecond : Nat)).toNat s
  | _ => tbJump (prmByte c 16) (fieldTime (prm c 32 12)) s

/-- TB_ADJUST of a time base that runs free answers the value before it (13 R406). -/
theorem tbAdjustBegin_free {e : Entry} {s : State} (hm : s.mode.current ∈ runModes)
    (hc : badOffset (tbAdjustChecks e.cmd) = none) (hon : s.tbOn (prmByte e.cmd 16) = true)
    (hsource : (s.tbCfg (prmByte e.cmd 16)).source = 0) :
    tbAdjustBegin e s = finish e stDone (timeResult (s.tbValue (prmByte e.cmd 16))) (tbAdjusted e.cmd s) := by
  unfold tbAdjustBegin
  rw [checked_pass hm hc]
  simp only [hon, hsource, Bool.not_true, Bool.false_or, Nat.reduceBEq, Bool.false_eq_true, if_false, if_true]
  split
  · next h => simp only [tbAdjusted, h]
  · next h => simp only [tbAdjusted, h]
  · next h₀ h₁ => simp only [tbAdjusted]

/-- Settles O11: each command opens and passes its checks, and its hypotheses choose the branch that is its rule. -/
theorem timeCommandsComplete : Obligations.TimeCommandsComplete := by
  unfold Obligations.TimeCommandsComplete
  refine ⟨?tbKept, ?tbUnnamed, ?adjust, ?timeGet, ?pps, ?ptpOff, ?ptpOn, ?queueKept, ?queueMoved, ?cancel⟩
  case tbKept =>
    intro src c s ho ha hen hrole
    refine take_begin ho (checked_opened ha (if_neg ?_))
    simp [hen, hrole]
  case tbUnnamed =>
    intro src c s ho ha hfree
    refine take_begin ho (checked_opened ha (if_neg ?_))
    simp [hfree]
  case adjust =>
    rintro src c s _ ho ha rfl hon hsource
    obtain ⟨hm, hc⟩ := accepts_iff.mp ha
    exact take_begin ho
      (tbAdjustBegin_free (e := entryOf .tbAdjust src c s) (s := opened .tbAdjust src c s) hm hc hon hsource)
  case timeGet =>
    rintro src c s _ ho ha rfl
    exact exec_accepted (eff := completeWith _ fun s => [⟨8, 12, timeField (s.tbValue (prmByte c 16))⟩,
      ⟨20, 1, (s.tb (prmByte c 16)).state.code⟩, ⟨21, 1, (s.tbCfg (prmByte c 16)).source⟩,
      ⟨22, 4, twos 4 (s.tb (prmByte c 16)).rate⟩]) rfl ho ha rfl
  case pps =>
    intro src c s ho ha hon
    refine take_begin ho ?_
    unfold ppsSetBegin
    refine checked_opened ha (if_neg ?_)
    simpa using hon
  case ptpOff =>
    intro src c s ho ha hpeer hoff
    refine take_begin ho ?_
    unfold ptpPortSetBegin
    refine checked_opened ha ((if_neg ?_).trans (if_neg ?_))
    · simp [hpeer]
    · simp [hoff]
  case ptpOn =>
    intro src c s ho ha hpeer hon hold hrole hprofile
    refine take_begin ho ?_
    unfold ptpPortSetBegin
    refine checked_opened ha ((if_neg ?_).trans (if_neg ?_))
    · simp [hpeer]
    · simp only [opened_cfg, entryOf_cmd, opened_reads_tbCfg, hold, hrole, hprofile]
      simp
  case queueKept =>
    intro src c s ho ha hon hflush htimed htb hoffset hstagger
    refine take_begin ho ?_
    unfold launchQueueSetBegin
    refine checked_opened ha ((if_neg ?_).trans ?_)
    · simpa [htimed, htb, hoffset, hstagger] using hon
    · simp [hflush, htimed, htb, hoffset, hstagger]
      rfl
  case queueMoved =>
    intro src c s ho ha hon hempty hflush hoffset
    refine take_begin ho ?_
    unfold launchQueueSetBegin
    refine checked_opened ha ((if_neg ?_).trans ?_)
    · simpa [hempty] using hon
    · simp [hflush, hoffset]
      rfl
  case cancel =>
    rintro src c s _ _ ho ha htimed rfl rfl hsome hfree
    refine take_begin ho ?_
    unfold launchCancelBegin
    refine checked_opened ha ((if_neg ?_).trans ((if_pos hsome).trans ?_))
    · simp [htimed]
    · simp [hfree]
      rfl
end Sys2Proof.Machine

/-! The time unit's events: the launch arbiter, the PPS pins, the sources and the reference, and PTP's messages (13 R386
to R400). -/
namespace Sys2Proof.Machine

theorem time_of_unreported {s t : State} (h : unreported t = unreported s) : t.time = s.time :=
  (congrArg State.time h :)

theorem tele_of_unreported {s t : State} (h : unreported t = unreported s) : t.tele = s.tele :=
  (congrArg State.tele h :)

theorem time_count (c : Ctr) (s : State) : (count c s).time = s.time :=
  time_of_unreported (unreported_count c s)

theorem time_raiseTb (i : Nat) (previous : TbState) (cause : Nat) (s : State) :
    (raiseTb i previous cause s).time = s.time :=
  time_of_unreported (unreported_raise ..)

theorem time_finish (e : Entry) (status : Byte) (result : List Fld) (s : State) :
    (finish e status result s).time = s.time :=
  (congrArg State.time (offReport_finish e status result s) :)

/-! A time base under a change of its state. -/

theorem lt_bases_of_ne {s : State} {i : Nat} (h : s.tb i ≠ {}) : i < s.time.bases.length := by
  by_contra hi
  exact h (List.getD_eq_default _ _ (Nat.le_of_not_lt hi))

theorem tb_setTb_same {s : State} {i : Nat} (f : TimeBase → TimeBase) (hi : i < s.time.bases.length) :
    (setTb i f s).tb i = f (s.tb i) := by
  simp [State.tb, upd, List.getD_eq_getElem?_getD, hi]

theorem state_tbTo {s : State} {i : Nat} (new : TbState) (cause : Nat) (hi : i < s.time.bases.length) :
    ((tbTo i new cause s).tb i).state = new := by
  unfold tbTo
  dsimp only
  split
  next hsame => exact hsame
  next => rw [State.tb, time_raiseTb, ← State.tb, tb_setTb_same _ hi]

/-- A source lost: the time base goes to HOLDOVER at the same instant (13 R387). -/
theorem tbLose_holdover {s : State} {i : Nat} (h : (s.tb i).state = .acquiring ∨ (s.tb i).state = .locked) :
    ((tbLose i s).tb i).state = .holdover ∧ (tbLose i s).now = s.now := by
  have hi : i < s.time.bases.length := lt_bases_of_ne fun hnone => by simp [hnone] at h
  simp only [tbLose, h, if_true]
  refine ⟨state_tbTo _ _ ?_, now_of_resetPart ((resetPart_tbTo ..).trans ?_)⟩
  · rw [time_count]
    simpa [tbSync, upd] using hi
  · simp [tbSync]

/-! What an accepted edge leaves of the pins (13 R390). -/

theorem pinLastEdge_tbJump (i value : Nat) (s : State) : (tbJump i value s).time.pinLastEdge = s.time.pinLastEdge := by
  unfold tbJump realign
  dsimp only
  split <;> simp [time_raiseTb, time_count, lateAfterJump, tbSync]

theorem pinLastEdge_tbTo (i : Nat) (new : TbState) (cause : Nat) (s : State) :
    (tbTo i new cause s).time.pinLastEdge = s.time.pinLastEdge := by
  unfold tbTo
  dsimp only
  split
  · rfl
  · rw [time_raiseTb, setTb_time]

theorem pinLastEdge_ppsDiscipline (i : Nat) (s : State) :
    (ppsDiscipline i s).time.pinLastEdge = s.time.pinLastEdge := by
  unfold ppsDiscipline
  dsimp only
  (repeat' split) <;> simp [pinLastEdge_tbTo, time_finish, pinLastEdge_tbJump, tbSync]

theorem pinLastEdge_foldl {α : Type} {f : State → α → State}
    (h : ∀ s a, (f s a).time.pinLastEdge = s.time.pinLastEdge) (l : List α) (s : State) :
    (l.foldl f s).time.pinLastEdge = s.time.pinLastEdge := by
  induction l generalizing s with
  | nil => rfl
  | cons a rest ih => exact (ih _).trans (h s a)

/-- The count that each running time base takes of an edge (13 R390). -/
theorem unreported_countEach (k : Nat) (l : List Nat) (s : State) :
    unreported (l.foldl (fun st i => if st.tbOn i then count (tbCtr i k) st else st) s) = unreported s :=
  unreported_foldl (fun s i => by split <;> simp) l s

/-- The reference moves and nothing of the time bases with it (13 R386). -/
theorem unreported_referenceMove (toTbref : Bool) (s : State) :
    unreported (referenceMove toTbref s) = unreported { s with time := { s.time with onTbref := toTbref } } := by
  unfold referenceMove
  dsimp only
  rw [unreported_foldl fun s i => by split <;> simp [raiseTb]]
  split <;> simp

theorem time_referenceMove (toTbref : Bool) (s : State) :
    (referenceMove toTbref s).time = { s.time with onTbref := toTbref } :=
  time_of_unreported (unreported_referenceMove toTbref s)

theorem tele_referenceMove (toTbref : Bool) (s : State) : (referenceMove toTbref s).tele = s.tele :=
  (tele_of_unreported (unreported_referenceMove toTbref s)).trans rfl

theorem now_referenceMove (toTbref : Bool) (s : State) : (referenceMove toTbref s).now = s.now :=
  (now_of_resetPart (resetPart_of_unreported (unreported_referenceMove toTbref s))).trans rfl

/-- The pin's last edge is this one, each running time base counts it, and those that the pin disciplines take it (13
R390). -/
def edgeTaken (pin : Nat) (s : State) : State :=
  (List.range 4).foldl (fun st i =>
      if st.tbOn i then if (st.tbCfg i).source = 2 + pin then ppsDiscipline i st else st else st)
    ((List.range 4).foldl (fun st i => if st.tbOn i then count (tbCtr i 2) st else st)
      { s with time := { s.time with pinLastEdge := s.time.pinLastEdge.set pin (some s.now) } })

theorem pinLastEdge_edgeTaken (pin : Nat) (s : State) :
    (edgeTaken pin s).time.pinLastEdge = s.time.pinLastEdge.set pin (some s.now) := by
  unfold edgeTaken
  rw [pinLastEdge_foldl fun s i => ?_, time_of_unreported (unreported_countEach 2 _ _)]
  (repeat' split)
  · exact pinLastEdge_ppsDiscipline i s
  · rfl
  · rfl

/-- An ordinary clock's message as it stands ready on a port (13 R394, R400). -/
def State.ownReady (s : State) (tb : Nat) (event : Bool) (p : Nat) : PtpWaiting :=
  let frame := s.ownFrame p event (s.ownMessage tb (s.ownType tb event))
  { port := p, tb := tb, isEvent := event, transport := (s.cfg.ptpPorts.getD p {}).transport, offset := frame.2,
    frame := frame.1, ingressAt := s.now, ingressShadow := 0, residence := 0, own := true }

/-! What each event comes to. -/

/-- A port that may send arbitrates once its last frame has gone (13 R400). -/
theorem exec_launchGrant_up {s : State} {p : Fin 8} (hup : (s.port p.val).state = .up)
    (hremote : (s.port p.val).remoteFault = false) (hlocal : (s.port p.val).localFault = false)
    (hblock : s.blockInReset 79 = false) :
    exec (.launchGrant p) s = .next (arbitrate p.val (advance (s.port p.val).sendingUntil s)) := by
  change execLaunchGrant p s = _
  simp [execLaunchGrant, hup, hremote, hlocal, hblock]

/-- A TIMED head whose instant has come is granted first (13 R400). -/
theorem arbitrate_timed {s : State} {port q : Nat} {p : LaunchPacket}
    (h : s.earliest port ((s.timedHeads port).filter fun x =>
      decide (s.grantInstant port x.2 ≤ s.tbValue (s.launchCfg port x.1).tb)) = some (q, p)) :
    arbitrate port s = grantTimed port q p s := by
  simp only [arbitrate, h]

/-- With no TIMED head and no message, an IMMEDIATE packet goes (13 R400). -/
theorem arbitrate_immediate {s : State} {port q : Nat} {p : LaunchPacket} (htimed : s.timedHeads port = [])
    (hwaiting : s.time.waiting = []) (h : s.immediateHead port = some (q, p)) :
    arbitrate port s = sendQueued port q p s := by
  simp [arbitrate, htimed, hwaiting, h, State.earliest, State.fitsBefore]

/-- An edge at least 500 ms behind the pin's last, of a pulse of 100 ns or more, is accepted (13 R390). -/
theorem exec_ppsInEdge_accepted {s : State} {pin : Fin 2} {falling : Bool} {w : Nat} (hrun : s.running = true)
    (hon : (s.cfg.pps.getD (4 + pin.val) {}).enable = true)
    (hedge : (s.cfg.pps.getD (4 + pin.val) {}).falling = falling) (hwide : 100 ≤ w)
    (hfar : ∀ t, s.time.pinLastEdge.getD pin.val none = some t → t + 500000000 ≤ s.now) :
    exec (.ppsInEdge pin falling w) s = .next (edgeTaken pin.val s) := by
  change execPpsInEdge pin falling w s = _
  cases hlast : s.time.pinLastEdge.getD pin.val none with
  | none => simp [execPpsInEdge, edgeTaken, hon, hedge, hrun, hlast, Nat.not_lt.mpr hwide, -List.getD_eq_getElem?_getD]
  | some t =>
    simp [execPpsInEdge, edgeTaken, hon, hedge, hrun, hlast, Nat.not_lt.mpr hwide, Nat.not_lt.mpr (hfar t hlast),
      -List.getD_eq_getElem?_getD]

/-- A pulse under 100 ns is counted and changes no time base (13 R390). -/
theorem exec_ppsInEdge_short {s : State} {pin : Fin 2} {falling : Bool} {w : Nat} (hrun : s.running = true)
    (hon : (s.cfg.pps.getD (4 + pin.val) {}).enable = true)
    (hedge : (s.cfg.pps.getD (4 + pin.val) {}).falling = falling) (hshort : w < 100) :
    ∃ t, exec (.ppsInEdge pin falling w) s = .next t ∧ t.time = s.time := by
  refine ⟨_, rfl, ?_⟩
  simp only [hon, hedge, hrun, hshort, Bool.not_true, bne_self_eq_false, Bool.or_false,
    Bool.false_eq_true, if_false, decide_true, Bool.or_true, if_true]
  exact time_of_unreported (unreported_countEach 3 _ _)

/-- Settles O33: each event is its rule where its guards hold. -/
theorem timeEventsComplete : Obligations.TimeEventsComplete := by
  unfold Obligations.TimeEventsComplete
  refine ⟨?timed, ?immediate, ?out, ?accepted, ?short, ?ppsLost, ?ptpLost, ?expired, ?startup, ?loss, ?restore, ?set, ?send⟩
  case timed =>
    rintro s p _ q k hup hremote hlocal hblock rfl hhead
    rw [exec_launchGrant_up hup hremote hlocal hblock, arbitrate_timed hhead]
  case immediate =>
    rintro s p _ q k hup hremote hlocal hblock rfl htimed hwaiting hhead
    rw [exec_launchGrant_up hup hremote hlocal hblock, arbitrate_immediate htimed hwaiting hhead]
  case out =>
    rintro s pin _ rfl hon htb
    refine ⟨_, rfl, ?_⟩
    simp [hon, htb, State.tb, -List.getD_eq_getElem?_getD]
  case accepted =>
    exact fun s pin falling w hrun hon hedge hwide hfar =>
      ⟨_, exec_ppsInEdge_accepted hrun hon hedge hwide hfar, pinLastEdge_edgeTaken ..⟩
  case short => exact fun s pin falling w => exec_ppsInEdge_short
  case ppsLost =>
    intro s i e hsource hstate hedge
    refine ⟨tbLose i.val (advance (e + 1500000000) s), ?_, tbLose_holdover hstate⟩
    change execPpsTimeout i s = _
    simp only [execPpsTimeout, Nat.not_lt.mpr hsource, if_false, hedge]
  case ptpLost =>
    intro s i hsource hstate
    refine ⟨tbLose i.val s, ?_, tbLose_holdover hstate⟩
    change execPtpSourceTimeout i s = _
    simp only [execPtpSourceTimeout, hsource, if_true]
  case expired =>
    intro s p w hrun hfound
    refine ⟨_, rfl, ?_⟩
    simp only [hrun, Bool.and_true, hfound]
    exact ⟨by rw [time_count, advance_time], now_count ..⟩
  case startup =>
    intro s huse hreleased hon
    refine ⟨referenceMove false s, ?_, by rw [time_referenceMove], by rw [time_referenceMove]⟩
    change execTbrefStartupTimeout s = _
    simp [execTbrefStartupTimeout, huse, hreleased, hon]
  case loss =>
    intro s hreleased hon
    refine ⟨_, rfl, ?_⟩
    simp [hreleased, hon, time_referenceMove, tele_referenceMove, now_referenceMove]
  case restore =>
    intro s since huse hreleased hoff hback
    refine ⟨_, rfl, ?_⟩
    simp [huse, hreleased, hoff, hback, time_referenceMove, tele_referenceMove, now_referenceMove]
  case set =>
    intro s i id e hset he
    change execTbAdjustTimeout i s = _
    simp only [execTbAdjustTimeout, hset, Option.bind_some, he]
  case send =>
    intro s i event p hrun hon hrole hport
    refine ⟨drawn { s with time := { s.time with waiting := s.time.waiting ++ [s.ownReady i.val event p] } },
      s.ownReady i.val event p, ?_, rfl, rfl, rfl, rfl, rfl⟩
    change execPtpMessageSend i event s = _
    simp only [execPtpMessageSend, hrun, hon, hrole, hport]
    rfl
end Sys2Proof.Machine

/-! ERROR_INJECT_INTERVAL on a lane in a near-end loopback (14 R436, R454). -/
namespace Sys2Proof.Machine

/-- A lane in a near-end loopback whose checker is locked and which inverts one bit in every 1,000. -/
def loopedLane : Lane :=
  { state := .test, cdrLocked := true, loop := 1, prbsGen := 1, checker := 1, checkerRunning := true, checkerStarted := true,
    checkerLocked := true, injectInterval := 1000 }

/-- A device in DIAGNOSTIC with that lane as its lane 0. -/
def loopedDevice : State :=
  { State.reset with
    mode := { current := .diagnostic, steward := .rhoper }
    lanes := { lanes := State.reset.lanes.lanes.set 0 loopedLane } }

/-- The locked checker of a looped lane counts the inverted bit as well (14 R454). -/
theorem exec_errorInjectInterval_looped :
    exec (.errorInjectInterval 0) loopedDevice = .next (count (laneCtr 0 9) (count (laneCtr 0 11) loopedDevice)) := rfl

/-- Refutes O34: its last clause has the inverted bit advance LANE_ERR_INJECTED alone, on every lane. On a lane in a near-end
loopback the bit comes to the lane's own locked checker, and PRBS_ERR advances with it (14 R436, R454). -/
theorem not_laneEventsComplete : ¬ Obligations.LaneEventsComplete := by
  unfold Obligations.LaneEventsComplete
  rintro ⟨-, -, -, -, -, -, -, -, -, -, hinject⟩
  have halone := hinject loopedDevice 0 (by decide +kernel) (by decide +kernel)
  have hsame := congrArg (·.counter (laneCtr 0 9))
    (Host.Outcome.next.inj (exec_errorInjectInterval_looped.symm.trans halone))
  have hchecked : (count (laneCtr 0 9) (count (laneCtr 0 11) loopedDevice)).counter (laneCtr 0 9) = 1 := by
    decide +kernel
  have hunchecked : (count (laneCtr 0 11) loopedDevice).counter (laneCtr 0 9) = 0 := by decide +kernel
  have hne : (1 : Nat) = 0 := hchecked.symm.trans (hsame.trans hunchecked)
  exact absurd hne (by decide)
end Sys2Proof.Machine

/-! The lane commands (14 R439 to R445). -/
namespace Sys2Proof.Machine

/-! The lanes and the scans under a frame to another member: ACCEPTED may go there (01 R27). -/

/-- The lanes with their scans, and not the links. -/
def laneBank (s : State) : List Lane × List EyeScan := (s.lanes.lanes, s.lanes.scans)

theorem laneBank_of_unreported {s t : State} (h : unreported t = unreported s) : laneBank t = laneBank s :=
  (congrArg laneBank h :)

theorem laneBank_count (c : Ctr) (s : State) : laneBank (count c s) = laneBank s :=
  laneBank_of_unreported (unreported_count c s)

theorem laneBank_setLink (k : Nat) (f : TyLink → TyLink) (s : State) : laneBank (setLink k f s) = laneBank s := rfl

theorem laneBank_linkSend (k : Nat) (f : ReplayFrame) (s : State) : laneBank (linkSend k f s) = laneBank s := by
  unfold linkSend
  rw [laneBank_of_unreported (unreported_countBy ..), laneBank_count, laneBank_setLink]

theorem laneBank_tyRoute (f : ReplayFrame) (s : State) : laneBank (tyRoute f s) = laneBank s := by
  unfold tyRoute
  dsimp only
  (repeat' split) <;> simp only [laneBank_linkSend, laneBank_setLink, laneBank_count]

theorem laneBank_tell (dest : Nat) (m : StewardMessage) (s : State) : laneBank (tell dest m s) = laneBank s :=
  laneBank_tyRoute _ s

theorem laneBank_postTo (src : Source) (cc : Nat) (discard : Bool) (op : Nat) (tag : BitVec 16) (status : Byte)
    (extra result : Nat) (data : List Byte) (s : State) :
    laneBank (postTo src cc discard op tag status extra result data s) = laneBank s := by
  cases src with
  | cq q j => cases discard with
    | true => exact laneBank_count _ s
    | false => exact laneBank_of_unreported (unreported_writeCompletion _ _ s)
  | dmb => cases discard with
    | true => exact laneBank_count _ s
    | false => exact laneBank_of_unreported (unreported_issue _ s)
  | mgmt => rfl
  | peer n ask => exact laneBank_tell _ _ s

theorem laneBank_postAccepted (op : Op) (src : Source) (cc : Nat) (discard noAccepted : Bool) (tag : BitVec 16)
    (extra : Nat) (s : State) : laneBank (postAccepted op src cc discard noAccepted tag extra s) = laneBank s := by
  unfold postAccepted
  dsimp only
  (repeat' split)
  · exact laneBank_postTo ..
  · rfl
  · exact laneBank_tell _ _ s
  · rfl

theorem laneBank_foldl {α : Type} {f : State → α → State} (h : ∀ s a, laneBank (f s a) = laneBank s) (l : List α)
    (s : State) : laneBank (l.foldl f s) = laneBank s := by
  induction l generalizing s with
  | nil => rfl
  | cons a rest ih => exact (ih _).trans (h s a)

theorem laneBank_accept (e : Entry) (s : State) : laneBank (accept e s) = laneBank s := by
  unfold accept
  split
  · rfl
  · exact (laneBank_foldl (fun _ _ => laneBank_postAccepted ..) _ _).trans ((laneBank_postAccepted ..).trans rfl)

theorem scans_accept (e : Entry) (s : State) : (accept e s).lanes.scans = s.lanes.scans :=
  congrArg Prod.snd (laneBank_accept e s)

theorem lanes_accept (e : Entry) (s : State) : (accept e s).lanes.lanes = s.lanes.lanes :=
  congrArg Prod.fst (laneBank_accept e s)

/-- The lanes' unit with one more scan under way (14 R441). -/
def withScan (x : EyeScan) (s : State) : State :=
  { s with lanes := { s.lanes with scans := s.lanes.scans ++ [x] } }

/-- Settles O13: each command opens and passes its checks, and its hypotheses choose the branch that is its rule. -/
theorem laneCommandsComplete : Obligations.LaneCommandsComplete := by
  unfold Obligations.LaneCommandsComplete
  refine ⟨?query, ?media, ?table, ?scan, ?loopback, ?generator, ?checker, ?inject⟩
  case query =>
    intro src c s ho ha hquery
    refine take_begin ho ?_
    unfold laneSetBegin
    exact checked_opened ha (if_pos hquery)
  case media =>
    rintro src c s _ _ ho ha hquery hlane rfl rfl hinvert hfixed hrx hoff hfreeze
    dsimp only at hinvert hfixed hrx hoff hfreeze
    refine take_begin ho ?_
    unfold laneSetBegin
    refine checked_opened ha ((if_neg ?_).trans ((if_neg ?_).trans ?_))
    · simp [hquery]
    · simp [hlane]
    · simp only [entryOf_cmd, opened_reads_laneCfg, hlane, decide_true, if_true, hfreeze, Bool.false_and,
        Bool.false_eq_true, if_false, hinvert, hfixed, hrx, hoff, bne_self_eq_false, Bool.or_false, opened_cfg]
  case table =>
    rintro src c s _ ho ha hrestart herase rfl
    refine take_begin ho ?_
    unfold laneEqTableSetBegin
    refine checked_opened ha ((if_neg ?_).trans ?_)
    · simp [hrestart]
    · simp only [entryOf_cmd, herase, Bool.false_eq_true, if_false]
      rfl
  case scan =>
    intro src c s ho ha hscannable hroom
    refine ⟨withScan ⟨s.cmds.nextId, prmByte c 16, prmByte c 17, prmByte c 18, prmByte c 19, prm c 24 8,
      gridPoints (prmByte c 17) (prmByte c 18), 0, false⟩ (accept (entryOf .eyeScan src c s) (opened .eyeScan src c s)),
      take_begin ho ?_, ?_, lanes_accept ..⟩
    · unfold eyeScanBegin
      refine checked_opened ha ((if_neg ?_).trans ((if_neg ?_).trans rfl))
      · simp [hscannable]
      · simpa using hroom
    · rw [withScan, scans_accept, opened_lanes]
  case loopback =>
    intro src c s ho ha
    refine take_begin ho ?_
    unfold laneLoopbackBegin
    exact checked_opened ha rfl
  case generator =>
    intro src c s ho ha hon hloop
    refine take_begin ho ?_
    unfold prbsSetBegin
    refine checked_opened ha (if_neg ?_)
    simpa using ⟨hon, hloop⟩
  case checker =>
    rintro src c s _ _ ho ha hop rfl rfl
    refine take_begin ho ?_
    unfold prbsCheckBegin
    exact checked_opened ha (if_pos hop)
  case inject =>
    intro src c s ho ha hon
    refine take_begin ho ?_
    unfold errorInjectBegin
    exact checked_opened ha (if_neg hon)
end Sys2Proof.Machine

/-! The cluster's commands (15 R477 to R480). -/
namespace Sys2Proof.Machine

theorem badOffset_eq_none_iff {cs : List Check} : badOffset cs = none ↔ ∀ x ∈ cs, x = none :=
  List.findSome?_eq_none_iff

theorem need_true (o : Nat) : need o true = none := rfl

/-- The device itself leaves: RESET is 0, as R478 has it for NODE 0xFF (15 R478). -/
theorem clusterLeaveBegin_self {e : Entry} {s : State} (hm : s.mode.current ∈ [Mode.standby, .diagnostic])
    (hc : badOffset [within e.cmd 17 1 0 2, reservedBytes e.cmd 18 64] = none) (hself : prmByte e.cmd 16 = 255)
    (hstays : prmByte e.cmd 17 = 0) (hsessions : s.tables.sessions = []) (hview : s.cluster.view = none) :
    clusterLeaveBegin e s = finish e stDone [] (setSize 1 s) := by
  rw [badOffset_eq_none_iff] at hc
  simp only [List.mem_cons, List.not_mem_nil, or_false, forall_eq_or_imp, forall_eq] at hc
  obtain ⟨hreset, hreserved⟩ := hc
  unfold clusterLeaveBegin
  rw [checked_pass]
  · simp [hself, hsessions, hview]
  · simpa [leavesSelf, hself, hstays] using hm
  · simp [badOffset_eq_none_iff, hself, hstays, hreset, hreserved, need_true]

/-- A member told to reset, with its 10 ms begun (15 R478). -/
def expelling (e : Entry) (s : State) : State :=
  let s1 := tySend (prmByte e.cmd 16) (.reset (prmByte e.cmd 17 == 1)) 1 s
  { s1 with cluster := { s1.cluster with leaveWait := some (e.id, prmByte e.cmd 16, s1.now) } }

/-- Another member is told to reset, where a route goes to it (15 R478). -/
theorem clusterLeaveBegin_other {e : Entry} {s : State} (hm : s.mode.current ∈ runModes)
    (hc : badOffset [within e.cmd 17 1 1 2, reservedBytes e.cmd 18 64] = none) (hmember : prmByte e.cmd 16 ≤ 15)
    (hother : prmByte e.cmd 16 ≠ s.node) (hroute : (s.route (prmByte e.cmd 16)).isSome = true) :
    clusterLeaveBegin e s = expelling e s := by
  rw [badOffset_eq_none_iff] at hc
  simp only [List.mem_cons, List.not_mem_nil, or_false, forall_eq_or_imp, forall_eq] at hc
  obtain ⟨hreset, hreserved⟩ := hc
  have hrange : 1 ≤ prm e.cmd 17 1 ∧ prm e.cmd 17 1 ≤ 2 := by simpa [within, need] using hreset
  have hnotAll : prmByte e.cmd 16 ≠ 255 := by omega
  have hnonzero : prmByte e.cmd 17 ≠ 0 := Nat.pos_iff_ne_zero.mp hrange.1
  unfold clusterLeaveBegin
  rw [checked_pass]
  · have hfound : (s.route (prmByte e.cmd 16)).isNone = false := by simpa using hroute
    simp only [hnotAll, hfound, if_false, Bool.false_eq_true]
    rfl
  · simpa [leavesSelf, hnotAll] using hm
  · simp [badOffset_eq_none_iff, hnotAll, hnonzero, hreserved, hmember, hother, within, need, hrange.2]

/-- Settles O14: each command opens and passes its checks, and its hypotheses choose the branch that is its rule. -/
theorem clusterCommandsComplete : Obligations.ClusterCommandsComplete := by
  unfold Obligations.ClusterCommandsComplete
  refine ⟨?join, ?leave, ?expel, ?status, ?migrate⟩
  case join =>
    intro src c s ho ha hnode hsessions hsize
    refine take_begin ho ?_
    unfold clusterJoinBegin
    refine checked_opened ha ((if_neg ?_).trans (if_neg hsize))
    simpa [hsessions] using hnode
  case leave =>
    intro src c s ho ha hself hstays hsessions hview
    obtain ⟨hm, hc⟩ := accepts_iff.mp ha
    exact take_begin ho (clusterLeaveBegin_self (e := entryOf .clusterLeave src c s)
      (s := opened .clusterLeave src c s) hm hc hself hstays hsessions hview)
  case expel =>
    rintro src c s _ ho ha rfl hmember hother hroute
    obtain ⟨hm, hc⟩ := accepts_iff.mp ha
    refine ⟨_, take_begin ho (clusterLeaveBegin_other (e := entryOf .clusterLeave src c s)
      (s := opened .clusterLeave src c s) hm hc hmember hother hroute), ?_, rfl⟩
    simp only [expelling, entryOf_cmd, entryOf_id, tySend, now_of_resetPart (resetPart_tyRoute _ _), opened_now]
  case status =>
    intro src c s ho ha
    refine take_begin ho ?_
    unfold clusterStatusBegin
    exact checked_opened ha rfl
  case migrate =>
    intro src c s ch ho ha _ hch hrun hconf hnode hother hpeer
    refine take_begin ho ?_
    unfold channelMigrateBegin
    refine checked_opened ha ((onChannel_here (s := opened .channelMigrate src c s) hch).trans ?_)
    have htarget : prmByte (entryOf .channelMigrate src c s).cmd 20 ≠ 255 := hnode
    simp only [migrateHere, htarget, if_false, hrun, hconf, Option.isSome_none, Bool.false_eq_true, or_self]
    exact (if_neg hother).trans (if_neg (not_not.mpr hpeer))
end Sys2Proof.Machine

/-! The Tylane links' own events (15 R459, R460, R464, R465). -/
namespace Sys2Proof.Machine

/-! A link in its bring-up, and what traffic leaves of a link's state and delay. -/

/-- A link in training is one of the block's. -/
theorem lt_links_of_training {s : State} {k : Nat} (h : (s.tyLink k).state = .training) : k < s.lanes.links.length := by
  by_contra hk
  have hnone : s.lanes.links.getD k {} = {} := List.getD_eq_default _ _ (Nat.le_of_not_lt hk)
  rw [State.tyLink, hnone] at h
  cases h

/-- Two changes of a link are the same where they agree on the link as it is. -/
theorem setLink_congr {s : State} {k : Nat} {f g : TyLink → TyLink} (h : f (s.tyLink k) = g (s.tyLink k)) :
    setLink k f s = setLink k g s := by
  simp only [setLink, upd_congr h]

/-- The state and the delay of a link: what its frames leave alone. -/
def State.lineOf (s : State) (k : Nat) : TyLinkCode × Nat := ((s.tyLink k).state, (s.tyLink k).delayPs)

theorem lineOf_setLink {f : TyLink → TyLink} (hstate : ∀ l, (f l).state = l.state)
    (hdelay : ∀ l, (f l).delayPs = l.delayPs) (j : Nat) (s : State) (k : Nat) :
    (setLink j f s).lineOf k = s.lineOf k := by
  simp only [State.lineOf, State.tyLink, setLink_lanes, upd, List.getD_eq_getElem?_getD, List.getElem?_modify]
  cases s.lanes.links[k]? with
  | none => rfl
  | some l =>
    by_cases h : j = k
    · simp [h, hstate, hdelay]
    · simp [h]

theorem lineOf_count (c : Ctr) (s : State) (k : Nat) : (count c s).lineOf k = s.lineOf k := by
  simp only [State.lineOf, tyLink_count]

theorem lineOf_linkSend (j : Nat) (f : ReplayFrame) (s : State) (k : Nat) :
    (linkSend j f s).lineOf k = s.lineOf k := by
  rw [linkSend, State.lineOf, tyLink_countBy, ← State.lineOf, lineOf_count]
  apply lineOf_setLink <;> exact fun _ => rfl

theorem lineOf_linkDrain (j : Nat) (frames : List ReplayFrame) (s : State) (k : Nat) :
    (linkDrain j frames s).lineOf k = s.lineOf k := by
  induction frames generalizing s with
  | nil => rfl
  | cons f rest ih =>
    unfold linkDrain
    split
    · rw [ih, lineOf_linkSend, lineOf_setLink] <;> exact fun _ => rfl
    · rfl

theorem lineOf_waits (j : Nat) (f : ReplayFrame) (s : State) (k : Nat) :
    (setLink j (fun l => { l with waiting := l.waiting ++ [f] }) s).lineOf k = s.lineOf k := by
  apply lineOf_setLink <;> exact fun _ => rfl

theorem lineOf_tyRoute (f : ReplayFrame) (s : State) (k : Nat) : (tyRoute f s).lineOf k = s.lineOf k := by
  unfold tyRoute
  dsimp only
  (repeat' split) <;> simp only [lineOf_linkSend, lineOf_waits, lineOf_count]

theorem lineOf_bootRequest (j : Nat) (s : State) (k : Nat) : (bootRequest j s).lineOf k = s.lineOf k := by
  unfold bootRequest
  split
  · exact (lineOf_tyRoute ..).trans rfl
  · rfl

/-- A link that comes up is UP with the delay of its probes (15 R465). -/
theorem lineOf_linkUp {s : State} {k : Nat} (delay : Nat) (hk : k < s.lanes.links.length) :
    (linkUp k delay s).lineOf k = (.up, delay) := by
  rw [linkUp, lineOf_bootRequest, linkFlush, lineOf_linkDrain]
  change State.lineOf (setLink k _ s) k = _
  rw [State.lineOf, tyLink_setLink_same _ hk]

/-- With nothing waiting and no NAK, an acknowledgement frees the frames before it and takes the partner's buffer (15 R459 to
R461). -/
theorem ackPart_quiet {s : State} {k : Nat} {h : TyHeader} (hk : k < s.lanes.links.length) (hnak : h.nak = false)
    (hwait : (s.tyLink k).waiting = []) :
    ackPart k h s = ackFrames k h.ack (setLink k (fun l => { l with buffer := h.buffer }) s) := by
  obtain ⟨left, n, hacked⟩ :=
    tyLink_ackFrames (s := setLink k (fun l => { l with buffer := h.buffer }) s) h.ack (by simpa [upd] using hk)
  rw [tyLink_setLink_same _ hk] at hacked
  simp [ackPart, hnak, linkFlush, hacked, hwait, linkDrain]

/-- A replay with progress still to be hoped for sends the frames again and counts (15 R460). -/
theorem replayCount_replay {s : State} {k : Nat} {f : ReplayFrame} {rest : List ReplayFrame}
    (hk : k < s.lanes.links.length) (hframes : (s.tyLink k).replay = f :: rest) (hfew : (s.tyLink k).replayCount < 4) :
    (replay k s).now = s.now ∧ ((replay k s).tyLink k).replayCount = (s.tyLink k).replayCount + 1 := by
  simp only [replay, hframes, List.isEmpty_cons, Bool.false_eq_true, if_false, Nat.not_le.mpr hfew]
  exact ⟨now_count .., by rw [tyLink_count, tyLink_setLink_same _ hk]⟩

/-! What each event comes to. -/

/-- The link of a device whose eight lanes are READY takes its width, or finds the wrong partner (15 R464). -/
theorem exec_tylaneLinkBringup_ready {s : State} {k : Fin 4} (w : Byte) (htraining : (s.tyLink k.val).state = .training)
    (hwidth : (s.tyLink k.val).width = 0) (hlow : s.halfReady k.val 0 = true) (hhigh : s.halfReady k.val 1 = true) :
    exec (.tylaneLinkBringup k w) s =
      .next (if w ≠ s.partnerWord k.val then wiringError k.val s else linkWidth k.val 8 0xFF s) := by
  change execTylaneLinkBringup k w s = _
  simp [execTylaneLinkBringup, htraining, hwidth, hlow, hhigh]

/-- One half alone is READY: the link comes up on it (15 R464). -/
theorem exec_linkHalfTimeout_half {s : State} {k : Fin 4} {low : Bool} (htraining : (s.tyLink k.val).state = .training)
    (hwidth : (s.tyLink k.val).width = 0) (hlow : s.halfReady k.val 0 = low) (hhigh : s.halfReady k.val 1 = !low) :
    exec (.linkHalfTimeout k (s.partnerWord k.val)) s = .next (linkWidth k.val 4 (if low then 0 else 1)
      (advance ((s.tyLink k.val).trainingSince + 100000000) s)) := by
  change execLinkHalfTimeout k _ s = _
  cases low <;> simp [execLinkHalfTimeout, htraining, hwidth, hlow, hhigh]

/-- A probe of a link that has its width: the least delay so far, and the link up with it on the sixteenth (15 R465). -/
theorem exec_tylaneDelayProbe_training {s : State} {k : Fin 4} {t1 t2 t3 t4 d best : Nat}
    (htraining : (s.tyLink k.val).state = .training) (hwidth : (s.tyLink k.val).width ≠ 0)
    (hd : d = ((t4 - t1) - (t3 - t2)) / 2)
    (hbest : best = if (s.tyLink k.val).probes = 0 then d else min d (s.tyLink k.val).probeMin) :
    exec (.tylaneDelayProbe k t1 t2 t3 t4) s = .next (if (s.tyLink k.val).probes + 1 < 16
      then setLink k.val (fun l => { l with probes := l.probes + 1, probeMin := best }) s
      else linkUp k.val best s) := by
  subst hd hbest
  change execTylaneDelayProbe k t1 t2 t3 t4 s = _
  simp only [execTylaneDelayProbe, htraining, hwidth, ne_eq, not_true, or_self, if_false]

/-- Settles O35: each event is its rule where its guards hold. -/
theorem tylaneLinkEventsComplete : Obligations.TylaneLinkEventsComplete := by
  unfold Obligations.TylaneLinkEventsComplete
  refine ⟨?bringup, ?wrong, ?half, ?retry, ?probe, ?up, ?acked, ?broken, ?timeout⟩
  case bringup =>
    rintro s k _ htraining hwidth hlow hhigh rfl
    rw [exec_tylaneLinkBringup_ready _ htraining hwidth hlow hhigh, if_neg (not_not.mpr rfl), linkWidth]
  case wrong =>
    intro s k w htraining hwidth hlow hhigh hw
    refine ⟨wiringError k.val s, ?_, ?_⟩
    · rw [exec_tylaneLinkBringup_ready w htraining hwidth hlow hhigh, if_pos hw]
    · rw [wiringError, tyLink_count, tyLink_setLink_same _ (lt_links_of_training htraining)]
  case half =>
    rintro s k _ low htraining hwidth hlow hhigh rfl
    rw [exec_linkHalfTimeout_half htraining hwidth hlow hhigh, linkWidth]
  case retry =>
    exact fun s k hwiring => congrArg Host.Outcome.next (if_pos hwiring)
  case probe =>
    rintro s k t1 t2 t3 t4 _ d rfl htraining hwidth hprobes hd
    rw [exec_tylaneDelayProbe_training htraining hwidth hd rfl, if_pos hprobes]
    exact congrArg Host.Outcome.next (setLink_congr rfl)
  case up =>
    rintro s k t1 t2 t3 t4 _ d rfl htraining hwidth hprobes hd
    refine ⟨linkUp k.val (min d (s.tyLink k.val).probeMin) s, ?_, ?_⟩
    · rw [exec_tylaneDelayProbe_training htraining hwidth hd rfl, if_neg (by omega), if_neg (by omega)]
    · exact Prod.mk.inj (lineOf_linkUp _ (lt_links_of_training htraining))
  case acked =>
    intro s k h hup hpins hcrc hnak hwait
    change execTylaneAck k h s = _
    simp only [execTylaneAck, hup, hpins, hcrc, ne_eq, not_true, Bool.false_eq_true, or_self, if_false, Bool.not_true,
      ackPart_quiet (lt_links_of_up hup) hnak hwait]
  case broken =>
    intro s k h hup hpins hcrc
    refine ⟨setLink k.val (fun l => { l with nakOwed := true }) (count (tylaneCtr k.val 4) s), ?_, ?_⟩
    · change execTylaneAck k h s = _
      simp [execTylaneAck, hup, hpins, hcrc]
    · rw [tyLink_setLink_same _ (lt_links_of_up (by rwa [tyLink_count])), tyLink_count]
      exact ⟨rfl, rfl⟩
  case timeout =>
    intro s k f rest hup hframes hfew
    refine ⟨replay k.val (advance (f.sentAt + 10000) s), ?_, replayCount_replay (lt_links_of_up hup) hframes hfew⟩
    change execTylaneReplayTimeout k s = _
    simp only [execTylaneReplayTimeout, hframes, hup, if_true]
end Sys2Proof.Machine

/-! What the Teller, the engines and the commands' completions leave of the cluster and of each channel's place (01 R17;
08 R239; 07 R195). -/
namespace Sys2Proof.Machine

/-- The clock, what this node knows of the cluster, and where each channel runs. -/
def roster (s : State) : Nat × Cluster × List (Nat × Nat × ChannelState) :=
  (s.now, s.cluster, s.voice.channels.map fun ch => (ch.id, ch.engine, ch.state))

@[simp] theorem roster_ite (p : Prop) [Decidable p] (a b : State) :
    roster (if p then a else b) = if p then roster a else roster b :=
  apply_ite roster p a b

theorem roster_foldl {α : Type} {f : State → α → State} (h : ∀ s a, roster (f s a) = roster s) (l : List α)
    (s : State) : roster (l.foldl f s) = roster s := by
  induction l generalizing s with
  | nil => rfl
  | cons a rest ih => exact (ih _).trans (h s a)

theorem roster_of_unreported {s t : State} (h : unreported t = unreported s) : roster t = roster s :=
  (congrArg roster h :)

theorem roster_of_offLanes {s t : State} (h : offLanes t = offLanes s) : roster t = roster s :=
  (congrArg roster h :)

theorem roster_of_offReport {s t : State} (h : offReport t = offReport s) : roster t = roster s :=
  (congrArg roster h :)

@[simp] theorem roster_count (c : Ctr) (s : State) : roster (count c s) = roster s :=
  roster_of_unreported (unreported_count c s)

@[simp] theorem roster_countBy (c : Ctr) (n : Nat) (s : State) : roster (countBy c n s) = roster s :=
  roster_of_unreported (unreported_countBy c n s)

@[simp] theorem roster_raise (code : Nat) (fields : List Fld) (s : State) : roster (raise code fields s) = roster s :=
  roster_of_unreported (unreported_raise code fields s)

@[simp] theorem roster_tySend (dest : Nat) (p : TyPayload) (octets : Nat) (s : State) :
    roster (tySend dest p octets s) = roster s :=
  roster_of_offLanes (offLanes_tyRoute _ s)

@[simp] theorem roster_tell (dest : Nat) (m : StewardMessage) (s : State) : roster (tell dest m s) = roster s :=
  roster_tySend ..

@[simp] theorem roster_finish (e : Entry) (status : Byte) (result : List Fld) (s : State) :
    roster (finish e status result s) = roster s :=
  roster_of_offReport (offReport_finish e status result s)

@[simp] theorem roster_setEntry (id : Nat) (f : Entry → Entry) (s : State) : roster (setEntry id f s) = roster s := rfl

/-- A change of a channel that leaves its place. -/
theorem roster_setChannel {f : Channel → Channel}
    (h : ∀ ch, ((f ch).id, (f ch).engine, (f ch).state) = (ch.id, ch.engine, ch.state)) (id : Nat) (s : State) :
    roster (setChannel id f s) = roster s := by
  simp only [roster, setChannel, List.map_map]
  congr 3
  funext ch
  simp only [Function.comp_apply]
  split
  · exact h ch
  · rfl

@[simp] theorem roster_setLeg (id : Nat) (l : Leg) (f : LegState → LegState) (s : State) :
    roster (setLeg id l f s) = roster s :=
  roster_setChannel (fun ch => by cases l <;> rfl) id s

@[simp] theorem roster_logFault (kind unitType unitIndex cause cnt channel address : Nat) (s : State) :
    roster (logFault kind unitType unitIndex cause cnt channel address s) = roster s := by
  have hput : ∀ o b u, roster (rmemPut o b u) = roster u := fun _ _ _ => rfl
  have hfaults : ∀ f, roster { s with faults := f } = roster s := fun _ => rfl
  simp [logFault, crashAppend, hput, hfaults]

/-! The Teller's commits (01 R17). -/

@[simp] theorem roster_setSession (i : Nat) (f : Session → Session) (s : State) :
    roster (setSession i f s) = roster s := rfl

@[simp] theorem roster_putStation (x : Station) (s : State) : roster (putStation x s) = roster s := rfl

@[simp] theorem roster_freeSession (h : Nat) (x : Session) (s : State) : roster (freeSession h x s) = roster s := by
  unfold freeSession cacheDrop
  dsimp only
  rw [roster_countBy]
  split <;> rfl

@[simp] theorem roster_sendMembers (k : StationKey) (s : State) : roster (sendMembers k s) = roster s :=
  roster_foldl (fun s n => roster_tell n _ s) _ s

@[simp] theorem roster_commitSighting (k : StationKey) (node port seenAt : Nat) (s : State) :
    roster (commitSighting k node port seenAt s) = roster s := by
  unfold commitSighting
  dsimp only
  (repeat' split) <;> simp

@[simp] theorem roster_commitRequest (r : TellerRequest) (s : State) :
    roster (commitRequest commitSighting r s) = roster s := by
  cases r with
  | latch h epoch owner ip port =>
    simp only [commitRequest, commitLatch, staleRequest, raiseLatched]
    (repeat' split) <;> simp
  | unlatch h epoch =>
    simp only [commitRequest, commitUnlatch, staleRequest]
    (repeat' split) <;> simp
  | bind h channel l node =>
    simp only [commitRequest, commitBind]
    (repeat' split) <;> simp
  | release h channel =>
    simp only [commitRequest, commitRelease]
    (repeat' split) <;> simp
  | accepted h period =>
    simp only [commitRequest, commitAccepted, staleRequest]
    split <;> simp
  | deleteSession h =>
    simp only [commitRequest]
    (repeat' split) <;> simp
  | sighting k node port seenAt => exact roster_commitSighting ..

@[simp] theorem roster_tellerStep (s : State) : roster (tellerStep s) = roster s := by
  unfold tellerStep
  split
  · rfl
  · exact (roster_commitRequest _ _).trans rfl

@[simp] theorem roster_commitAll (reqs : List (Nat × TellerRequest)) (s : State) :
    roster (commitAll reqs s) = roster s := by
  refine roster_foldl (fun s r => ?_) reqs s
  unfold commitAt
  split
  · exact (roster_commitRequest _ _).trans (roster_foldl (fun s _ => roster_tellerStep s) _ s)
  · exact roster_tell ..

/-! Long-running commands (07 R205; 16 R506). -/

@[simp] theorem roster_settleAborts (id : Nat) (status : Byte) (s : State) :
    roster (settleAborts id status s) = roster s := by
  unfold settleAborts
  apply roster_foldl
  exact fun s e => roster_finish e status [] s

@[simp] theorem roster_finishJob (e : Entry) (status : Byte) (result : List Fld) (s : State) :
    roster (finishJob e status result s) = roster s := by
  rw [finishJob, roster_settleAborts, roster_finish]

@[simp] theorem roster_finishCommitted (e : Entry) (result : Nat) (reqs : List (Nat × TellerRequest)) (s : State) :
    roster (finishCommitted e result reqs s) = roster s := by
  unfold finishCommitted
  dsimp only
  split
  · simp
  · refine (roster_foldl (fun s r => ?_) _ _).trans ?_
    · exact roster_tell ..
    · simp

@[simp] theorem roster_settleRetires (s : State) : roster (settleRetires s) = roster s := by
  refine roster_foldl (fun s e => ?_) _ s
  (repeat' split) <;> simp

@[simp] theorem roster_endMove (m : OutMove) (status : Byte) (s : State) : roster (endMove m status s) = roster s := by
  unfold endMove
  split <;> simp

/-! Frames that are lost, and the engines' lists (08 R238, R239, R243, R245). -/

@[simp] theorem roster_setEngine (e : Nat) (f : Engine → Engine) (s : State) : roster (setEngine e f s) = roster s := rfl

@[simp] theorem roster_takeDescriptor (s : State) : roster (takeDescriptor s) = roster s := rfl

@[simp] theorem roster_concealLeg (ch : Channel) (l : Leg) (frame : Nat) (s : State) :
    roster (concealLeg ch l frame s) = roster s := by
  simp [concealLeg]

@[simp] theorem roster_settleMove (id : Nat) (s : State) : roster (settleMove id s) = roster s := by
  have hsettled : roster (setChannel id (fun x => { x with move := none }) s) = roster s := by
    refine roster_setChannel ?_ id s
    exact fun _ => rfl
  unfold settleMove raiseMoved
  dsimp only
  (repeat' split) <;> simp [hsettled]

@[simp] theorem roster_loseFrame (id frame engine : Nat) (s : State) : roster (loseFrame id frame engine s) = roster s := by
  unfold loseFrame
  split
  · simp
  · dsimp only
    rw [roster_settleMove, roster_setChannel (f := Channel.lostOne) fun _ => rfl]
    simp

@[simp] theorem roster_readyRestore (id engine frame : Nat) (s : State) :
    roster (readyRestore id engine frame s) = roster s := by
  simp [readyRestore, readyTransient, pushTask]

@[simp] theorem roster_startSlice (e : Nat) (s : State) : roster (startSlice e s) = roster s := by
  simp [startSlice]

@[simp] theorem roster_chargeGrant (cls res n : Nat) (s : State) : roster (chargeGrant cls res n s) = roster s :=
  roster_of_unreported (unreported_chargeGrant cls res n s)

@[simp] theorem roster_setBalance (cls res : Nat) (f : Balance → Balance) (s : State) :
    roster (setBalance cls res f s) = roster s := rfl

@[simp] theorem roster_collectAskers (s : State) : roster (collectAskers s) = roster s := rfl

@[simp] theorem roster_resumeParked (s : State) (e : Nat) : roster (resumeParked e s) = roster s := by
  unfold resumeParked
  dsimp only
  split <;> simp

@[simp] theorem roster_dispatchGrant (cls : Nat) (s : State) : roster (dispatchGrant cls s) = roster s := by
  unfold dispatchGrant grantTask
  dsimp only
  (repeat' split) <;> simp

@[simp] theorem roster_grantSome (n : Nat) (s : State) : roster (grantSome n s) = roster s := by
  induction n generalizing s with
  | zero => rfl
  | succ n ih =>
    unfold grantSome
    dsimp only
    (repeat' split) <;> simp [ih]

@[simp] theorem roster_grantAll (s : State) : roster (grantAll s) = roster s := by
  unfold grantAll
  dsimp only
  split
  · rfl
  · exact (roster_grantSome _ _).trans (roster_foldl roster_resumeParked _ s)
end Sys2Proof.Machine

/-! The cluster's events: heartbeats, views and the moves of channels (15 R467, R468, R473, R474, R478). -/
namespace Sys2Proof.Machine

theorem now_of_roster {s t : State} (h : roster t = roster s) : t.now = s.now :=
  (congrArg Prod.fst h :)

theorem cluster_of_roster {s t : State} (h : roster t = roster s) : t.cluster = s.cluster :=
  (congrArg (·.2.1) h :)

/-- The channels of a state are those of another. -/
theorem ids_of_roster {s t : State} (h : roster t = roster s) :
    t.voice.channels.map (·.id) = s.voice.channels.map (·.id) := by
  have hplaces := congrArg (·.2.2.map Prod.fst) h
  simpa [roster, Function.comp_def] using hplaces

/-! What a move's end and a change of view leave of the clock and of what each member has been heard to say. -/

/-- The clock, and what this node has heard of each member (15 R467). -/
def hearing (s : State) : Nat × List Peer := (s.now, s.cluster.peers)

theorem hearing_of_roster {s t : State} (h : roster t = roster s) : hearing t = hearing s :=
  (congrArg (fun r : Nat × Cluster × List (Nat × Nat × ChannelState) => (r.1, r.2.1.peers)) h :)

theorem hearing_foldl {α : Type} {f : State → α → State} (h : ∀ s a, hearing (f s a) = hearing s) (l : List α)
    (s : State) : hearing (l.foldl f s) = hearing s := by
  induction l generalizing s with
  | nil => rfl
  | cons a rest ih => exact (ih _).trans (h s a)

theorem hearing_setChannel (id : Nat) (f : Channel → Channel) (s : State) : hearing (setChannel id f s) = hearing s :=
  Prod.ext rfl rfl

theorem hearing_removeChannel (ch : Channel) (s : State) : hearing (removeChannel ch s) = hearing s := by
  simp only [hearing, removeChannel, loadChanged, eraseLegCounters, leaveConference, dropTasks]

theorem hearing_placeHere (ch : Channel) (engine cause lost : Nat) (restore : Bool) (s : State) :
    hearing (placeHere ch engine cause lost restore s) = hearing s := by
  cases restore with
  | false => rfl
  | true => exact (hearing_of_roster (roster_readyRestore ch.id engine s.alw.frame _)).trans (hearing_setChannel ..)

theorem hearing_silenceLeg (ch : Channel) (s : State) : hearing (silenceLeg ch s) = hearing s := by
  unfold silenceLeg
  split <;> rfl

theorem hearing_suspend (ch : Channel) (s : State) : hearing (suspend ch s) = hearing s := by
  have hload : ∀ u, hearing (loadChanged u) = hearing u := fun _ => rfl
  rw [suspend, hload, hearing_of_roster (roster_raise ..), hearing_of_roster (roster_logFault ..),
    hearing_of_roster (roster_count ..), hearing_setChannel, hearing_silenceLeg]
  rfl

theorem hearing_dropMove (ch : Channel) (m : OutMove) (status : Byte) (s : State) :
    hearing (dropMove ch m status s) = hearing s := by
  have hended : ∀ u, hearing (endMove m status (setChannel ch.id u s)) = hearing s := fun u =>
    (hearing_of_roster (roster_endMove ..)).trans (hearing_setChannel ..)
  unfold dropMove
  dsimp only
  (repeat' split)
  · exact (hearing_placeHere ..).trans (hended _)
  · exact (hearing_suspend ..).trans (hended _)
  · exact hended _
  · exact hended _

theorem hearing_failMove (ch : Channel) (m : OutMove) (s : State) : hearing (failMove ch m s) = hearing s := by
  refine (hearing_dropMove ..).trans (hearing_of_roster ?_)
  simp

theorem hearing_moveLost (n : Nat) (s : State) (ch : Channel) : hearing (moveLost n s ch) = hearing s := by
  unfold moveLost
  (repeat' split)
  · exact hearing_failMove ..
  · rfl
  · exact hearing_removeChannel ..
  · rfl

/-! Views (15 R468, R469). -/

theorem roster_nodeLost (old : List Nat) (n : Nat) (s : State) : roster (nodeLost old n s) = roster s := rfl

theorem roster_raiseMember (epoch : Nat) (members : BitVec 16) (node change lost groups : Nat) (s : State) :
    roster (raiseMember epoch members node change lost groups s) = roster s :=
  roster_raise ..

/-- The cluster's knowledge with a view in force (15 R468). -/
def Cluster.withView (x : Cluster) (v : ClusterView) : Cluster :=
  { x with view := some v, hadView := true, previousLowest := lowestMember v.members, epochSeen := max v.epoch x.epochSeen }

/-- A view that comes into force is what the cluster's knowledge changes by. -/
theorem roster_installView (v : ClusterView) (s : State) :
    roster (installView v s) = roster { s with cluster := s.cluster.withView v } := by
  have hlost : ∀ (map : List Nat) (groups : Nat) (u : State) (n : Nat),
      roster (drawn (raiseMember v.epoch v.members n 1 (u.freeAt 45) groups (nodeLost map n u))) = roster u :=
    fun map groups u n => (roster_raiseMember ..).trans (roster_nodeLost ..)
  unfold installView
  dsimp only
  rw [roster_ite, raiseKing, roster_raise, ite_self]
  rw [roster_foldl fun u n => hlost _ _ u n, roster_foldl fun u n => roster_raiseMember ..]
  rfl

theorem roster_publish (v : ClusterView) (s : State) : roster (publish v s) = roster s := by
  refine roster_foldl (fun s n => ?_) _ s
  split
  · rfl
  · exact roster_tell ..

theorem roster_sendView (s : State) : roster (sendView s) = roster s := by
  unfold sendView
  split
  · rfl
  · exact roster_publish ..

theorem hearing_clearSessions (s : State) : hearing (clearSessions s) = hearing s :=
  hearing_of_roster (roster_foldl (fun s x => roster_freeSession _ x s) _ s)

theorem hearing_outsideView (s : State) : hearing (outsideView s) = hearing s := by
  unfold outsideView
  split
  · rfl
  · dsimp only
    rw [hearing_of_roster (roster_raiseMember ..)]
    refine Eq.trans (b := hearing (count (nodeCtr 1) (clearSessions
      (s.voice.channels.foldl (fun st ch => removeChannel ch st) s)))) rfl ?_
    rw [hearing_of_roster (roster_count ..), hearing_clearSessions,
      hearing_foldl fun s ch => hearing_removeChannel ch s]

theorem hearing_kingUpdate (s : State) : hearing (kingUpdate s) = hearing s := by
  have hinside : ∀ v, hearing (sendView (installView v s)) = hearing s := fun v =>
    (hearing_of_roster ((roster_sendView _).trans (roster_installView v s))).trans rfl
  have houtside : ∀ v, hearing (publish v (outsideView s)) = hearing s := fun v =>
    (hearing_of_roster (roster_publish ..)).trans (hearing_outsideView s)
  unfold kingUpdate
  dsimp only
  simp only [apply_ite hearing, hinside, houtside, ite_self]

/-! A coordinator (15 R468). -/

/-- Its view is up to date: nothing changes. -/
theorem kingUpdate_upToDate {s : State} {v : ClusterView} (hview : s.cluster.view = some v)
    (hmembers : v.members = s.heardMask) (hking : v.king = s.node) : kingUpdate s = s := by
  simp [kingUpdate, hview, hmembers, hking]

/-- The view that a coordinator forms first (15 R468, R471). -/
def State.firstView (s : State) : ClusterView :=
  { epoch := s.cluster.epochSeen + 1, king := s.node, members := s.heardMask, homeMap := s.nextMap s.heardMask }

/-- It has no view and hears enough members: one comes into force and goes out. -/
theorem kingUpdate_first {s : State} (hking : s.isKing = true) (hview : s.cluster.view = none)
    (halone : s.viewElsewhere = false) (henough : s.enough s.heardMask = true) :
    kingUpdate s = sendView (installView s.firstView s) := by
  simp [kingUpdate, hking, hview, halone, henough, State.firstView]

theorem view_sendView_installView (v : ClusterView) (s : State) :
    (sendView (installView v s)).cluster.view = some v :=
  congrArg Cluster.view (cluster_of_roster ((roster_sendView _).trans (roster_installView v s)))

/-! A move's commit point (15 R473). -/

theorem not_mem_ids_removeChannel (ch : Channel) (s : State) :
    ch.id ∉ (removeChannel ch s).voice.channels.map (·.id) := by
  intro hmem
  obtain ⟨c, hc, hid⟩ := List.mem_map.mp hmem
  have hother := (List.mem_filter.mp hc).2
  simp [hid] at hother

/-- The channel that has moved is no longer here. -/
theorem not_mem_ids_commitMove (ch : Channel) (m : OutMove) (s : State) :
    ch.id ∉ (commitMove ch m s).voice.channels.map (·.id) := by
  have hgone : ch.id ∉ (count (nodeCtr 2) (emptyConference ch (removeChannel ch
      (tell m.target (.moveCommit (BitVec.ofNat 32 ch.id) ch.engine m.lost) s)))).voice.channels.map (·.id) := by
    rw [ids_of_roster (roster_count ..)]
    exact not_mem_ids_removeChannel ch _
  unfold commitMove
  dsimp only
  rw [ids_of_roster (roster_settleRetires _)]
  split
  · rw [ids_of_roster (roster_finishCommitted ..)]
    exact hgone
  · rw [ids_of_roster (roster_commitAll ..)]
    exact hgone

theorem roster_startMove (ch : Channel) (target cause lost : Nat) (entry : Option Nat) (s : State) :
    roster (startMove ch target cause lost entry s) = roster s := by
  refine (roster_tell ..).trans (roster_setChannel ?_ ch.id s)
  exact fun _ => rfl

/-- A member unheard is known no more (15 R467, R469). -/
theorem hearing_unheard (n : Nat) (s : State) :
    hearing (unheard n s) = (s.now, upd s.cluster.peers n fun _ => {}) := by
  unfold unheard
  dsimp only
  rw [hearing_kingUpdate, hearing_foldl (hearing_moveLost n)]
  rfl

theorem heardAt_upd_unknown (l : List Peer) (n : Nat) : ((upd l n fun _ => {}).getD n {}).heardAt = none := by
  simp only [upd, List.getD_eq_getElem?_getD, List.getElem?_modify, if_true]
  cases l[n]? <;> rfl

/-- A device that drains, before its next move: what has started within the second, with what starts now (15 R474). -/
def drainStarting (ch : Channel) (s : State) : State :=
  { s with cluster := { s.cluster with
    drainStarts := (s.cluster.drainStarts.filter fun t => decide (s.now < t + 1000000000))
      ++ (s.moveGroup ch).map fun _ => s.now,
    drainRetry := s.cluster.drainRetry.filter fun r => r.1 != ch.id } }

/-- The next channel that drains starts its move with its conference's other legs (15 R474). -/
theorem exec_drainMoveStart_next {s : State} {ch : Channel} {n : Nat} (hmode : s.mode.current = .drain)
    (hauto : s.mode.autoStandby = true) (hnext : (s.drainOrder.find? fun c => !s.drainHeld c.id) = some ch)
    (htarget : s.chooseTarget ch = some n)
    (hroom : (s.cluster.drainStarts.filter fun t => decide (s.now < t + 1000000000)) = [] ∨
      (s.cluster.drainStarts.filter fun t => decide (s.now < t + 1000000000)).length + (s.moveGroup ch).length ≤ 32) :
    exec .drainMoveStart s =
      .next ((s.moveGroup ch).foldl (fun st x => startMove x n 2 0 none st) (drainStarting ch s)) := by
  change execDrainMoveStart s = _
  have hfits : ¬ ((!(s.cluster.drainStarts.filter fun t => decide (s.now < t + 1000000000)).isEmpty) = true ∧
      32 < (s.cluster.drainStarts.filter fun t => decide (s.now < t + 1000000000)).length
        + (s.moveGroup ch).length) := by
    rintro ⟨hbusy, hmany⟩
    obtain hnone | hfew := hroom
    · simp [hnone] at hbusy
    · omega
  simp only [execDrainMoveStart, hmode, hauto, hnext, htarget, hfits, ne_eq, not_true, Bool.not_true, or_self,
    Bool.false_eq_true, if_false]
  rfl

/-- Settles O37: each event is its rule where its guards hold. -/
theorem clusterEventsComplete : Obligations.ClusterEventsComplete := by
  unfold Obligations.ClusterEventsComplete
  refine ⟨?heartbeat, ?unheard, ?sent, ?formed, ?moved, ?drain, ?left⟩
  case heartbeat => exact fun s hjoined => congrArg Host.Outcome.next (if_pos hjoined)
  case unheard =>
    intro s n at_ hheard hjoined
    refine ⟨unheard n.val (advance (at_ + 5000000) s), ?_, ?_⟩
    · change execNodeUnheard n s = _
      simp only [execNodeUnheard, hheard, hjoined, if_true]
    · have hknown := hearing_unheard n.val (advance (at_ + 5000000) s)
      obtain ⟨hnow, hpeers⟩ := Prod.mk.inj hknown
      exact ⟨by rw [hpeers]; exact heardAt_upd_unknown .., hnow⟩
  case sent =>
    intro s v hking hview hmembers hself
    change execViewPublish s = _
    simp only [execViewPublish, hking, if_true, kingUpdate_upToDate hview hmembers hself]
  case formed =>
    intro s hking hview halone henough
    refine ⟨sendView (kingUpdate s), ?_, ?_⟩
    · change execViewPublish s = _
      simp only [execViewPublish, hking, if_true]
    · rw [congrArg Cluster.view (cluster_of_roster (roster_sendView _)), kingUpdate_first hking hview halone henough,
        view_sendView_installView, State.firstView]
  case moved =>
    intro s id ch m hch hmove hadmitted hcopied
    refine ⟨commitMove ch m s, ?_, fun c hc hid => not_mem_ids_commitMove ch m s (hid ▸ List.mem_map_of_mem hc)⟩
    change execMigrationCopyAck id s = _
    simp only [execMigrationCopyAck, copyAcked, hch, hmove, hadmitted, hcopied, Bool.and_self, if_true]
  case drain =>
    intro s ch n hmode hauto hnext htarget hroom
    refine ⟨_, exec_drainMoveStart_next hmode hauto hnext htarget hroom, ?_⟩
    rw [cluster_of_roster (roster_foldl (fun st x => ?_) _ _)]
    · rfl
    · exact roster_startMove ..
  case left =>
    intro s id n at_ hwait
    refine ⟨_, rfl, ?_⟩
    simp only [hwait]
    split
    · exact ⟨by rw [cluster_of_roster (roster_finish ..)]; rfl, now_of_roster (roster_finish ..)⟩
    · exact ⟨rfl, rfl⟩
end Sys2Proof.Machine

/-! Memory errors and their repair, the log's flush, and the placement of a suspended channel (16 R497 to R499, R502). -/
namespace Sys2Proof.Machine

/-- The memory rows in repair: Till's with an error and its spares, Vault's with an error, those under repair and how many
have been repaired (16 R498, R499). -/
def rowPart (s : State) : List Nat × List Nat × List Nat × List Nat × Nat :=
  (s.faults.tillRows, s.faults.tillSpares, s.faults.vaultRows, s.faults.vaultBusy, s.faults.vaultRepairs)

theorem rowPart_of_unreported {s t : State} (h : unreported t = unreported s) : rowPart t = rowPart s :=
  (congrArg rowPart h :)

theorem faults_count (c : Ctr) (s : State) : (count c s).faults = s.faults :=
  (congrArg State.faults (unreported_count c s) :)

theorem rowPart_count (c : Ctr) (s : State) : rowPart (count c s) = rowPart s :=
  rowPart_of_unreported (unreported_count c s)

theorem rowPart_logFault (kind unitType unitIndex cause cnt channel address : Nat) (s : State) :
    rowPart (logFault kind unitType unitIndex cause cnt channel address s) = rowPart s := by
  have hput : ∀ o b u, rowPart (rmemPut o b u) = rowPart u := fun _ _ _ => rfl
  have hone : ∀ r u, rowPart (crashAppend r u) = rowPart u := fun r u => by simp only [crashAppend, hput]
  unfold logFault
  dsimp only
  simp only [apply_ite rowPart, rowPart_count, hone]
  (repeat' split) <;> rfl

theorem rowPart_countWorn (w : LedgerWrite) (s : State) : rowPart (countWorn w s) = rowPart s := by
  unfold countWorn
  split
  · exact rowPart_count ..
  · exact rowPart_count ..
  · rfl

theorem rowPart_countWorns (skipped : List LedgerWrite) (s : State) :
    rowPart (skipped.foldl (fun st w => countWorn w st) s) = rowPart s := by
  induction skipped generalizing s with
  | nil => rfl
  | cons w rest ih => exact (ih _).trans (rowPart_countWorn w s)

theorem rowPart_rhoperPut (word value : Nat) (s : State) : rowPart (rhoperPut word value s) = rowPart s := by
  unfold rhoperPut ledgerPut ledgerStart
  dsimp only
  split
  · rfl
  · exact (rowPart_countWorns ..).trans rfl

theorem rowPart_wearCopy (res n : Nat) (s : State) : rowPart (wearCopy res n s) = rowPart s := rfl

theorem rowPart_raiseUnitRetired (unitType cause index repaired : Nat) (s : State) :
    rowPart (raiseUnitRetired unitType cause index repaired s) = rowPart s :=
  rowPart_of_unreported (unreported_raise ..)

/-! Till's rows (16 R498). -/

/-- A row's second error repairs it. -/
theorem exec_till_second {s : State} {r : Fin 32768} (a : Nat) (hrun : s.tallyRuns = true)
    (hnoted : r.val ∈ s.faults.tillRows) (hspared : r.val + 32768 ∉ s.faults.tillRows) :
    exec (.tillUncorrectableError r a) s = .next (repairTillRow r.val a (count (devCtr 8) s)) := by
  change execTillUncorrectableError r a s = _
  simp only [execTillUncorrectableError, hrun, hnoted, hspared, Bool.not_true, Bool.false_eq_true, if_false,
    not_false_eq_true, and_self, if_true]

/-- A spare row takes the place of the row, which is no longer one with an error. -/
theorem rowPart_repairTillRow_spare {row : Nat} (address : Nat) {s : State} (h : s.faults.tillSpares.length < 256) :
    rowPart (repairTillRow row address s) = (s.faults.tillRows.filter fun x => x != row, s.faults.tillSpares ++ [row],
      s.faults.vaultRows, s.faults.vaultBusy, s.faults.vaultRepairs) := by
  have hlogged := rowPart_logFault 2 2 row 3 (256 - s.faults.tillSpares.length) 0 address s
  unfold repairTillRow
  dsimp only
  rw [if_pos h, rowPart_raiseUnitRetired, rowPart_logFault, rowPart_wearCopy, rowPart_rhoperPut, rowPart_count]
  exact congrArg (fun p : List Nat × List Nat × List Nat × List Nat × Nat =>
    (p.1.filter fun x => x != row, p.2.1 ++ [row], p.2.2)) hlogged

/-- With no spare left the row stays in service. -/
theorem rowPart_repairTillRow_none {row : Nat} (address : Nat) {s : State} (h : 256 ≤ s.faults.tillSpares.length) :
    rowPart (repairTillRow row address s) = (s.faults.tillRows ++ [row + 32768], (rowPart s).2) := by
  have hlogged := rowPart_logFault 2 2 row 3 (256 - s.faults.tillSpares.length) 0 address s
  unfold repairTillRow
  dsimp only
  rw [if_neg (Nat.not_lt.mpr h), rowPart_raiseUnitRetired, rowPart_count]
  exact congrArg (fun p : List Nat × List Nat × List Nat × List Nat × Nat => (p.1 ++ [row + 32768], p.2)) hlogged

/-! Vault's rows (16 R499). -/

/-- A row's second error repairs it, where the bank has a repair left. -/
theorem exec_vault_second {s : State} {r : Nat} (a : Nat) (left : Bool) (hrun : s.tallyRuns = true)
    (hnoted : r ∈ s.faults.vaultRows) (hspared : r + 4294967296 ∉ s.faults.vaultRows) :
    exec (.vaultUncorrectableError r a left) s = .next (repairVaultRow r a left (count (devCtr 10) s)) := by
  change execVaultUncorrectableError r a left s = _
  simp only [execVaultUncorrectableError, hrun, hnoted, hspared, Bool.not_true, Bool.false_eq_true, if_false,
    not_false_eq_true, and_self, if_true]

/-- The repair of the row begins. -/
theorem rowPart_repairVaultRow_left (row address : Nat) (s : State) :
    rowPart (repairVaultRow row address true s) = (s.faults.tillRows, s.faults.tillSpares,
      s.faults.vaultRows.filter fun x => x != row, s.faults.vaultBusy ++ [row], s.faults.vaultRepairs + 1) := by
  have hlogged := rowPart_logFault 2 3 row 4 0 0 address s
  unfold repairVaultRow
  dsimp only
  rw [if_pos rfl, rowPart_raiseUnitRetired, rowPart_logFault, rowPart_wearCopy, rowPart_rhoperPut, rowPart_count]
  exact congrArg (fun p : List Nat × List Nat × List Nat × List Nat × Nat =>
    (p.1, p.2.1, p.2.2.1.filter fun x => x != row, p.2.2.2.1 ++ [row], p.2.2.2.2 + 1)) hlogged

/-- With no repair left the row stays in service. -/
theorem rowPart_repairVaultRow_none (row address : Nat) (s : State) :
    rowPart (repairVaultRow row address false s) = (s.faults.tillRows, s.faults.tillSpares,
      s.faults.vaultRows ++ [row + 4294967296], s.faults.vaultBusy, s.faults.vaultRepairs) := by
  have hlogged := rowPart_logFault 2 3 row 4 0 0 address s
  unfold repairVaultRow
  dsimp only
  rw [if_neg Bool.false_ne_true, rowPart_raiseUnitRetired, rowPart_count]
  exact congrArg (fun p : List Nat × List Nat × List Nat × List Nat × Nat =>
    (p.1, p.2.1, p.2.2.1 ++ [row + 4294967296], p.2.2.2)) hlogged

/-! A row's first error is noted (16 R498, R499). -/

/-- The state behind a Till row's first error. -/
def tillNoted (row address : Nat) (s : State) : State :=
  logFault 1 2 row 3 0 0 address { count (devCtr 8) s with
    faults := { (count (devCtr 8) s).faults with tillRows := s.faults.tillRows ++ [row] } }

theorem exec_till_first {s : State} {r : Fin 32768} (a : Nat) (hrun : s.tallyRuns = true)
    (hnew : r.val ∉ s.faults.tillRows) : exec (.tillUncorrectableError r a) s = .next (tillNoted r.val a s) := by
  change execTillUncorrectableError r a s = _
  simp only [execTillUncorrectableError, hrun, hnew, Bool.not_true, Bool.false_eq_true, if_false, false_and, tillNoted]

theorem rowPart_tillNoted (row address : Nat) (s : State) :
    rowPart (tillNoted row address s) = (s.faults.tillRows ++ [row], (rowPart s).2) := by
  rw [tillNoted, rowPart_logFault]
  exact congrArg (fun p : List Nat × List Nat × List Nat × List Nat × Nat => (s.faults.tillRows ++ [row], p.2))
    (rowPart_count (devCtr 8) s)

/-- The state behind a Vault row's first error. -/
def vaultNoted (row address : Nat) (s : State) : State :=
  logFault 1 3 row 4 0 0 address { count (devCtr 10) s with
    faults := { (count (devCtr 10) s).faults with vaultRows := s.faults.vaultRows ++ [row] } }

theorem exec_vault_first {s : State} {r : Nat} (a : Nat) (left : Bool) (hrun : s.tallyRuns = true)
    (hnew : r ∉ s.faults.vaultRows) : exec (.vaultUncorrectableError r a left) s = .next (vaultNoted r a s) := by
  change execVaultUncorrectableError r a left s = _
  simp only [execVaultUncorrectableError, hrun, hnew, Bool.not_true, Bool.false_eq_true, if_false, false_and, vaultNoted]

theorem rowPart_vaultNoted (row address : Nat) (s : State) :
    rowPart (vaultNoted row address s) = (s.faults.tillRows, s.faults.tillSpares, s.faults.vaultRows ++ [row],
      s.faults.vaultBusy, s.faults.vaultRepairs) := by
  rw [vaultNoted, rowPart_logFault]
  exact congrArg (fun p : List Nat × List Nat × List Nat × List Nat × Nat =>
    (p.1, p.2.1, s.faults.vaultRows ++ [row], p.2.2.2)) (rowPart_count (devCtr 10) s)

/-! The log's flush and the suspended channels (16 R497, R502). -/

/-- The write of a page of staged records is asked for, while none is waiting or under way. -/
theorem flushRequest_staged {s : State} (hstaged : s.faults.staged ≠ [])
    (hidle : ((s.balance 7 3).waiting.any fun r => r.job == .faultLog) = false)
    (hfree : (s.alw.flashBusy.any fun r => r.job == .faultLog) = false) :
    flushRequest s = setBalance 7 3 (fun b => { b with
      waiting := b.waiting ++ [{ size := 64 * min 4 s.faults.staged.length, job := .faultLog }] }) s := by
  have hwaiting : ((s.alw.balances.getD (4 * 7 + 3) {}).waiting.any fun r => r.job == .faultLog) = false := hidle
  unfold flushRequest
  rw [if_neg (by simpa using hstaged)]
  dsimp only
  refine (if_neg ?_).trans rfl
  rw [hwaiting]
  cases hbusy : s.alw.flashBusy with
  | none => simp
  | some r => simpa [hbusy] using hfree

/-- A channel placed with a frame to restore runs on its engine, and no other channel's place changes. -/
theorem roster_placeHere_restore (ch : Channel) (engine cause lost : Nat) (s : State) :
    ∃ f : Channel → Channel, (∀ x, (f x).id = x.id ∧ (f x).engine = engine ∧ (f x).state = .running) ∧
      roster (placeHere ch engine cause lost true s) = roster (setChannel ch.id f s) := by
  refine ⟨_, ?_, roster_readyRestore ch.id engine s.alw.frame _⟩
  exact fun x => ⟨rfl, rfl, rfl⟩

/-- Where a placed channel stands: on its engine, running. -/
theorem placed_of_placeHere {ch : Channel} {engine cause lost : Nat} {s t : State}
    (ht : roster t = roster (placeHere ch engine cause lost true s)) :
    ∀ c ∈ t.voice.channels, c.id = ch.id → c.engine = engine ∧ c.state = .running := by
  intro c hc hid
  obtain ⟨f, hf, hroster⟩ := roster_placeHere_restore ch engine cause lost s
  have hplace : (c.id, c.engine, c.state) ∈ (roster t).2.2 := List.mem_map.mpr ⟨c, hc, rfl⟩
  rw [ht, hroster] at hplace
  simp only [roster, setChannel, List.map_map, List.mem_map, Function.comp_apply, Prod.mk.injEq] at hplace
  obtain ⟨x, -, hxid, hxengine, hxstate⟩ := hplace
  obtain ⟨hfid, hfengine, hfstate⟩ := hf x
  by_cases hx : x.id = ch.id
  · rw [if_pos hx] at hxengine hxstate
    exact ⟨hxengine.symm.trans hfengine, hxstate.symm.trans hfstate⟩
  · rw [if_neg hx] at hxid
    exact absurd (hxid.trans hid) hx

/-- A suspended channel that alone waits for a place, and has one. -/
theorem retrySuspended_one {s : State} {ch : Channel} {e : Nat}
    (halone : (s.voice.channels.filter fun c => c.state = .suspended) = [ch]) (hstays : ch.outMove = none)
    (hplace : s.placement ch = some e) :
    ∃ u, retrySuspended s = logFault 6 0 ch.id 0 0 ch.id 0 (placeHere ch e 3 0 true u) := by
  unfold retrySuspended
  rw [halone]
  simp only [sortBy, List.foldr_cons, List.foldr_nil, insertBy, List.foldl_cons, List.foldl_nil, hstays, hplace,
    Option.isSome_none, Bool.false_eq_true, if_false]
  exact ⟨_, rfl⟩

/-- Settles O29: each event is its rule where its guards hold. -/
theorem memoryRepairComplete : Obligations.MemoryRepairComplete := by
  unfold Obligations.MemoryRepairComplete
  refine ⟨?tillFirst, ?tillSecond, ?tillSpent, ?vaultFirst, ?vaultSecond, ?vaultSpent, ?repaired, ?flush, ?placed⟩
  case tillFirst =>
    intro s r a hrun hnew
    have hrows := rowPart_tillNoted r.val a s
    simp only [rowPart, Prod.mk.injEq] at hrows
    obtain ⟨htill, hspares, -⟩ := hrows
    exact ⟨_, exec_till_first a hrun hnew, htill, hspares⟩
  case tillSecond =>
    intro s r a hrun hnoted hspared hfew
    have hrows := rowPart_repairTillRow_spare (row := r.val) a (s := count (devCtr 8) s) (by rwa [faults_count])
    simp only [rowPart, faults_count, Prod.mk.injEq] at hrows
    obtain ⟨htill, hspares, -⟩ := hrows
    exact ⟨_, exec_till_second a hrun hnoted hspared, hspares, htill⟩
  case tillSpent =>
    intro s r a hrun hnoted hspared hnone
    have hrows := rowPart_repairTillRow_none (row := r.val) a (s := count (devCtr 8) s) (by rwa [faults_count])
    simp only [rowPart, faults_count, Prod.mk.injEq] at hrows
    obtain ⟨-, hspares, -⟩ := hrows
    exact ⟨_, exec_till_second a hrun hnoted hspared, hspares⟩
  case vaultFirst =>
    intro s r a left hrun hnew
    have hrows := rowPart_vaultNoted r a s
    simp only [rowPart, Prod.mk.injEq] at hrows
    obtain ⟨-, -, hvault, hbusy, hrepairs⟩ := hrows
    exact ⟨_, exec_vault_first a left hrun hnew, hvault, hbusy, hrepairs⟩
  case vaultSecond =>
    intro s r a hrun hnoted hspared
    have hrows := rowPart_repairVaultRow_left r a (count (devCtr 10) s)
    simp only [rowPart, faults_count, Prod.mk.injEq] at hrows
    obtain ⟨-, -, hvault, hbusy, hrepairs⟩ := hrows
    exact ⟨_, exec_vault_second a true hrun hnoted hspared, hbusy, hrepairs, hvault⟩
  case vaultSpent =>
    intro s r a hrun hnoted hspared
    have hrows := rowPart_repairVaultRow_none r a (count (devCtr 10) s)
    simp only [rowPart, faults_count, Prod.mk.injEq] at hrows
    obtain ⟨-, -, -, hbusy, hrepairs⟩ := hrows
    exact ⟨_, exec_vault_second a false hrun hnoted hspared, hbusy, hrepairs⟩
  case repaired =>
    exact fun s r hrun => congrArg Host.Outcome.next (if_pos hrun)
  case flush =>
    intro s hrun hstaged hidle hfree
    change execFaultLogFlush s = _
    rw [execFaultLogFlush, if_pos hrun, flushRequest_staged hstaged hidle hfree]
  case placed =>
    intro s ch e hmode halone hstays hplace
    obtain ⟨u, hretry⟩ := retrySuspended_one halone hstays hplace
    refine ⟨grantAll (retrySuspended s), congrArg Host.Outcome.next (if_pos hmode), placed_of_placeHere
      (cause := 3) (lost := 0) (s := u) ?_⟩
    rw [roster_grantAll, hretry, roster_logFault]
end Sys2Proof.Machine

/-! The Ledger's, the calibration's and the images' commands (17 R527 to R531, R538 to R544). -/
namespace Sys2Proof.Machine

/-- While Rhoper runs, an activation that is not refused names a flash slot (17 Table 17-9). -/
theorem slot_of_activates {s : State} {c : Cmd} (hrun : s.mode.current ∈ runModes) (h : s.activateDenied c = false) :
    prmByte c 16 ≠ 2 ∧ s.mode.current ≠ .recovery := by
  have hrecovery : s.mode.current ≠ .recovery := fun hmode => by simp [hmode, runModes] at hrun
  have hloader : s.mode.current ≠ .loader := fun hmode => by simp [hmode, runModes] at hrun
  refine ⟨fun hslot => ?_, hrecovery⟩
  simp [State.activateDenied, hrecovery, hloader, hslot] at h

/-- While Rhoper runs, an activation verifies the slot's image again and writes BOOT_CTRL (17 R529). -/
theorem imageActivateBegin_running {e : Entry} {s : State} (hm : s.mode.current ∈ runModes)
    (hc : badOffset (activateChecks e.cmd) = none) (hmode : (accept e s).mode = s.mode)
    (hserves : (accept e s).activateDenied e.cmd = false) (hgood : (accept e s).slotVerifies (prmByte e.cmd 16) = true) :
    imageActivateBegin e s = writeWords e ((accept e s).activateWords e.cmd) (accept e s) := by
  have hreason : imageReason ((accept e s).slot (prmByte e.cmd 16)).header ((accept e s).slot (prmByte e.cmd 16)).body
      (accept e s).fuseSv = 0 := eq_of_beq hgood
  obtain ⟨hslot, hrecovery⟩ := slot_of_activates (by rwa [hmode]) hserves
  unfold imageActivateBegin
  rw [checked_pass (by simp [hm]) hc]
  simp only [hserves, hslot, hrecovery, hreason, false_and, ne_eq, not_true, Bool.false_eq_true, if_false]

/-- Settles O15: each command opens and passes its checks, and its hypotheses choose the branch that is its rule. -/
theorem storageCommandsComplete : Obligations.StorageCommandsComplete := by
  unfold Obligations.StorageCommandsComplete
  refine ⟨?ledger, ?calibrate, ?inline, ?fetched, ?verify, ?activate, ?confirm, ?status⟩
  case ledger =>
    intro src c s ho ha
    refine take_begin ho ?_
    unfold ledgerStatusBegin
    exact checked_opened ha rfl
  case calibrate =>
    rintro src c s _ ho rfl ha hset
    refine take_begin ho ?_
    unfold calOffsetSetBegin
    refine checked_opened ha (if_neg ?_)
    simp [hset]
  case inline =>
    intro src c s ho ha hallowed hnext hinline
    refine take_begin ho ?_
    unfold imageDownloadBegin
    refine (if_neg ?_).trans (checked_opened ha ((if_neg ?_).trans ((if_neg ?_).trans (if_pos hinline))))
    · simp [hinline]
    · simpa using hallowed
    · rintro ⟨hbody, hother⟩
      exact hother (hnext hbody)
  case fetched =>
    intro src c s ho hsource ha hallowed hnext hinline
    refine take_begin ho ?_
    unfold imageDownloadBegin
    refine (if_neg ?_).trans (checked_opened ha ((if_neg ?_).trans ((if_neg ?_).trans (if_neg ?_))))
    · simp [hsource]
    · simpa using hallowed
    · rintro ⟨hbody, hother⟩
      exact hother (hnext hbody)
    · simp [hinline]
  case verify =>
    rintro src c s h _ ho ha rfl hreason
    refine take_begin ho ?_
    unfold imageVerifyBegin
    refine checked_opened ha ?_
    simp only [entryOf_cmd, hreason, ne_eq, not_true, if_false]
  case activate =>
    rintro src c s _ ho ha rfl hmode hserves hgood
    obtain ⟨hm, hc⟩ := accepts_iff.mp ha
    exact take_begin ho (imageActivateBegin_running (e := entryOf .imageActivate src c s)
      (s := opened .imageActivate src c s) hm hc hmode hserves hgood)
  case confirm =>
    intro src c s ho ha htrial hreset hnext hreadable
    refine take_begin ho ?_
    unfold imageConfirmBegin
    refine checked_opened ha ((if_neg ?_).trans ((if_neg ?_).trans rfl))
    · simp [htrial, hreset, hnext]
    · simpa using hreadable
  case status =>
    intro src c s ho ha
    refine take_begin ho ?_
    unfold imageStatusBegin
    exact checked_opened ha rfl
end Sys2Proof.Machine

/-! The management target: the mailbox and the CCCs (18 R555 to R557). -/
namespace Sys2Proof.Machine

/-- A Block Write of MB_CMD that is acknowledged fills the mailbox while it is not busy (18 R557). -/
theorem mgmtWrite_command {t : SmbusWrite} {s : State} (hon : s.islandOn = true) (hcode : t.code = 0x10)
    (hack : nack t 64 s = none) (hfree : s.mgmt.busy = false) :
    mgmtWrite t s = { s with mgmt := { s.mgmt with cmd := t.data } } := by
  simp [mgmtWrite, hon, hcode, hack, hfree]

/-- A write of GO to MB_CTRL that is acknowledged submits the mailbox while it is not busy (18 R557). -/
theorem mgmtWrite_go {t : SmbusWrite} {s : State} (hon : s.islandOn = true) (hcode : t.code = 0x11)
    (hack : nack t 1 s = none) (hgo : (t.data.headD 0).getLsbD 0 = true) (hfree : s.mgmt.busy = false) :
    mgmtWrite t s = { s with mgmt := { s.mgmt with busy := true, taken := false } } := by
  simp only [mgmtWrite, hon, hcode, hack, hgo, hfree, Option.getD_none, Bool.not_true, Bool.false_eq_true, if_false,
    if_true]
  rfl

/-- A Block Read of MB_CMPL: DONE stands while fewer than its 32 bytes are read (18 R557). -/
theorem exec_mbCmplRead {s : State} (n : Nat) (hon : s.islandOn = true) :
    exec (.mbCmplRead n) s = .next { s with mgmt := { s.mgmt with
      readback := s.mgmt.cmpl.take n, done := s.mgmt.done && decide (n < 32) } } := by
  change execMbCmplRead n s = _
  simp [execMbCmplRead, hon]

/-- A GET CCC answers once the target has its dynamic address (18 R556). -/
theorem ccc_addressed {bytes : List Byte} {s : State} {a : BitVec 7} (hon : s.islandOn = true)
    (haddress : s.mgmt.dynamic = some a) : ccc bytes s = { s with mgmt := { s.mgmt with readback := bytes } } := by
  simp [ccc, hon, haddress]

/-- Settles O21: each transaction and CCC is its rule where its guards hold; what GETSTATUS answers is the model's free
value. -/
theorem managementTargetComplete : Obligations.ManagementTargetComplete := by
  unfold Obligations.ManagementTargetComplete
  refine ⟨?command, ?go, ?completion, ?part, ?timeout, ?entdaa, ?setdasa, ?rstdaa, ?getpid, ?getbcr, ?getstatus⟩
  case command =>
    exact fun s t hon hcode hack hfree => congrArg Host.Outcome.next (mgmtWrite_command hon hcode hack hfree)
  case go =>
    exact fun s t hon hcode hack hgo hfree => congrArg Host.Outcome.next (mgmtWrite_go hon hcode hack hgo hfree)
  case completion =>
    intro s hon
    simp only [exec_mbCmplRead 32 hon, Nat.lt_irrefl, decide_false, Bool.and_false]
  case part =>
    intro s n hon hn
    simp only [exec_mbCmplRead n hon, hn, decide_true, Bool.and_true]
  case timeout => exact fun s hon => congrArg Host.Outcome.next (if_pos hon)
  case entdaa =>
    intro s a hon hnone
    change execEntdaa a s = _
    simp only [execEntdaa, hon, hnone, Option.isNone_none, Bool.and_self, if_true]
  case setdasa =>
    intro s a hon hnone
    change execSetdasa a s = _
    simp only [execSetdasa, hon, hnone, Option.isNone_none, Bool.and_self, if_true]
  case rstdaa => exact fun s hon => congrArg Host.Outcome.next (if_pos hon)
  case getpid => exact fun s a hon haddress => congrArg Host.Outcome.next (ccc_addressed hon haddress)
  case getbcr =>
    exact fun s a hon haddress => ⟨congrArg Host.Outcome.next (ccc_addressed hon haddress),
      congrArg Host.Outcome.next (ccc_addressed hon haddress)⟩
  case getstatus =>
    exact fun s a hon haddress =>
      congrArg Host.Outcome.next (congrArg drawn (ccc_addressed hon haddress))
end Sys2Proof.Machine

/-! Thermal samples, the debug UART and the TAP (18 R558 to R565). -/
namespace Sys2Proof.Machine

/-! The thermal warning and the trip (18 R560, R561). -/

theorem unreported_raiseThermal (state : Nat) (temps : List (Option Int)) (s : State) :
    unreported (raiseThermal state temps s) = unreported s :=
  unreported_raise ..

theorem mode_of_unreported {s t : State} (h : unreported t = unreported s) : t.mode = s.mode :=
  (congrArg State.mode h :)

/-- What the warning leaves of a sample, and what it leaves alone. -/
theorem unreported_thermalWarn (temps : List (Option Int)) (s : State) :
    ∃ cool warn, unreported (thermalWarn temps s) =
      unreported { s with tele := { s.tele with coolSince := cool, warn := warn } } := by
  unfold thermalWarn
  dsimp only
  generalize (if temps.any (atLeast 800) = true then none else s.tele.coolSince.orElse fun _ => some s.now) = cool
  split
  · refine ⟨cool, true, ?_⟩
    rw [unreported_raiseThermal, unreported_count]
  · exact ⟨cool, s.tele.warn, rfl⟩

/-- The trip counters after a sample (18 R561). -/
def trippingOf (temps : List (Option Int)) (s : State) : List Nat :=
  (List.range 9).map fun k => if atLeast 1000 (temps.getD k none) then s.tele.tripping.getD k 0 + 1 else 0

/-- With every sensor below 125 °C the sample trips nothing. -/
theorem thermalTrip_cool {temps : List (Option Int)} {s : State} (hcool : temps.any (atLeast 1000) = false) :
    ∃ hold, thermalTrip temps s =
      { s with tele := { s.tele with tripping := trippingOf temps s }, power := { s.power with thermalHold := hold } } := by
  have hnone : ((trippingOf temps s).any fun n => decide (2 ≤ n)) = false := by
    simp only [trippingOf, List.any_map, List.any_eq_false, Function.comp_apply, decide_eq_true_eq]
    intro k _
    have hk : atLeast 1000 (temps.getD k none) = false := by
      by_cases h : k < temps.length
      · rw [List.getD_eq_getElem _ _ h]
        exact Bool.eq_false_iff.mpr (List.any_eq_false.mp hcool _ (List.getElem_mem h))
      · rw [List.getD_eq_default _ _ (Nat.le_of_not_lt h)]
        rfl
    simp only [hk, Bool.false_eq_true, if_false]
    omega
  unfold thermalTrip
  rw [← trippingOf]
  dsimp only
  rw [hnone]
  simp only [Bool.false_and, Bool.false_eq_true, if_false]
  split
  · exact ⟨s.power.thermalHold, rfl⟩
  · exact ⟨false, rfl⟩

/-- A sensor at 125 °C or above on two consecutive samples resets the device, which then stays in reset (18 R561). -/
theorem thermalTrip_hot {temps : List (Option Int)} {s : State} {k : Nat} (hk : k < 9)
    (hhot : atLeast 1000 (temps.getD k none) = true) (hagain : 1 ≤ s.tele.tripping.getD k 0)
    (hfree : s.power.thermalHold = false) :
    ∃ u, thermalTrip temps s = { assertReset .thermal false 0 u with
      power := { (assertReset .thermal false 0 u).power with thermalHold := true } } := by
  have htwice : ((trippingOf temps s).any fun n => decide (2 ≤ n)) = true := by
    simp only [trippingOf, List.any_map, List.any_eq_true, Function.comp_apply, decide_eq_true_eq, List.mem_range]
    exact ⟨k, hk, by rw [if_pos hhot]; omega⟩
  unfold thermalTrip
  rw [← trippingOf]
  dsimp only
  rw [htwice, hfree]
  exact ⟨_, if_pos rfl⟩

/-- The readings of a sample, before its warning and its trip (18 R558). -/
def sampled (x : TelemetrySample) (s : State) : State :=
  { s with tele := { s.tele with
    temps := (List.range 9).map fun k => (x.temps.getD k none).map (s.effectiveTemp k),
    rails := (List.range 4).map fun k => s.effectiveRail k (x.rails.getD k 0),
    gpio := x.gpio, refclk := x.refclk, tbref := x.tbref } }

theorem exec_thermalSample (x : TelemetrySample) (s : State) :
    exec (.thermalSample x) s =
      .next (thermalTrip (sampled x s).tele.temps (thermalWarn (sampled x s).tele.temps (sampled x s))) := rfl

/-- Every sensor has read below 100 °C for 1 s: the warning ends (18 R560). -/
theorem exec_thermalWarnClear_warned {s : State} {since : Nat} (hsince : s.tele.coolSince = some since)
    (hwarn : s.tele.warn = true) (hrun : s.rhoper = true) :
    exec .thermalWarnClear s = .next (raiseThermal 0 s.tele.temps { advance (since + 1000000000) s with
      tele := { s.tele with warn := false } }) := by
  change execThermalWarnClear s = _
  unfold execThermalWarnClear
  split
  case h_1 hnone => cases hnone.symm.trans hsince
  case h_2 t ht =>
    cases ht.symm.trans hsince
    exact congrArg Host.Outcome.next (if_neg (by simp [hwarn, hrun]))

/-! The debug UART (18 R565). -/

/-- How many bytes Rhoper has read since the last: a free number of those that wait. -/
def State.uartTaken (s : State) : Nat :=
  if s.rhoper then s.freeAt 111 % (s.testPort.uartRx.length + 1) else 0

/-- A byte that finds room joins those that are left. -/
theorem exec_uartRxByte_room {s : State} (b : Byte) (hruns : s.mode.steward ≠ .stopped)
    (hroom : s.testPort.uartRx.length < 64) :
    exec (.uartRxByte b) s = .next { drawn s with
      testPort := { s.testPort with uartRx := s.testPort.uartRx.drop s.uartTaken ++ [b] } } := by
  have hrx : (if s.rhoper = true then s.testPort.uartRx.drop (s.freeAt 111 % (s.testPort.uartRx.length + 1))
      else s.testPort.uartRx) = s.testPort.uartRx.drop s.uartTaken := by
    unfold State.uartTaken
    split <;> rfl
  have hleft : (s.testPort.uartRx.drop s.uartTaken).length < 64 := by
    rw [List.length_drop]
    omega
  change execUartRxByte b s = _
  simp only [execUartRxByte, hruns, if_false, hrx, hleft, if_true]
  rfl

/-! The pins taken by the TAP (18 R564). -/

theorem testPort_count (c : Ctr) (s : State) : (count c s).testPort = s.testPort :=
  (congrArg State.testPort (unreported_count c s) :)

theorem testPort_logFault (kind unitType unitIndex cause cnt channel address : Nat) (s : State) :
    (logFault kind unitType unitIndex cause cnt channel address s).testPort = s.testPort := by
  unfold logFault crashAppend
  dsimp only
  (repeat' split) <;> simp [testPort_count, rmemPut]

theorem testPort_linkChange (p : Nat) (f : State → State) (s : State) :
    (linkChange p f s).testPort = (f s).testPort := by
  obtain h | h := linkChange_cases p f s
  · rw [h]
  · rw [h, setPort_testPort]

theorem testPort_lockLost (p : Nat) (midFrame : Bool) (s : State) : (lockLost p midFrame s).testPort = s.testPort := by
  unfold lockLost
  dsimp only
  (repeat' split) <;> simp [testPort_count, testPort_linkChange]

theorem testPort_cdrLost (l : Nat) (s : State) : (cdrLost l s).testPort = s.testPort := by
  unfold cdrLost
  dsimp only
  (repeat' split) <;> simp [testPort_count, testPort_logFault]

theorem testPort_foldl {α : Type} {f : State → α → State} (h : ∀ s a, (f s a).testPort = s.testPort) (l : List α)
    (s : State) : (l.foldl f s).testPort = s.testPort := by
  induction l generalizing s with
  | nil => rfl
  | cons a rest ih => exact (ih _).trans (h s a)

theorem lane_setLane_other {l j : Nat} (f : Lane → Lane) (s : State) (h : l ≠ j) :
    (setLane l f s).lane j = s.lane j := by
  simp [State.lane, upd, List.getD_eq_getElem?_getD, h]

/-- A lane that loses its clock recovery, and every lane beside it (14 R432). -/
theorem cdrLocked_cdrLost (l j : Nat) (s : State) :
    ((cdrLost l s).lane j).cdrLocked = if l = j then false else (s.lane j).cdrLocked := by
  unfold cdrLost
  dsimp only
  split
  next hunlocked =>
    split
    next hj => simpa [← hj] using hunlocked
    next => rfl
  next =>
    have hmedia : ∀ u : State, mediaPart (if 8 ≤ l ∧ (s.lane l).state = .ready
        then logFault 1 1 l 11 0 0 0 (count (laneCtr l 0) u) else count (laneCtr l 0) u) = mediaPart u := fun u => by
      simp
    rw [lane_of_mediaPart (hmedia _)]
    split
    next hj =>
      rw [← hj, lane_setLane]
      split <;> rfl
    next hj => rw [lane_setLane_other _ _ hj]

/-- Every lane that loses its clock recovery is without it at the end. -/
theorem cdrLocked_foldl_cdrLost {l : Nat} (lanes : List Nat) (s : State)
    (h : l ∈ lanes ∨ (s.lane l).cdrLocked = false) :
    ((lanes.foldl (fun st j => cdrLost j st) s).lane l).cdrLocked = false := by
  induction lanes generalizing s with
  | nil => exact h.resolve_left (List.not_mem_nil)
  | cons j rest ih =>
    refine ih (cdrLost j s) ?_
    rw [cdrLocked_cdrLost]
    by_cases hj : j = l
    · exact .inr (if_pos hj)
    · rw [if_neg hj]
      exact h.imp_left fun hmem => (List.mem_cons.mp hmem).resolve_left fun heq => hj heq.symm

theorem testPort_takePins (s : State) : (takePins s).testPort = { s.testPort with pinsTaken := true } := by
  unfold takePins
  dsimp only
  rw [testPort_foldl fun s l => testPort_cdrLost l s, testPort_foldl fun s p => testPort_lockLost p false s]

theorem lane_withPins (s : State) (port : Debug) (link : Link) (l : Nat) :
    ({ s with testPort := port, link := link } : State).lane l = s.lane l := rfl

theorem lane_takePins (s : State) (l : Nat) : (takePins s).lane l =
    ((List.range 40).foldl (fun st j => cdrLost j st) ((List.range 8).foldl (fun st p => lockLost p false st) s)).lane l := by
  unfold takePins
  exact lane_withPins ..

theorem cdrLocked_takePins (s : State) {l : Nat} (hl : l < 40) : ((takePins s).lane l).cdrLocked = false := by
  rw [lane_takePins]
  exact cdrLocked_foldl_cdrLost _ _ (.inl (List.mem_range.mpr hl))

/-- An instruction that leaves the pins to the device changes the instruction register alone (18 R562). -/
theorem tapLoad_keepsPins {ir : BitVec 8} (s : State) (h : takesPins ir = false) :
    tapLoad ir s = { s with testPort := { s.testPort with ir := ir } } := by
  simp [tapLoad, h]

/-- An instruction that takes the pins: with them taken, nothing of the device's own is locked any more (18 R564). -/
theorem tapLoad_takesPins {ir : BitVec 8} (s : State) (h : takesPins ir = true) :
    (tapLoad ir s).testPort.ir = ir ∧ (tapLoad ir s).testPort.pinsTaken = true ∧
      (s.testPort.pinsTaken = false → (tapLoad ir s).link.up = false ∧
        ∀ l < 40, ((tapLoad ir s).lane l).cdrLocked = false) := by
  cases hpins : s.testPort.pinsTaken with
  | true =>
    have hload : tapLoad ir s = { s with testPort := { s.testPort with ir := ir } } := by simp [tapLoad, hpins]
    rw [hload]
    exact ⟨rfl, hpins, fun hfree => absurd hfree Bool.true_eq_false_eq_False⟩
  | false =>
    have hload : tapLoad ir s = takePins { s with testPort := { s.testPort with ir := ir } } := by
      simp [tapLoad, hpins, h]
    rw [hload, testPort_takePins]
    exact ⟨rfl, rfl, fun _ => ⟨rfl, fun l hl => cdrLocked_takePins _ hl⟩⟩

/-- Settles O38: each event is its rule where its guards hold; how many bytes the UART's reader has taken is the model's
free value. -/
theorem thermalAndDebugEventsComplete : Obligations.ThermalAndDebugEventsComplete := by
  unfold Obligations.ThermalAndDebugEventsComplete
  refine ⟨?cool, ?trip, ?clear, ?uart, ?idcode, ?sample, ?bypass, ?trst, ?taken⟩
  case cool =>
    rintro s x _ rfl hcool
    obtain ⟨since, warn, hwarn⟩ := unreported_thermalWarn (sampled x s).tele.temps (sampled x s)
    obtain ⟨hold, htrip⟩ := thermalTrip_cool (s := thermalWarn (sampled x s).tele.temps (sampled x s)) hcool
    have htele := tele_of_unreported hwarn
    refine ⟨_, (exec_thermalSample x s).trans (congrArg Host.Outcome.next htrip), ?_, ?_, ?_, ?_⟩
    · exact (congrArg Telemetry.temps htele).trans rfl
    · exact (congrArg Telemetry.gpio htele).trans rfl
    · exact (congrArg Telemetry.rails htele).trans rfl
    · exact (mode_of_unreported hwarn).trans rfl
  case trip =>
    intro s x k hhot hagain hfree
    obtain ⟨since, warn, hwarn⟩ := unreported_thermalWarn (sampled x s).tele.temps (sampled x s)
    have htele := tele_of_unreported hwarn
    have hread : atLeast 1000 ((sampled x s).tele.temps.getD k.val none) = true := by
      simpa [sampled] using hhot
    obtain ⟨u, htrip⟩ := thermalTrip_hot (s := thermalWarn (sampled x s).tele.temps (sampled x s)) k.isLt hread
      (by rw [htele]; exact hagain) (by rw [power_of_resetPart (resetPart_of_unreported hwarn)]; exact hfree)
    exact ⟨_, (exec_thermalSample x s).trans (congrArg Host.Outcome.next htrip), rfl,
      mem_sources_assertReset .thermal false 0 u, rfl, rfl⟩
  case clear =>
    intro s since hsince hwarn hrun
    refine ⟨_, exec_thermalWarnClear_warned hsince hwarn hrun, ?_, ?_⟩
    · rw [tele_of_unreported (unreported_raiseThermal ..)]
    · rw [now_of_resetPart (resetPart_of_unreported (unreported_raiseThermal ..))]
      rfl
  case uart =>
    intro s b hruns hroom
    refine ⟨_, s.uartTaken, exec_uartRxByte_room b hruns hroom, rfl⟩
  case idcode => exact fun s => congrArg Host.Outcome.next (tapLoad_keepsPins s (by decide))
  case sample => exact fun s => congrArg Host.Outcome.next (tapLoad_keepsPins s (by decide))
  case bypass => exact fun s => congrArg Host.Outcome.next (tapLoad_keepsPins s (by decide))
  case trst => exact fun s => rfl
  case taken =>
    intro s i ir hi
    simp only [List.mem_cons, Prod.mk.injEq, List.not_mem_nil, or_false] at hi
    obtain ⟨rfl, rfl⟩ | ⟨rfl, rfl⟩ | ⟨rfl, rfl⟩ | ⟨rfl, rfl⟩ | ⟨rfl, rfl⟩ := hi <;>
      exact ⟨_, rfl, tapLoad_takesPins s (by decide)⟩
end Sys2Proof.Machine
